-- ==== Sys2Proof/Word.lean ====
section
/-! DEFINITION. The word and identifier types of the Tuilouno module (00 R2, R3, R11-R14). -/

namespace Sys2Proof

/-- A register word (17 R481: accesses are 32 bits wide). -/
abbrev Word := BitVec 32

/-- A byte of a frame, a record or a flash image. -/
abbrev Byte := BitVec 8

/-- A byte string; cryptographic values keep the order of their standard (00 R13). -/
abbrev Bytes := List (BitVec 8)

/-- Port 0-1023 (00 R3). -/
abbrev PortId := Fin 1024

/-- Hall 0-3 (00 R3). -/
abbrev HallId := Fin 4

/-- Gallery 0-15, global (00 R3). -/
abbrev GalleryId := Fin 16

/-- Transport 0-255 (00 R3). -/
abbrev TransId := Fin 256

/-- Hard encoder input 0-15 (00 R3, 07 R219). -/
abbrev InputId := Fin 16

/-- Host session 0-5, the session of host port HP0-HP5 (14 R411). -/
abbrev SessId := Fin 6

/-- Public-key engine PKE0-PKE7 (10). -/
abbrev EngineId := Fin 8

/-- One of the seven requesters of register accesses (17 R482). -/
inductive Requester where
  | warden
  | session (s : SessId)
  deriving DecidableEq, Repr

/-- The two lock-step landings of the Loft (01 R26). -/
inductive Landing where
  | a
  | b
  deriving DecidableEq, Repr

/-- The five credited virtual channels of an Oxoth link (02 R49 Table 2.2). -/
inductive Vc where
  | vc0
  | vc1
  | vc2
  | vc3
  | vc4
  deriving DecidableEq, Repr

end Sys2Proof
end

