-- ==== Sys2Proof/Syntax.lean ====
section
/-! DEFINITION. The commands of the module: one constructor of Instr per row of spec/opcode_table.json, with the operands
the row's rule names. The table gives no bits and no fields; what a command carries is what arrives from outside the
module with it (a frame's fields, a message body, a written value, a measured outcome). -/

namespace Sys2Proof

/-- How a receiver lost synchronisation (02 R48). -/
inductive SyncLoss where
  | symbolErrors
  | noComma
  deriving DecidableEq, Repr

/-- Five credit counts, VC0 to VC4 (02 Table 2.4, CREDIT_INIT and CREDIT). -/
structure Credits where
  c0 : Nat := 0
  c1 : Nat := 0
  c2 : Nat := 0
  c3 : Nat := 0
  c4 : Nat := 0
  deriving DecidableEq, Repr

/-- The tap's HELLO payload (02 Table 2.4). -/
structure TapHello where
  version  : Byte
  tapId    : BitVec 64
  caps     : Byte
  platform : BitVec 5
  fallback : Bool
  wait     : Byte
  deriving DecidableEq, Repr

/-- A WR_CMD frame (02 Table 2.4); cs is its TAG, the CS_ID. -/
structure WrCmd where
  cs          : BitVec 16
  opcode      : Byte
  cls         : Byte
  mode        : Byte
  overlong    : Bool
  partialByte : Bool
  wel         : Bool
  addr        : Word
  count       : Nat
  deriving DecidableEq, Repr

/-- The tap-detected conditions of TAP_EVENT (02 Table 2.4). -/
inductive TapEventCode where
  | underrun
  | decodeErr
  | sbDrop
  deriving DecidableEq, Repr

/-- What patrol scrub found in the unit it read (17 Table 17.11, 04 R155, 13 R409): with deviceFailed the unit is corrected and will
be at every later read, its memory device having failed (03 R118); with unrecoverable, the ACCEPT record from which a ring
structure in the unit would be rebuilt cannot be read either. -/
inductive DramOutcome where
  | good
  | corrected
  | deviceFailed
  | uncorrectable
  | unrecoverable
  deriving DecidableEq, Repr

/-- A sampled change of A and B at a hard encoder input (07 R219). -/
inductive EncEdge where
  | aLeads
  | bLeads
  | both
  deriving DecidableEq, Repr

/-- The bytes of a frame that arrived on a port's link (02 R51). -/
structure RxFrame where
  port : PortId
  raw  : Bytes
  deriving DecidableEq, Repr

/-- The descriptor at PKE_SUB_ADDR and the input block that it points to (10 R309, R310). -/
structure PkeSubmission where
  desc  : Bytes
  block : Bytes
  deriving DecidableEq, Repr

/-- What the gateway finds on a host port (14 R411, R412): whether it has a partner, and on HP4 and HP5 the serial frame that arrived (empty
where it reports the partner itself). -/
structure PartnerObs where
  present : Bool
  raw     : Bytes
  deriving DecidableEq, Repr

/-- What one attempt at the root secret finds in the PUF SRAM (09 R276): its first 1,536 bytes after the power domain came on. -/
structure PufObs where
  sram     : Bytes
  deriving DecidableEq, Repr

/-- What the boot ROM's tests observe at a Loft reset: the PUF attempt, the engines that fail the known-answer test of
10 R328, and whether the session hash lanes and AES engine pass theirs (17 R494). -/
structure BootObs where
  puf        : PufObs
  pkeKatFail : BitVec 8
  cryptoPass : Bool
  deriving DecidableEq, Repr

/-- The hardware faults of a public-key job (10 R318, R321): verify-before-release found a difference; a word of the operand memory
was uncorrectable. -/
structure PkeFault where
  checkFault : Bool
  opmemUnc   : Bool
  deriving DecidableEq, Repr

/-- What reading the physical device at enrolment gave (14 R433): its JEDEC identification, whether it has SFDP, and the
parameters that SFDP states. -/
structure DeviceRead where
  jedec      : Bytes
  hasSfdp    : Bool
  eraseTypes : BitVec 3
  maxEraseMs : Nat
  maxProgUs  : Nat
  typErase4Ms  : Nat
  typErase32Ms : Nat
  typErase64Ms : Nat
  typProgUs  : Nat
  byteProgUs : Nat
  byteMoreUs : Nat
  typChipMs  : Nat
  pageSize   : Nat
  readOp     : Byte
  progOp     : Byte
  erase4Op   : Byte
  erase32Op  : Byte
  erase64Op  : Byte
  mode       : Byte
  addrBytes  : Nat
  dummy      : Nat
  clockMhz   : Nat
  deriving DecidableEq, Repr

/-- Who asks for a TAP_PROMOTE (09 R291): a host KEY_OP, or the Loft after a PENDING match. -/
inductive PromoteSrc where
  | host (s : SessId) (body : Bytes)
  | loft (p : PortId)
  deriving DecidableEq, Repr

/-- The four reset domains whose shadows can end (13 Table 13.9, R395). -/
inductive Domain where
  | port (p : PortId)
  | gallery (g : GalleryId)
  | hall (h : HallId)
  | engine (e : EngineId)
  | session (s : SessId)
  deriving DecidableEq, Repr

/-- The gateway's counters and health (14 Table 14.2), with the address in use of HP0 and HP1 (Table 14.13). -/
structure GwReport where
  addr0 : Word
  addr1 : Word
  deriving DecidableEq, Repr

/-- How the pulses of the running OTP command ended (11 R339): every cell verified, or a bit failed three pulses; the
cells that verified but are weak at MARGIN_1 are physical and reported here. -/
structure OtpOutcome where
  failedBit : Option Nat
  weak      : BitVec 40
  deriving DecidableEq, Repr

/-- One reading of the supply and its reserve (17 Table 17.14): volts in 0.1 V, watts, millivolts, 0.1 J. -/
structure SupplyReading where
  vrms   : Nat
  freq   : Nat
  bulk   : Nat
  inputW : Nat
  bankMv : Nat
  energy : Nat
  deriving DecidableEq, Repr

/-- Eight temperatures in 0.1 degree, none where a sensor does not answer; a value outside 16 bits reads out of range (15
R461). -/
structure SensorReading where
  temps : List (Option Int)
  deriving DecidableEq, Repr

/-- A command of the module: one constructor per row of spec/opcode_table.json. -/
inductive Instr where
  -- the Oxoth link (02)
  | tapDetect (p : PortId)
  | linkTrained (p : PortId)
  | trainingWindowExpiry (p : PortId)
  | trainRetryTimer (p : PortId)
  | lossOfSync (p : PortId) (why : SyncLoss)
  | linkIdleEnd (p : PortId)
  | creditWindowExpiry (p : PortId) (v : Vc)
  | replayWindowExpiry (p : PortId)
  | nakRepeatTimer (p : PortId)
  | frameCrcError (f : RxFrame)
  | frameProtocolError (p : PortId) (raw : Bytes)
  | frameOutOfSequence (p : PortId) (seq : BitVec 8)
  | ack (p : PortId) (ackSeq : Option (BitVec 8)) (nak : Bool) (v : Vc) (n : Fin 16)
  | helloFrame (p : PortId) (h : TapHello)
  | pairResp (p : PortId) (rt ct : Bytes)
  | pairDone (p : PortId)
  | pairFail (p : PortId) (reason : Byte)
  | pairingWindowExpiry (p : PortId)
  | creditInit (p : PortId) (c : Credits)
  | credit (p : PortId) (c : Credits)
  | linkDownFrame (p : PortId)
  -- platform traffic (03, 04)
  | rdReq (p : PortId) (cs : BitVec 16) (addr : Word) (opcode mode : Byte)
  | rdStop (p : PortId) (cs : BitVec 16) (bytes : Nat)
  | wrCmd (p : PortId) (c : WrCmd)
  | wrData (p : PortId) (cs : BitVec 16) (data : Bytes)
  | admissionResume (p : PortId)
  | flDataIn (p : PortId) (op : BitVec 16) (data : Bytes)
  | flDone (p : PortId) (op : BitVec 16) (result status : Byte) (busyUs : Nat)
  | sbMsg (p : PortId) (data : Bytes)
  | positionReport (p : PortId) (data : Bytes)
  | imageReport (p : PortId) (data : Bytes)
  | confirmation (p : PortId) (data : Bytes)
  | pwdService (p : PortId) (data : Bytes)
  | attnDone (p : PortId) (id : BitVec 16)
  | tapEvent (p : PortId) (e : TapEventCode) (cs : BitVec 16)
  | ctrlAck (p : PortId) (id : BitVec 16) (lines : BitVec 6)
  | lines (p : PortId) (lines : BitVec 6)
  | attnClrTimer (p : PortId)
  | attentionWindowExpiry (p : PortId)
  | refillStart (p : PortId)
  | mirIdxDataWrite (h : HallId) (r : Requester) (hi : Bool) (v : Word)
  | validate (h : HallId) (r : Requester) (bank : Bool)
  | arm (h : HallId) (r : Requester)
  | disarm (h : HallId) (r : Requester)
  | mirPortCfgWrite (h : HallId) (r : Requester) (timing : Bool) (v : Word)
  | commitStart (p : PortId)
  | allow (h : HallId) (r : Requester) (count : Nat)
  | refuse (h : HallId) (r : Requester) (count : Nat)
  | authWindowExpiry (p : PortId)
  | journalCheckpointTimer (h : HallId)
  | readbackStart (p : PortId)
  | patrolScrubRead (h : HallId) (unit : Nat) (o : DramOutcome)
  | ringQuery (s : SessId) (body : Bytes)
  | ringDetail (s : SessId) (body : Bytes)
  | ringDecide (s : SessId) (body : Bytes)
  | ringSummary (s : SessId) (body : Bytes)
  -- verification and gleaning (05)
  | gleanerReadStart (h : HallId)
  | gleanerCycleDeadline (p : PortId)
  | healJobStart (p : PortId)
  | run (h : HallId) (r : Requester)
  -- start, release, departure, shutter (06)
  | mainsStable (m : SupplyReading)
  | loftResetRelease (o : BootObs)
  | pufRetryTimer (o : PufObs)
  | wardenStart
  | dramTrainingDone (h : HallId) (ok : Bool) (laneFail : BitVec 8)
  | barnReplayDone (h : HallId)
  | tapPhyGalleryPowerOn
  | bringupWindowExpiry
  | flightDecision (h : HallId)
  | groupWaitExpiry (h : HallId) (group : BitVec 8)
  | hallGroupReport (h : HallId) (group : BitVec 8)
  | bootWindowExpiry (p : PortId)
  | rateSampleTick
  | release (h : HallId) (r : Requester)
  | reset (h : HallId) (r : Requester)
  | reverify (h : HallId) (r : Requester)
  | departPortStart (p : PortId)
  | powerFailWarning
  | shutterHallHandoff
  | shutterDomainsOff
  | shutterEnd
  -- line position and seals (07)
  | encoderCount (n : InputId) (e : EncEdge)
  | indexEdge (n : InputId)
  | lineFault (n : InputId)
  | rateMeasureTick (n : InputId)
  | transportIdleTimeout (t : TransId)
  | idleGapTimer (t : TransId)
  | idleGapExpiry (t : TransId)
  | gapWindowExpiry (t : TransId)
  | gapGuaranteeEnd (t : TransId)
  | gapOpenNotice (h : HallId)
  | gapCloseNotice (h : HallId)
  | deferWindowExpiry (p : PortId)
  | hallChangeReport (h : HallId)
  | sheafTimer (t : TransId)
  | sealRecovery (t : TransId)
  | sealFlush (r : Requester) (tr : BitVec 9)
  | sealStatus (s : SessId) (body : Bytes)
  | sealRecords (s : SessId) (body : Bytes)
  | sealSheaf (s : SessId) (body : Bytes)
  | sealFlushReq (s : SessId) (body : Bytes)
  | lpTrSelWrite (r : Requester) (t : TransId)
  | commit (r : Requester)
  | faultClr (r : Requester)
  | reload (r : Requester)
  | lpTieDataWrite (r : Requester) (v : Word)
  | tieWriteArrival (h : HallId)
  -- updates (08)
  | stageOpen (s : SessId) (body : Bytes)
  | stageBlock (s : SessId) (body : Bytes)
  | stageStatus (s : SessId) (body : Bytes)
  | stageClose (s : SessId) (body : Bytes)
  | stageTreeComputed (handle : Nat)
  | barnWriteDurable
  | stageDiscard (s : SessId) (body : Bytes)
  | stageList (s : SessId) (body : Bytes)
  | manifestLoad (s : SessId) (body : Bytes)
  | manifestCheck (s : SessId) (body : Bytes)
  | manifestActivate (s : SessId) (body : Bytes)
  | manifestStatus (s : SessId) (body : Bytes)
  | manifestCancel (s : SessId) (body : Bytes)
  | manifestHistory (s : SessId) (body : Bytes)
  | manifestDiscard (s : SessId) (body : Bytes)
  | actDrainDone
  | actCopy
  | confirmWindowExpiry (p : PortId)
  | wdnSlotWritten (back : Bytes)
  | loadStandby (src : Landing) (key : BitVec 16)
  | ready (src : Landing) (key : BitVec 16)
  | standbyReadyTimeout
  | handOver (src : Landing) (key : BitVec 16)
  | confirm (src : Landing) (key : BitVec 16)
  | handBack (src : Landing) (key : BitVec 16)
  | trialWindowExpiry
  -- keys and attestation (09)
  | set (s : SessId) (body : Bytes)
  | clear (s : SessId) (body : Bytes)
  | epochRoll (s : SessId) (body : Bytes)
  | epochBurnDone (ok : Bool)
  | tapSet (s : SessId) (body : Bytes)
  | tapPromote (src : PromoteSrc)
  | tapClear (s : SessId) (body : Bytes)
  | attest (s : SessId) (body : Bytes)
  | quote (s : SessId) (body : Bytes)
  | keyPublic (s : SessId) (body : Bytes)
  | grnClear (r : Requester)
  | invalidate (r : Requester)
  | derive (r : Requester) (v : Word)
  | grnLimitWrite (r : Requester) (v : Word)
  -- public-key engines (10)
  | submit (r : Requester) (e : EngineId) (pin : Bool) (d : PkeSubmission)
  | abort (r : Requester) (e : EngineId)
  | pkeGrant (e : EngineId)
  | pkeJobDone (e : EngineId) (f : PkeFault)
  | pkeAbortZeroed (e : EngineId)
  | pkeStallTimeout (e : EngineId)
  | katRun (r : Requester) (e : EngineId)
  | pkeEnableWrite (r : Requester) (e : EngineId) (v : Bool)
  -- one-time-programmable memory (11)
  | program (r : Requester) (key : BitVec 16)
  | programTwin (r : Requester) (key : BitVec 16)
  | lock (r : Requester) (key : BitVec 16) (acceptIncomplete : Bool)
  | repulse (r : Requester) (key : BitVec 16)
  | marginRead (r : Requester) (key : BitVec 16)
  | otpCommandDone (o : OtpOutcome)
  -- watchdogs (12)
  | wwdKick (src : Option Landing) (v : Word)
  | wwdExpiry
  | lwdKick (src : Option Landing) (v : Word)
  | lwdExpiry
  | clockMonitorTrip
  | loftWdResetFlushed
  | pwdExpiry (p : PortId)
  | clearCount (h : HallId) (r : Requester)
  -- faults and recovery (13, 17)
  | lockstepMismatch (l : Landing)
  | historyPass
  | shadowEnd (d : Domain)
  | alarmPulseEnd
  | alarmContactFault
  | linkReset (h : HallId) (r : Requester) (key : BitVec 16)
  | hallReset (h : HallId) (r : Requester) (key : BitVec 16)
  | hallResetAckTimeout (h : HallId)
  | hallResetRelease (h : HallId)
  | modresetCountClear
  | errInjWrite (r : Requester) (page : BitVec 9) (v : Word)
  | reactSelWrite (r : Requester) (page : BitVec 9) (v : Word)
  | test (r : Requester)
  | stairCrcError (h : HallId)
  -- host sessions (14)
  | partner (s : SessId) (o : PartnerObs)
  | gwStatus (g : GwReport)
  | gwSilentTimeout
  | crossingFrameDrop (inward : Bool) (raw : Bytes)
  | hello (s : SessId) (body : Bytes)
  | proof (s : SessId) (body : Bytes)
  | proofWindowExpiry (s : SessId)
  | portBlockExpiry (s : SessId)
  | sealedRequestFail (s : SessId) (repeated : Bool)
  | close (s : SessId) (body : Bytes)
  | ping (s : SessId) (body : Bytes)
  | sessionInfo (s : SessId) (body : Bytes)
  | pageRead (s : SessId) (body : Bytes)
  | pageWrite (s : SessId) (body : Bytes)
  | pageModify (s : SessId) (body : Bytes)
  | pageRights (s : SessId) (body : Bytes)
  | eventFilter (s : SessId) (body : Bytes)
  | eventFetch (s : SessId) (body : Bytes)
  | eventStatus (s : SessId) (body : Bytes)
  | sessionRecordTaken (s : SessId)
  | drainTimeout (s : SessId)
  | sessionIdleTimeout (s : SessId)
  | portStatus (s : SessId) (body : Bytes)
  | portEnrol (s : SessId) (body : Bytes) (dev : DeviceRead)
  | portRetire (s : SessId) (body : Bytes)
  | enter (s : SessId) (body : Bytes)
  | enterDiscard (s : SessId) (body : Bytes)
  | quarantineRelease (s : SessId) (body : Bytes)
  | departRequest (s : SessId) (body : Bytes)
  | departCancel (s : SessId) (body : Bytes)
  | portInfo (s : SessId) (body : Bytes)
  | svcStatus (s : SessId) (body : Bytes)
  | svcChallenge (s : SessId) (body : Bytes)
  | svcChallengeExpiry
  | svcReopen (s : SessId) (body : Bytes)
  | svcClose (s : SessId) (body : Bytes)
  | sesClose (s : SessId) (r : Requester) (key : BitVec 16)
  | gwConfigSend
  -- supply, domains, environment (15, 17)
  | mainsOutOfLimits
  | bulkBelow380
  | mainsReturn
  | chargerRestart
  | reserveReadyTimeout
  | reserveTestStart
  | reserveTestEnd (capMf esr full : Nat)
  | domainTrip (d : Fin 1074)
  | domainRetryTimer (p : PortId)
  | sensorSample (m : SensorReading)
  | on (r : Requester)
  | off (r : Requester)
  | pwrResTest (r : Requester)
  -- registers (17)
  | cntClear (r : Requester) (page : BitVec 9)
  | cfgLock (r : Requester) (page : BitVec 9)
  | errLock (r : Requester) (page : BitVec 9)
  | loRegisterRead (r : Requester) (page : BitVec 9) (off : BitVec 12)
  | pwStateRead (r : Requester) (g : GalleryId)
  | registerWrite (page : BitVec 9) (off : BitVec 12) (v : Word)
  -- further events of the table
  | symbolLock (p : PortId)
  | trainingSequenceReceived (p : PortId)
  | dpInputChange (n : InputId) (level : Bool)
  | sheafLate (t : TransId)
  | reserveReady
  | pkeKatDone (e : EngineId) (pass : Bool)
  | hshTestDone (h : HallId) (failed : BitVec 8)
  | retainedStoreRefresh
  deriving DecidableEq, Repr

end Sys2Proof
end

