-- ==== Sys2Proof/Config.lean ====
section
/-! DEFINITION. What the spec leaves to the implementation or to a random source: constants without a body, so no proof
can use a value of them (log 4). -/

namespace Sys2Proof

/-- Byte i of the n-th draw from the module's random source (02 R64 Cm, 07, 09, 14 R420): free. -/
opaque Config.random : Nat → Nat → BitVec 8

/-- A value the spec does not state, by the number of the draw: free. -/
opaque Config.freeNat : Nat → Nat

/-- The data of factory-programmed OTP row r, different in every module (11 R335): free. -/
opaque Config.otpRow : Nat → Nat

/-- Byte i of helper copy A or B in the security register areas, different in every module (09 R276): free. -/
opaque Config.helper : Bool → Nat → BitVec 8

/-- The hall-local DRAM unit (64 bytes) that holds policy bank 0 (false) or 1 (true) of a local port: 03 R103 and 01 Table 1.2
place the policy index in the trees and index area and give no address: free. -/
opaque Config.bankUnit : Nat → Bool → Nat

/-- Byte i of Loft flash slot A (0) or B (1) as shipped (08 R264): free. -/
opaque Config.flash : Nat → Nat → BitVec 8

/-- ROM_REV of ROOT_PART, the boot ROM revision (17 Table 17.8 gives no number): free. -/
opaque Config.romRev : BitVec 8

/-- Fields of the emulated SFDP that neither the spec nor the enrolment record gives (03 Table 3.5: the entry sequence code of
BFPT DWORD 19, the byte program and chip erase times of DWORD 11 without a device read), by DWORD, DUMMY_N and SCK_MHZ: free. -/
opaque Config.sfdpWord : Nat → Nat → Nat → BitVec 32

/-- Cycles of a phase of a public-key job (10 Table 10.4, Table 10.7: the spec gives bounds and nominal times), by what of R317 it may depend
on: the phase, CMD, ALG, LEN_BITS, MSG_LEN, the words moved, the prime candidates tried: free. -/
opaque Config.pkeSpan : Nat → List Nat → Nat

end Sys2Proof
end

