-- ==== Sys2Proof/Machine/Digest.lean ====
section
/-! DEFINITION. The digest functions the spec names by their standard: SHA-256, SHA-384 and SHA-512 (FIPS 180-4), HMAC
(FIPS 198-1), and CRC-32C (02 R50). PRESUMED: the text of the FIPS standards is not in spec/ (log 5). -/

namespace Sys2Proof.Machine

/-- n bytes of v, most significant first. -/
def beBytes : Nat → Nat → Bytes
  | 0, _ => []
  | n + 1, v => BitVec.ofNat 8 (v / 256 ^ n) :: beBytes n (v % 256 ^ n)

/-- The number a byte string writes, most significant byte first. -/
def beNat (b : Bytes) : Nat := b.foldl (fun a x => a * 256 + x.toNat) 0

/-- The first n groups of k elements of a list. -/
def groups {α : Type} (k : Nat) : Nat → List α → List (List α)
  | 0, _ => []
  | n + 1, l => l.take k :: groups k n (l.drop k)

/-- The largest r whose k-th power is at most x, found bit by bit from bit n down. -/
def rootFrom (k x : Nat) : Nat → Nat → Nat
  | 0, r => r
  | n + 1, r => rootFrom k x n (if (r + 2 ^ n) ^ k ≤ x then r + 2 ^ n else r)

/-- The first w bits of the fractional part of the k-th root of p. -/
def rootFrac (k w p : Nat) : Nat := rootFrom k (p * 2 ^ (k * w)) (w + 5) 0 % 2 ^ w

/-- The primes below n, rising. -/
def primesBelow (n : Nat) : List Nat :=
  (List.range n).foldl (fun ps m => if m < 2 || ps.any (fun q => m % q == 0) then ps else ps ++ [m]) []

/-- The first 80 primes. -/
def shaPrimes : List Nat := primesBelow 410

/-- The round constants of w bits: the fractional parts of the cube roots of the first primes (FIPS 180-4). -/
def shaConsts (w n : Nat) : List (BitVec w) := (shaPrimes.take n).map (fun p => BitVec.ofNat w (rootFrac 3 w p))

/-- Padding of FIPS 180-4: a 1 bit, zeros, the bit length in lenBytes bytes; block bytes blk. -/
def sha2Pad (blk lenBytes : Nat) (m : Bytes) : Bytes :=
  let z := (2 * blk - (m.length + 1 + lenBytes) % blk) % blk
  m ++ [0x80] ++ List.replicate z 0 ++ beBytes lenBytes (8 * m.length)

/-- The eight working variables of a compression. -/
structure ShaRegs (w : Nat) where
  a : BitVec w
  b : BitVec w
  c : BitVec w
  d : BitVec w
  e : BitVec w
  f : BitVec w
  g : BitVec w
  h : BitVec w

/-- The rotation and shift amounts of one SHA-2 size. -/
structure ShaAmounts where
  s0 : Nat × Nat × Nat
  s1 : Nat × Nat × Nat
  m0 : Nat × Nat × Nat
  m1 : Nat × Nat × Nat

/-- The large sigma functions: three rotations. -/
def shaBig {w : Nat} (t : Nat × Nat × Nat) (x : BitVec w) : BitVec w :=
  x.rotateRight t.1 ^^^ x.rotateRight t.2.1 ^^^ x.rotateRight t.2.2

/-- The small sigma functions: two rotations and a shift. -/
def shaSmall {w : Nat} (t : Nat × Nat × Nat) (x : BitVec w) : BitVec w :=
  x.rotateRight t.1 ^^^ x.rotateRight t.2.1 ^^^ (x >>> t.2.2)

/-- One round with round constant k, the schedule held as a window of 16 words. -/
def shaRound {w : Nat} (q : ShaAmounts) (k : BitVec w) (st : ShaRegs w × List (BitVec w)) : ShaRegs w × List (BitVec w) :=
  let r := st.1
  let win := st.2
  let wt := win.headD 0
  let nw := shaSmall q.m1 (win.getD 14 0) + win.getD 9 0 + shaSmall q.m0 (win.getD 1 0) + wt
  let t1 := r.h + shaBig q.s1 r.e + ((r.e &&& r.f) ^^^ (~~~r.e &&& r.g)) + k + wt
  let t2 := shaBig q.s0 r.a + ((r.a &&& r.b) ^^^ (r.a &&& r.c) ^^^ (r.b &&& r.c))
  (⟨t1 + t2, r.a, r.b, r.c, r.d + t1, r.e, r.f, r.g⟩, win.drop 1 ++ [nw])

/-- The compression of one block. -/
def shaBlock {w : Nat} (q : ShaAmounts) (ks : List (BitVec w)) (h : ShaRegs w) (block : Bytes) : ShaRegs w :=
  let ws := (groups (w / 8) 16 block).map (fun g => BitVec.ofNat w (beNat g))
  let r := (ks.foldl (fun st k => shaRound q k st) (h, ws)).1
  ⟨h.a + r.a, h.b + r.b, h.c + r.c, h.d + r.d, h.e + r.e, h.f + r.f, h.g + r.g, h.h + r.h⟩

/-- The digest bytes of the working variables. -/
def shaBytes {w : Nat} (r : ShaRegs w) : Bytes :=
  [r.a, r.b, r.c, r.d, r.e, r.f, r.g, r.h].flatMap (fun x => beBytes (w / 8) x.toNat)

/-- The working variables that a hash starts from: the fractional parts of the square roots of eight primes, the first of
which is number i (FIPS 180-4). -/
def shaStart (w i : Nat) : ShaRegs w :=
  match (shaPrimes.drop i).map (fun p => BitVec.ofNat w (rootFrac 2 w p)) with
  | a :: b :: c :: d :: e :: f :: g :: h :: _ => ⟨a, b, c, d, e, f, g, h⟩
  | _ => ⟨0, 0, 0, 0, 0, 0, 0, 0⟩

/-- The blocks of a padded message, compressed in turn. -/
def shaRun {w : Nat} (q : ShaAmounts) (ks : List (BitVec w)) (h : ShaRegs w) (m : Bytes) : Bytes :=
  let p := sha2Pad (2 * w) (w / 4) m
  shaBytes ((groups (2 * w) (p.length / (2 * w)) p).foldl (shaBlock q ks) h)

/-- The amounts of the 32-bit and of the 64-bit functions. -/
def shaAmt32 : ShaAmounts := ⟨(2, 13, 22), (6, 11, 25), (7, 18, 3), (17, 19, 10)⟩
def shaAmt64 : ShaAmounts := ⟨(28, 34, 39), (14, 18, 41), (1, 8, 7), (19, 61, 6)⟩

/-- SHA-256 of a byte string, 32 bytes. -/
def sha256 (m : Bytes) : Bytes := shaRun shaAmt32 (shaConsts 32 64) (shaStart 32 0) m

/-- SHA-512 of a byte string, 64 bytes. -/
def sha512 (m : Bytes) : Bytes := shaRun shaAmt64 (shaConsts 64 80) (shaStart 64 0) m

/-- SHA-384 of a byte string, 48 bytes: it starts from the ninth prime. -/
def sha384 (m : Bytes) : Bytes := (shaRun shaAmt64 (shaConsts 64 80) (shaStart 64 8) m).take 48

/-- HMAC of FIPS 198-1 over a hash with blk-byte blocks. -/
def hmac (hash : Bytes → Bytes) (blk : Nat) (key msg : Bytes) : Bytes :=
  let k0 := if key.length > blk then hash key else key
  let k := k0 ++ List.replicate (blk - k0.length) 0
  hash (k.map (· ^^^ 0x5c) ++ hash (k.map (· ^^^ 0x36) ++ msg))

/-- HMAC-SHA-256 (02 R64). -/
def hmacSha256 (key msg : Bytes) : Bytes := hmac sha256 64 key msg

/-- HMAC-SHA-384 (09, 14). -/
def hmacSha384 (key msg : Bytes) : Bytes := hmac sha384 128 key msg

/-- One step of the reflected CRC-32C register (02 R50; the polynomial 0x1EDC_6F41 reflected is 0x82F6_3B78). -/
def crcBit (c : BitVec 32) : BitVec 32 :=
  if c.getLsbD 0 then (c >>> 1) ^^^ 0x82F63B78 else c >>> 1

/-- Eight steps of the CRC register for one byte. -/
def crcByte (c : BitVec 32) (b : Byte) : BitVec 32 :=
  crcBit (crcBit (crcBit (crcBit (crcBit (crcBit (crcBit (crcBit (c ^^^ b.setWidth 32))))))))

/-- CRC-32C of a byte string (02 R50). -/
def crc32c (m : Bytes) : BitVec 32 := (m.foldl crcByte 0xFFFFFFFF) ^^^ 0xFFFFFFFF

end Sys2Proof.Machine
end

