-- ==== Sys2Proof/Machine/Bytes.lean ====
section
/-! DEFINITION. Little-endian fields (00 R13), and sparse tables keyed by a number: an unlisted key holds the default. -/

namespace Sys2Proof.Machine

/-- n bytes of v, least significant first (00 R13). -/
def le : Nat → Nat → Bytes
  | 0, _ => []
  | n + 1, v => BitVec.ofNat 8 v :: le n (v / 256)

/-- The number a byte string writes, least significant byte first (00 R13). -/
def leNat : Bytes → Nat
  | [] => 0
  | b :: t => b.toNat + 256 * leNat t

/-- n bytes from offset o of a byte string. -/
def sub (b : Bytes) (o n : Nat) : Bytes := (b.drop o).take n

/-- The little-endian number in n bytes from offset o. -/
def num (b : Bytes) (o n : Nat) : Nat := leNat (sub b o n)

/-- The bits hi down to lo of a number (00 R12). -/
def bits (v hi lo : Nat) : Nat := v / 2 ^ lo % 2 ^ (hi + 1 - lo)

/-- Bit n of a number (00 R12). -/
def bit (v n : Nat) : Bool := v / 2 ^ n % 2 == 1

/-- A bit as a number. -/
def b2n (b : Bool) : Nat := if b then 1 else 0

/-- n zero bytes. -/
def zeros (n : Nat) : Bytes := List.replicate n 0

/-- A counter of w bits that saturates (17 R488). -/
def satAdd (w v d : Nat) : Nat := min (v + d) (2 ^ w - 1)

/-- Quotient rounded up. -/
def ceilDiv (a b : Nat) : Nat := (a + b - 1) / b

/-- A table keyed by number; an unlisted key holds the default. -/
abbrev Tab (α : Type) := List (Nat × α)

/-- The entry of key k, d when it is not listed. -/
def tabGet {α : Type} (d : α) : Tab α → Nat → α
  | [], _ => d
  | (a, b) :: t, k => if k = a then b else tabGet d t k

/-- The table with key k holding v; keys are kept rising. -/
def tabSet {α : Type} : Tab α → Nat → α → Tab α
  | [], k, v => [(k, v)]
  | (a, b) :: t, k, v =>
    if k = a then (k, v) :: t else if k < a then (k, v) :: (a, b) :: t else (a, b) :: tabSet t k v

/-- The table without key k. -/
def tabDel {α : Type} (t : Tab α) (k : Nat) : Tab α := t.filter (fun e => e.1 != k)

/-- The listed entry of key k, if any. -/
def tabFind {α : Type} (t : Tab α) (k : Nat) : Option α := (t.find? (fun e => e.1 == k)).map (·.2)

/-- Apply f to every element of a list in turn. -/
def each {α σ : Type} (l : List α) (f : α → σ → σ) (s : σ) : σ := l.foldl (fun a x => f x a) s

end Sys2Proof.Machine
end

