-- ==== Sys2Proof/Machine/HallTypes.lean ====
section
/-! DEFINITION. The records a hall controller keeps: link, streams, policy banks, ring entries, digest trees, the gleaner,
release and gap state of a port, and the hall's own registers (02 to 07). Reset values are the default values of the
fields; a value the spec does not give is named in the assumption log. -/

namespace Sys2Proof.Machine

/-- A closed interval of cycles of the deciding clock (00 R7). -/
structure Window where
  opn : Nat
  dl  : Nat
  deriving DecidableEq, Repr

/-- The port states of 01 Table 1.8. -/
inductive PortState where
  | absent
  | linking
  | pairing
  | held
  | verifying
  | released
  | adopted
  | quarantined
  | retired
  deriving DecidableEq, Repr

/-- The module states of 01 Table 1.10. -/
inductive ModState where
  | cold
  | loftBoot
  | hallBringup
  | verify
  | serving
  | departing
  | shutter
  deriving DecidableEq, Repr

/-- A frame the module sends (02 Table 2.2); vc none is link control. -/
structure Frame where
  vc      : Option Vc
  type    : Nat
  seq     : BitVec 8 := 0
  resp    : Bool := false
  tag     : BitVec 16 := 0
  ackSeq  : Option (BitVec 8) := none
  nak     : Bool := false
  credit  : Option (Vc × Nat) := none
  payload : Bytes := []
  deriving DecidableEq, Repr

/-- A symbol of a frame on the line: a control character K x.y or a byte (02 Table 2.1). -/
inductive Symbol where
  | k (x y : Nat)
  | d (b : Byte)
  deriving DecidableEq, Repr

/-- The steps of link training (02 Table 2.6). -/
inductive TrainPhase where
  | off
  | detected
  | lock
  | ts1
  | ts2
  | trained
  deriving DecidableEq, Repr

/-- The steps of pairing (02 Table 2.7): what the module waits for. -/
inductive PairPhase where
  | none
  | hello
  | resp
  | done
  | creditInit
  | tables
  | paired
  | failed
  deriving DecidableEq, Repr

/-- Why a VC4 frame was sent (02 R56): what its CTRL_ACK completes. -/
inductive CtlKind where
  | table
  | pairing
  | release
  | takeover
  | assertReset
  | depart
  | other
  deriving DecidableEq, Repr

/-- An ATTN whose ATTN_DONE is awaited (02 R71): its identifier, cause code, the entries whose refusal it reports, and
the read-path reaction it delays (03 R119: true for quarantine, false for reset) with its attention window and the cycle time of the history entry
of its cause. -/
structure Attn where
  id      : BitVec 16
  cause   : Nat
  seqs    : List Nat := []
  react   : Option Bool := none
  win     : Option Window := none
  time    : Nat := 0
  deriving DecidableEq, Repr

/-- The link layer of one port (02). -/
structure Link where
  phase     : TrainPhase := .off
  up        : Bool := false
  trainWin  : Option Window := none
  retryEnd  : Option Nat := none
  idleEnd   : Option Nat := none
  lastComma : Nat := 0
  txSeq     : BitVec 8 := 0
  rxExp     : BitVec 8 := 0
  replay    : List Frame := []
  replayWin : Option Window := none
  replaying : Option (BitVec 8) := none
  failed    : Nat := 0
  nakEnd    : Option Nat := none
  credits   : Credits := {}
  txq       : List Frame := []
  run0      : Nat := 0
  stalls    : Tab (Window × Nat) := []
  pair      : PairPhase := .none
  pairWin   : Option Window := none
  again     : Bool := false
  cm        : Bytes := []
  tapId     : BitVec 64 := 0
  caps      : Byte := 0
  platform  : BitVec 5 := 0
  fallback  : Bool := false
  wait      : Byte := 0
  fbStored  : Bool := false
  waitStored : Byte := 0
  newMatch  : Bool := false
  pairCtl   : Option (BitVec 16) := none
  ctlDone   : Bool := false
  holdLock  : Bool := false
  locks     : List (BitVec 16 × Bool) := []
  lines     : BitVec 6 := 0
  cs        : BitVec 16 := 0
  nextCtl   : BitVec 16 := 0
  nextOp    : BitVec 16 := 0
  nextAttn  : BitVec 16 := 0
  ctls      : List (BitVec 16 × CtlKind) := []
  attns     : List Attn := []
  attnClr   : Option Nat := none
  attnLow   : Bool := false
  sh4       : Nat := 0
  crcErr    : Nat := 0
  protoErr  : Nat := 0
  nakCnt    : Nat := 0
  replayCnt : Nat := 0
  credLate  : Nat := 0
  trainFail : Nat := 0
  los       : Nat := 0
  underrun  : Nat := 0
  decodeErr : Nat := 0
  sbDrop    : Nat := 0
  deriving DecidableEq, Repr

/-- An open platform read stream (02 R75, 03 R110): its chip select, next address, bound bank, whether R94 or R119 makes
every further byte 0xFF, whether a byte was substituted, whether its denied read was logged. -/
structure Stream where
  cs     : BitVec 16
  next   : Nat
  start  : Nat
  bank   : Bool
  allFF  : Bool
  failed : Bool := false
  subst  : Bool := false
  logged : Bool := false
  deriving DecidableEq, Repr

/-- A policy bank (03 R103): the first 8 bytes of the header (entry 0) and of the region entries n + 1, by entry
number, and its VALID bit. -/
structure Bank where
  words : Tab Nat := []
  valid : Bool := false
  deriving DecidableEq, Repr

/-- A WR_CMD waiting for its data or in the admission slot (04 R127, R135): the bank bound to its chip select, the data
received, the hall cycle of arrival, and, once rows 2 to 8 have decided it, its policy with the class of a CHAINED one. -/
structure WrPend where
  cmd     : WrCmd
  bank    : Bool
  data    : Bytes := []
  arrival : Nat := 0
  decided : Option (Nat × Option Nat) := none
  deriving DecidableEq, Repr

/-- The timing that a tap holds: MIR_PORT_TIMING as it was when the tables of its pairing were loaded (03 R125). -/
structure TapTiming where
  sck     : Nat := 0
  band    : Nat := 0
  ponMode : Nat := 0
  pon4b   : Bool := false
  deriving DecidableEq, Repr

/-- The mirror state of one port (03): cmds counts the commands of each class that 03 Table 3.2 logs, csAt is the hall cycle
of the first frame of the present chip select. -/
structure MirPort where
  enrLen  : Nat := 0
  sck     : Nat := 0
  band    : Nat := 0
  ponMode : Nat := 0
  pon4b   : Bool := false
  bank0   : Bank := {}
  bank1   : Bank := {}
  active  : Bool := false
  armed   : Bool := false
  csValid : Bool := false
  csNew   : BitVec 16 := 0
  csWait  : Bool := false
  csAt    : Option Nat := none
  tap     : TapTiming := {}
  stream  : Option Stream := none
  wel     : Bool := false
  wr      : Option WrPend := none
  cmds    : Tab Nat := []
  refill  : List Nat := []
  deriving DecidableEq, Repr

/-- The states of a ring entry (04 Table 4.5). -/
inductive EState where
  | accepted
  | held
  | committing
  | committed
  | refused
  | partial_
  | lost
  deriving DecidableEq, Repr

/-- The kinds of a ring entry (04 Table 4.3). -/
inductive EKind where
  | program
  | erase4k
  | erase32k
  | erase64k
  deriving DecidableEq, Repr

/-- An entry of a port's rings (04 Table 4.3) with its page buffer, its placed data, and the detail of RING_DETAIL. -/
structure Entry where
  seq      : Nat
  state    : EState
  kind     : EKind
  policy   : Nat
  cls      : Nat := 0
  chained  : Bool := false
  qheld    : Bool := false
  readback : Bool := false
  off      : Nat
  cause    : Nat := 0
  regTag   : Nat := 0
  bankTag  : Nat := 0
  accTime  : Nat := 0
  slot     : Nat := 0
  holds    : Bool := true
  inView   : Bool := true
  chip     : Bool := false
  buf      : Bytes := []
  placed   : Bytes := []
  win      : Option Window := none
  finTime  : Nat := 0
  decider  : Nat := 0
  session  : Nat := 0xFF
  rbClass  : Nat := 0xFF
  found    : Bool := false
  foundDig : Bytes := []
  intent   : Bool := false
  jlost    : Bool := false
  deriving DecidableEq, Repr

/-- One physical flash operation to be sent as an FL_OP (02 Table 2.4). -/
structure FlReq where
  opcode : Nat
  addr   : Nat
  out    : Bytes := []
  inCnt  : Nat := 0
  wren   : Bool := false
  poll   : Bool := false
  limit  : Nat := 0
  deriving DecidableEq, Repr

/-- What a VC2 job does (04 R141 to R153, 05 R169 to R182, 08 R258, R262). -/
inductive JobKind where
  | commit (seq : Nat)
  | readback (seq : Nat) (again : Bool)
  | reissue (seq : Nat)
  | fill (leaf : Nat)
  | refetch (leaf : Nat)
  | refill (leaf : Nat)
  | glean (leaf : Nat) (confirm failed : Bool) (win : Option Nat)
  | healWrite
  | healCheck (leaf : Nat)
  | copyWrite
  | copyCheck (leaf : Nat)
  deriving DecidableEq, Repr

/-- A VC2 job in progress: the identifier of its FL_OP, the operation sent, the operations still to send, the bytes
received for this operation and for the whole job, whether this read is a repeat, whether the operation waits because none may be
sent now (04 R140, 06 R211), and whether its bytes wait for a hash lane (01 R34, 05 R185). -/
structure VcJob where
  kind  : JobKind
  op    : BitVec 16
  req   : FlReq
  todo  : List FlReq := []
  got   : Bytes := []
  all   : Bytes := []
  retry : Bool := false
  paused : Bool := false
  hashing : Bool := false
  start : Nat := 0
  deriving DecidableEq, Repr

/-- The ring state of one port (04); unc lists the DRAM units of its ring structures that a read stream found uncorrectable (R155),
each with whether an injection made it so. -/
structure RingPort where
  next     : Nat := 1
  entries  : List Entry := []
  quota    : Nat := 262144
  waiting  : Option WrPend := none
  shut     : Bool := false
  notice   : Bool := false
  commitT  : Nat := 0
  refuseT  : Nat := 0
  partialT : Nat := 0
  lostT    : Nat := 0
  dropped  : Nat := 0
  commits  : Tab Nat := []
  jobs     : List VcJob := []
  rebuild  : Bool := false
  unc      : List (Nat × Bool) := []
  deriving DecidableEq, Repr

/-- The digest tree and the reference values of one port (05 R160 to R163) and its fill (05 R169 to R172). -/
structure TreePort where
  leaves    : Tab Bytes := []
  nodes     : Tab Bytes := []
  root      : Bytes := []
  kept      : Bytes := []
  resident  : Bool := false
  span      : Nat := 0
  spanState : Nat := 0
  manRoot   : Bytes := []
  spanRoot  : Bytes := []
  imageId   : Nat := 0
  version   : Nat := 0
  filling   : Bool := false
  nextLeaf  : Nat := 0
  found     : Tab Bytes := []
  fillFail  : Bool := false
  retried   : Bool := false
  refetch   : List Nat := []
  fillDone  : Bool := false
  verResult : Nat := 0
  rootCnt   : Nat := 0
  copySlot  : Nat := 0
  leafCyc   : Nat := 0
  healed    : Bool := false
  sig       : Nat := 0
  manNo     : Nat := 0
  deriving DecidableEq, Repr

/-- A copy of a port's tree in the barn (05 R166): the content of Table 5.1 and the last ROOT record reflected. -/
structure TreeCopy where
  leaves : Tab Bytes := []
  nodes  : Tab Bytes := []
  root   : Bytes := []
  last   : Nat := 0
  deriving DecidableEq, Repr

/-- A heal of one port (05 R182): the unit's first leaf and leaf count, its content, the digests its leaves are to have, whether
HEAL_START and the copy are durable, whether its operations run, the attempt, whether it restores the fill of row 8 of Table 5.3,
and whether a link loss ended it ABANDONED (R183). -/
structure Heal where
  first   : Nat
  count   : Nat
  content : Bytes
  want    : Tab Bytes := []
  durable : Bool := false
  running : Bool := false
  attempt : Nat := 1
  atFill  : Bool := false
  abandoned : Bool := false
  deriving DecidableEq, Repr

/-- A leaf that the gleaner reads again in a later window (01 R30, 05 R179, R180): whether that read confirms a difference,
whether a read of it has failed, and the GAP_NO of the window of the last read (none on an untied port). -/
structure Reread where
  leaf   : Nat
  conf   : Bool := false
  failed : Bool := false
  win    : Option Nat := none
  deriving DecidableEq, Repr

/-- The gleaner state of one port (05 R177 to R184); actNow and limNow are the values of GLN_PORT_CFG at its last leaf read (R186). -/
structure GlnPort where
  cursor    : Nat := 0
  t0        : Option Nat := none
  read      : Nat := 0
  late      : Bool := false
  bucket    : Nat := 16384
  bucketAt  : Nat := 0
  rereads   : List Reread := []
  divs      : Nat := 0
  overGap   : Bool := false
  heal      : Option Heal := none
  healQueue : List Nat := []
  healWait  : List Nat := []
  action    : Nat := 0
  limit     : Nat := 16
  actNow    : Nat := 0
  limNow    : Nat := 16
  cycles    : Nat := 0
  lateCyc   : Nat := 0
  diverged  : Nat := 0
  transient : Nat := 0
  healedN   : Nat := 0
  healFail  : Nat := 0
  deriving DecidableEq, Repr

/-- The kinds of scheduled change, in the order of 07 Table 7.4; a quarantine with its cause and whether it discards the
pending entries (04 Table 4.14). -/
inductive ChgKind where
  | quarantine (cause : Nat) (discard : Bool)
  | reset (cause : Nat)
  | policy
  | release
  | takeover
  | depart
  deriving DecidableEq, Repr

/-- A change bound to a gap of the port's transport (07 R228): a named GAP_NO or the next gap, and its DEFER window. -/
structure Bound where
  kind  : ChgKind
  gapNo : Option Nat := none
  win   : Option Window := none
  deriving DecidableEq, Repr

/-- The departure steps of 06 R206. -/
inductive DepPhase where
  | none
  | drain
  | sweep
  | ready
  | bound
  | sent
  | departed
  deriving DecidableEq, Repr

/-- The release state of one port (06). -/
structure RlsPort where
  verified  : Bool := false
  verifiedAt : Nat := 0
  group     : Nat := 0
  depMode   : Bool := false
  hold      : Bool := false
  given     : Bool := false
  declared  : Nat := 0
  bootWin   : Option Window := none
  rates     : List Nat := []
  bytes     : Nat := 0
  inFlight  : Bool := false
  leftOut   : Bool := false
  switched  : Bool := false
  swAcked   : Bool := false
  departed  : Bool := false
  depPhase  : DepPhase := .none
  depRst    : Bool := false
  depBig    : Bool := false
  swept     : Bool := false
  booted    : Bool := false
  lastGlean : Nat := 0
  awaitNotice : Bool := false
  retiring  : Bool := false
  qrel      : Bool := false
  deriving DecidableEq, Repr

/-- The enrolment record of a port (14 R433): what reading the physical device gave and what the Owner supplied. byteTimes are the
typical times of a byte program (first byte, each further one, in us) and of a chip erase (ms), which only a device read gives. -/
structure Enrol where
  enrolled  : Bool := false
  ever      : Bool := false
  fallback  : Bool := false
  wait      : Nat := 5
  jedec     : Bytes := []
  erases    : Nat := 0
  maxErase  : Nat := 0
  maxProg   : Nat := 0
  typErase4 : Nat := 0
  typErase32 : Nat := 0
  typErase64 : Nat := 0
  typProg   : Nat := 0
  byteTimes : Option (Nat × Nat × Nat) := none
  pageSize  : Nat := 256
  readOp    : Nat := 0
  progOp    : Nat := 0
  erase4    : Nat := 0
  erase32   : Nat := 0
  erase64   : Nat := 0
  mode      : Nat := 0
  addrBytes : Nat := 0
  dummy     : Nat := 0
  clock     : Nat := 0
  imageId   : Nat := 0
  version   : Nat := 0
  deriving DecidableEq, Repr

/-- The platform watchdog of one port (12 R372 to R374, R377); cur and curFrac are those of the running period. -/
structure Pwd where
  period    : Nat := 0
  frac      : Nat := 0
  first     : Nat := 30000
  running   : Bool := false
  inFirst   : Bool := false
  start     : Nat := 0
  cur       : Nat := 0
  curFrac   : Nat := 0
  services  : Nat := 0
  ignored   : Nat := 0
  bound     : Bool := false
  resets    : Nat := 0
  deriving DecidableEq, Repr

/-- The tap secrets of one port in the granary and in the hall's pairing key store (09 R290 to R292). -/
structure TapKeys where
  current  : Option Bytes := none
  pending  : Option Bytes := none
  pksCur   : Option Bytes := none
  pksPend  : Option Bytes := none
  deriving DecidableEq, Repr

/-- The update state of one port (08): its share in the open activation. -/
structure UpdPort where
  changed    : Bool := false
  copying    : Bool := false
  copied     : Bool := false
  units      : List (Nat × Nat) := []
  checks     : List Nat := []
  retried    : List Nat := []
  again      : Bool := false
  revertPend : Bool := false
  confS      : Nat := 0
  confWin    : Option Window := none
  confirmed  : Bool := false
  failed     : Bool := false
  priorLock  : Bool := false
  newSpan    : Nat := 0
  newMan     : Bytes := []
  newImage   : Nat := 0
  newVersion : Nat := 0
  newRate    : Nat := 0
  oldState   : Nat := 0
  oldKept    : Bytes := []
  oldSpan    : Nat := 0
  oldMan     : Bytes := []
  oldImage   : Nat := 0
  oldVersion : Nat := 0
  oldRate    : Nat := 0
  oldManNo   : Nat := 0
  dropped    : Nat := 0
  relock     : Option Bool := none
  deriving DecidableEq, Repr

/-- One port (00 R2). -/
structure Port where
  st     : PortState := .absent
  qcause : Nat := 0
  link   : Link := {}
  mir    : MirPort := {}
  ring   : RingPort := {}
  tree   : TreePort := {}
  gln    : GlnPort := {}
  rls    : RlsPort := {}
  enr    : Enrol := {}
  pwd    : Pwd := {}
  key    : TapKeys := {}
  upd    : UpdPort := {}
  tie    : Option Nat := none
  notify : Bool := false
  bounds : List Bound := []
  deriving DecidableEq, Repr

/-- The gap window a hall holds open for a transport (05 R177, 07 R226): its GAP_NO and kind, the hall cycle of its
notice, and its guarantee. -/
structure HallGap where
  no    : Nat
  idle  : Bool
  at_   : Nat
  guar  : Nat
  deriving DecidableEq, Repr

/-- A record of the ring journal (04 Tables 4.10, 4.11). -/
structure JRec where
  type : Nat
  no   : Nat
  port : Nat
  seq  : Nat
  time : Nat
  body : Bytes
  deriving DecidableEq, Repr

/-- A record of the root ledger (05 R164, Table 5.2). -/
structure LRec where
  type : Nat
  no   : Nat
  hall : Nat
  port : Nat
  body : Bytes
  mac  : Bytes
  deriving DecidableEq, Repr

/-- A change or a new KEPT_ROOT that a hall reports to the Loft (07 R231): state before and after, whether scheduled,
the EVENT cause, whether it is only a new root, the gap in which it was applied (number, idle); or a watchdog fault (12
R374). -/
structure HReport where
  port  : Nat
  old   : PortState
  new   : PortState
  sched : Bool
  cause : Nat
  isRoot : Bool
  gap   : Option (Nat × Bool)
  evTime : Nat
  pwd   : Bool := false
  deriving DecidableEq, Repr

/-- A gap-open notice on its way to a hall (07 R226). -/
structure GapNote where
  t    : Nat
  no   : Nat
  idle : Bool
  pos  : Nat
  time : Nat
  guar : Nat
  deriving DecidableEq, Repr

/-- A gap-close notice on its way to a hall (07 R226). -/
structure GapEnd where
  t      : Nat
  no     : Nat
  reason : Nat
  deriving DecidableEq, Repr

/-- A tie write on its way to a hall (17 R497). -/
structure TieWrite where
  r     : Nat
  port  : Nat
  entry : Nat
  deriving DecidableEq, Repr

/-- What is on its way to a hall on its stair link, delivered in the order sent (01 R22). -/
inductive StairIn where
  | opened (n : GapNote)
  | closed (n : GapEnd)
  | tie (w : TieWrite)
  deriving DecidableEq, Repr

/-- What is on its way from a hall to the Loft, delivered in the order sent (01 R22): a change report, or the report that a
group was taken into a flight. -/
inductive StairOut where
  | change (r : HReport)
  | group (g : Nat)
  deriving DecidableEq, Repr

/-- One authorisation class (04 R144, Table 4.16). -/
structure AuthClass where
  auth    : Nat := 1
  timeout : Nat := 30
  deriving DecidableEq, Repr

/-- The steps of a hall reset (13 Table 13.11). -/
inductive HallPhase where
  | off
  | run
  | awaitAcks
  | inReset
  | training
  | faulted
  deriving DecidableEq, Repr

/-- One hall controller (01 R23): the registers of its pages, its queues and its share of the journal. -/
structure Hall where
  phase     : HallPhase := .off
  galOn     : Nat := 0
  ackWin    : Option Window := none
  relAt     : Nat := 0
  trained   : Bool := false
  replayed  : Bool := false
  pksFilled : Bool := false
  laneFail  : Nat := 0
  laneEn    : Nat := 0xFF
  testDone  : Bool := false
  testPass  : Bool := false
  testing   : Bool := false
  hshFill   : Nat := 0
  hshCommit : Nat := 0
  hshRb     : Nat := 0
  hshGlean  : Nat := 0
  serveEn   : Bool := false
  logUnk    : Bool := true
  idxResult : Nat := 0
  idxEntry  : Nat := 0
  uncCnt    : Nat := 0
  corrCnt   : Nat := 0
  lastUncPort : Nat := 0
  lastUncArea : Nat := 0
  lastUncOff : Nat := 0
  unkCnt    : Nat := 0
  unkOp     : Nat := 0
  unkMode   : Nat := 0
  unkPort   : Nat := 0
  denyCnt   : Nat := 0
  readBytes : Nat := 0
  admitEn   : Bool := false
  commitEn  : Bool := false
  nextSlot  : Nat := 1
  classes   : Tab AuthClass := []
  decFirst  : Nat := 0
  decResult : Nat := 0
  decApplied : Nat := 0
  ignored   : Nat := 0
  denied    : Nat := 0
  partialN  : Nat := 0
  lostN     : Nat := 0
  journal   : List JRec := []
  jBad      : List Nat := []
  recNo     : Nat := 0
  ckptAt    : Nat := 0
  glnEn     : Bool := false
  cycleS    : Nat := 900
  ratePct   : Nat := 5
  lastDivPort : Nat := 0
  lastDivLeaf : Nat := 0
  lastDivCase : Nat := 0
  overrun   : Nat := 0
  glnBytes  : Nat := 0
  fillNext  : Nat := 0
  releaseEn : Bool := false
  finalSweep : Bool := false
  overLimit : Bool := false
  bootWinMs : Nat := 2000
  flightMax : Nat := 256
  groupWait : Nat := 30
  rlsResult : Nat := 0
  flights   : Nat := 0
  lastPorts : Nat := 0
  flight    : List Nat := []
  grpTaken  : List Nat := []
  grpPartial : List Nat := []
  gaps      : Tab HallGap := []
  inq       : List StairIn := []
  outq      : List StairOut := []
  grpKnown  : List Nat := []
  pwdLastPort : Nat := 0
  pwdLastKind : Nat := 0
  stairRetry : Nat := 0
  stairRun  : Nat := 0
  dramBad   : List Nat := []
  dramWeak  : List Nat := []
  scrubEn   : Bool := true
  scrubH    : Nat := 24
  scrubPos  : Nat := 0
  drcCorr   : Nat := 0
  drcUnc    : Nat := 0
  drcLast   : Nat := 0
  uncAt     : Option Nat := none
  corrAt    : Option Nat := none
  portResets : Nat := 0
  escal     : Nat := 0
  hallResets : Nat := 0
  deriving DecidableEq, Repr

/-- The change reports that have not reached the Loft. -/
def Hall.reports (x : Hall) : List HReport := x.outq.filterMap (fun m => match m with
  | .change r => some r
  | .group _ => none)

/-- The tie writes on their way to the hall. -/
def Hall.ties (x : Hall) : List TieWrite := x.inq.filterMap (fun m => match m with
  | .tie w => some w
  | _ => none)

/-- The gap-open notices on their way to the hall. -/
def Hall.notes (x : Hall) : List GapNote := x.inq.filterMap (fun m => match m with
  | .opened n => some n
  | _ => none)

/-- The queue to the Loft without the reports of groups. -/
def Hall.dropGroups (x : Hall) : List StairOut := x.outq.filter (fun m => match m with
  | .change _ => true
  | .group _ => false)

/-- The queue to the hall without its gap notices. -/
def Hall.dropNotes (x : Hall) : List StairIn := x.inq.filter (fun m => match m with
  | .tie _ => true
  | _ => false)

end Sys2Proof.Machine
end

