-- ==== Sys2Proof/Machine/LineTypes.lean ====
section
/-! DEFINITION. The records of the line-position block and of the seal engine (07, 17 R496, R497), and of fault
collection (13). -/

namespace Sys2Proof.Machine

/-- A transport parameter block (07 Table 7.3). -/
structure TrBlock where
  enabled : Bool := false
  report  : Nat := 0
  openOfs : Nat := 0
  gapLen  : Nat := 0
  maxRate : Nat := 0
  startCounts : Nat := 0
  deferMs : Nat := 2000
  deriving DecidableEq, Repr

/-- The transport states of 07 Table 7.2. -/
inductive TrState where
  | off
  | idle
  | moving
  | faulted
  deriving DecidableEq, Repr

/-- An open gap of a transport (07 R224, R225): its number, whether it is idle, where it opened, its last position (for
a document gap), its last Loft cycle (for an idle gap and for the guarantee of a reported one), and whether it was
announced. -/
structure Gap where
  no    : Nat
  idle  : Bool
  opn   : Nat
  dlPos : Nat := 0
  dlCyc : Nat := 0
  said  : Bool
  deriving DecidableEq, Repr

/-- A document between its leading and trailing edges (07 R232, R233). -/
structure Doc where
  lead     : Nat
  leadTime : Nat
  flags    : Nat := 0
  stateRef : Nat := 0
  tag      : Nat := 0
  deriving DecidableEq, Repr

/-- A seal record (07 Tables 7.5, 7.6). -/
structure SealRec where
  no    : Nat
  bytes : Bytes
  chain : Bytes
  docNo : Nat := 0
  deriving DecidableEq, Repr

/-- A sheaf (07 Table 7.9); ord gives the order in which the sheaves of the seal area were signed, over all transports (R236). -/
structure Sheaf where
  no    : Nat
  first : Nat
  last  : Nat
  bytes : Bytes
  ord   : Nat := 0
  deriving DecidableEq, Repr

/-- A document window still ahead of the position (07 R224). -/
structure GapAhead where
  opn   : Nat
  dl    : Nat
  deriving DecidableEq, Repr

/-- One transport and its seal chain (07 R218 to R240): its open document window and its open idle window; CHAIN of the last record
signed; the last record made before the present module start, over which a recovery sheaf is due, and whether one was signed. -/
structure Transport where
  blk      : TrBlock := {}
  st       : TrState := .off
  faultCause : Nat := 0
  pos      : Nat := 0
  changedAt : Nat := 0
  gapNo    : Nat := 0
  gap      : Option Gap := none
  idleGap  : Option Gap := none
  ahead    : Option GapAhead := none
  lastDl   : Option Nat := none
  idleNext : Option Nat := none
  doc      : Option Doc := none
  lastPos  : Nat := 0
  orderPos : Option Nat := none
  lastTrail : Nat := 0
  afterTrail : Bool := false
  -- the seal chain
  chain    : Bytes := zeros 48
  everMade : Bool := false
  opened   : Bool := false
  recNo    : Nat := 1
  docNo    : Nat := 1
  sheafNo  : Nat := 1
  signed   : Nat := 0
  signedChain : Bytes := zeros 48
  recLast  : Nat := 0
  recovered : Bool := false
  kept     : List SealRec := []
  sheaves  : List Sheaf := []
  lastState : Nat := 0
  eventSince : Bool := false
  rootSince : Bool := false
  gapPend  : Option Nat := none
  chgSince : Bool := false
  docsSince : Nat := 0
  firstAt  : Option Nat := none
  job      : Bool := false
  jobAt    : Nat := 0
  jobLate  : Bool := false
  jobFirst : Nat := 0
  jobLast  : Nat := 0
  jobBytes : Bytes := []
  wants    : List Nat := []
  recovering : Bool := false
  deriving DecidableEq, Repr

/-- One hard encoder input (07 R219, R220, R242); raw is the level of its DP input, dp the settled document-present state. -/
structure Encoder where
  dirInv   : Bool := false
  dpInv    : Bool := false
  indexEn  : Bool := false
  backward : Bool := false
  raw      : Bool := false
  dp       : Bool := false
  cand     : Option (Bool × Nat × Nat) := none
  filter   : Nat := 8
  period   : Nat := 0
  tol      : Nat := 4
  rate     : Nat := 0
  rateCnt  : Nat := 0
  fwd      : Nat := 0
  idxSeen  : Bool := false
  quad     : Nat := 0
  indexN   : Nat := 0
  deriving DecidableEq, Repr

/-- An event of a source (13 R380, R384): page, bit, port, source detail, forced alarm, injected, DRY, cycle time. -/
structure Event where
  page  : Nat
  bit   : Nat
  port  : Option Nat := none
  synd  : Nat := 0
  forced : Bool := false
  inj   : Bool := false
  dry   : Bool := false
  time  : Nat := 0
  deriving DecidableEq, Repr

/-- A history entry (13 Table 13.6). -/
structure HEntry where
  no     : Nat := 0
  time   : Nat := 0
  pos    : Nat := 0
  tr     : Nat := 0xFFFF
  page   : Nat := 0
  bit    : Nat := 0
  coll   : Nat := 0
  port   : Nat := 0xFFFF
  react  : Nat := 0
  forced : Bool := false
  escal  : Bool := false
  conseq : Bool := false
  burst  : Bool := false
  inj    : Bool := false
  supp   : Bool := false
  parent : Nat := 0
  synd   : Nat := 0
  merge  : Nat := 1
  lost   : Nat := 0
  deriving DecidableEq, Repr

/-- A reaction shadow (13 R395): its domain, window (no end while the reset lasts), parent, and the coalesced events. -/
structure Shadow where
  dom    : Domain
  opn    : Nat
  dl     : Option Nat
  parent : Nat
  held   : List HEntry := []
  deriving DecidableEq, Repr

/-- The common header of a page (13 Table 13.3, 17 Table 17.2); cfgSet and errSet: a write has fixed the RWO field (00 R15). -/
structure Hdr where
  errStat   : BitVec 32 := 0
  errMask   : BitVec 32 := 0
  firstBit  : Nat := 0
  firstValid : Bool := false
  firstPort : Nat := 0x3FF
  injChk    : Nat := 0
  injMode   : Nat := 0
  injDry    : Bool := false
  injArmed  : Bool := false
  injPort   : Nat := 0
  codes     : Tab Nat := []
  irqStat   : BitVec 32 := 0
  irqEn     : BitVec 32 := 0
  accErr    : Bool := false
  accReq    : Nat := 0
  accOff    : Nat := 0
  accReason : Nat := 0
  accCount  : Nat := 0
  cfgLock   : Bool := false
  errLock   : Bool := false
  cfgSet    : Bool := false
  errSet    : Bool := false
  deriving DecidableEq, Repr

/-- The root collector (13 R382 to R393, R408) and the alarm (R392, R410). -/
structure Root where
  nextNo    : Nat := 1
  hist      : List HEntry := []
  fifo      : List HEntry := []
  burst     : Option HEntry := none
  lost      : Nat := 0
  merged    : Nat := 0
  ack       : Nat := 0
  readTo    : Nat := 0
  modEn     : Bool := true
  consec    : Nat := 0
  nmi       : Nat := 0
  nmiHeld   : Bool := false
  stat      : BitVec 32 := 0
  loftCol   : BitVec 32 := 0
  hostCol   : BitVec 32 := 0
  hcol      : Tab (BitVec 32) := []
  gal       : Tab (BitVec 32) := []
  galResets : Tab Nat := []
  hold      : Bool := false
  closed    : Bool := false
  pulseEnd  : Option Nat := none
  bootHold  : Bool := false
  pulses    : Nat := 0
  lastAlarm : Nat := 0
  shadows   : List Shadow := []
  resets    : List (Domain × List Nat) := []
  evq       : List Event := []
  lastPass  : Nat := 0
  deriving DecidableEq, Repr

end Sys2Proof.Machine
end

