-- ==== Sys2Proof/Machine/LoftTypes.lean ====
section
/-! DEFINITION. The records of the Loft's blocks: public-key engines, granary, barn and updates, OTP, watchdogs, host sessions,
supply and environment (08 to 12, 14, 15, 17). Reset values are the default values of the fields. -/

namespace Sys2Proof.Machine

/-! ### Public-key engines (10) -/

/-- Who asked for a public-key job: where its result goes. A delayed host response is named by its session and request. -/
inductive JobTag where
  | sheaf (t : Nat)
  | boot (man : Nat)
  | manifest (slot : Nat)
  | header (slot : Nat)
  | quote (s seq : Nat) (report : Bytes)
  | keygen (slot : Nat)
  | cert (body : Bytes)
  | sesKey (s : Nat)
  | sesEcdh (s : Nat)
  | warden (addr : Nat)
  | enrol (p : Nat)
  deriving DecidableEq, Repr

/-- A public-key job (10 R304, R310, R313): class 1 SEAL, 2 BOOT, 3 UPDATE, 4 QUOTE; submission time in Loft cycles; the
descriptor's fields (new and irq are FLAGS [0] and [1], tagv is TAG); the regions of its input block in slot order; the engine it is pinned
to, the engine it must avoid (R318); held: its class had no room, and its hardware requester still has it (R313). -/
structure PkeJob where
  cls     : Nat
  tag     : JobTag
  at_     : Nat
  cmd     : Nat := 1
  alg     : Nat := 5
  lenBits : Nat := 0
  keySlot : Nat := 0xFF
  dest    : Nat := 0xFF
  usage   : Nat := 0
  new     : Bool := false
  hash    : Nat := 0
  salt    : Nat := 0
  msg     : Nat := 0
  words   : List Nat := []
  inAddr  : Nat := 0
  outAddr : Nat := 0
  tagv    : Nat := 0
  irq     : Bool := false
  ins     : List Bytes := []
  pin     : Option Nat := none
  avoid   : Option Nat := none
  held    : Bool := false
  deriving DecidableEq, Repr

/-- A long job is an RSA operation above 4,096 bits or any KEYGEN (01 R35). -/
def PkeJob.long (j : PkeJob) : Bool := j.cmd == 3 || (j.alg == 11 && j.lenBits > 4096)

/-- One engine (10 R307, R315, R323 to R329). mem: its operand memory, words that are not 0; load, comp, chk, rel: the cycles of LOAD, COMPUTE,
CHECK and RELEASE of its job; keyLen: the bytes of the key in the work area; seed: the draw made at LOAD (R317); released: how CHECK ended;
freeAt: the first cycle in which it may take a job again. -/
structure Engine where
  enable   : Bool := true
  job      : Option PkeJob := none
  grantAt  : Nat := 0
  mem      : Tab Nat := []
  load     : Nat := 0
  comp     : Nat := 0
  chk      : Nat := 0
  rel      : Nat := 0
  keyLen   : Nat := 0
  seed     : Nat := 0
  released : Option Bool := none
  freeAt   : Nat := 0
  stale    : Bool := false
  zeroing  : Option (Nat × Nat) := none
  kat      : Bool := false
  katPass  : Bool := false
  katDone  : Bool := false
  subAddr  : Nat := 0
  wantRoom : Bool := false
  subRes   : Nat := 0
  jobs     : Nat := 0
  aborted  : Nat := 0
  faults   : Nat := 0
  busy     : Nat := 0
  corr     : Nat := 0
  deriving DecidableEq, Repr

/-! ### The granary (09) -/

/-- A key slot (09 R284). -/
structure KeySlot where
  alg     : Nat := 0
  usage   : Nat := 0
  persist : Bool := false
  fixed   : Bool := false
  stale   : Bool := false
  rederiv : Bool := false
  parent  : Nat := 0xFF
  gen     : Nat := 0
  pgen    : Nat := 0
  uses    : Nat := 0
  limit   : Nat := 0
  key     : Bytes := []
  deriving DecidableEq, Repr

/-- A key journal record (09 R294): TYPE, OP_NO, RECORD_NO, CYCLE_TIME, the body with its key material wrapped, the MAC. -/
structure KRec where
  type : Nat
  op   : Nat
  no   : Nat
  time : Nat
  body : Bytes
  mac  : Bytes := []
  deriving DecidableEq, Repr

/-- The 24-byte header of a record with a body of len bytes. -/
def kHeader (type op no time len : Nat) : Bytes := le 1 type ++ le 1 0 ++ le 2 len ++ le 4 op ++ le 8 no ++ le 8 time

def KRec.header (r : KRec) : Bytes := kHeader r.type r.op r.no r.time r.body.length

/-- The MAC of a record under LEDGER. -/
def KRec.macUnder (r : KRec) (ledger : Bytes) : Bytes := (hmacSha384 ledger (r.header ++ r.body)).take 16

/-- A record as the barn holds it. -/
def KRec.bytes (r : KRec) : Bytes := r.header ++ r.body ++ r.mac

def KRec.size (r : KRec) : Nat := r.bytes.length

/-- The granary page and its slots; nextUse: the first Loft cycle in which it may admit another use (09 R285). -/
structure Granary where
  slots    : Tab KeySlot := []
  ready    : Bool := false
  opOpen   : Option Nat := none
  opNo     : Nat := 0
  opRes    : Nat := 0
  opCtx    : Nat := 0
  lastOut  : Nat := 0
  lastOp   : Nat := 0
  staleCnt : Nat := 0
  exhCnt   : Nat := 0
  burnBit  : Nat := 0
  rollTo   : Option (Nat × Nat) := none
  rolling  : Bool := false
  certDue  : Bool := false
  pubs     : Tab Bytes := []
  fresh    : List Nat := []
  promotes : List Nat := []
  nextUse  : Nat := 0
  deriving DecidableEq, Repr

/-- The attestation block (09 R303). -/
structure Attest where
  hmacEn  : Bool := true
  quoteEn : Bool := true
  made    : Nat := 0
  quotes  : Nat := 0
  refused : Nat := 0
  deriving DecidableEq, Repr

/-- The PUF page (09 R301), the regenerated secret, and the first 1,536 bytes of the PUF SRAM (empty while its domain is off), which no
requester can read. -/
structure Puf where
  sram     : Bytes := []
  rootOk   : Bool := false
  copyB    : Bool := false
  aBad     : Bool := false
  bBad     : Bool := false
  attempts : Nat := 0
  flips    : Nat := 0
  corr     : Nat := 0
  root     : Bytes := []
  retryAt  : Option Nat := none
  deriving DecidableEq, Repr

/-! ### The barn and updates (08) -/

/-- A staged image (08 R248, R249): kind, identity, length, state 1 RECEIVING to 5 DAMAGED, its 4 KiB blocks, its leaf
digests and tree root. -/
structure Image where
  kind    : Nat
  imageId : Nat
  version : Nat
  length  : Nat
  st      : Nat := 1
  blocks  : Tab Bytes := []
  leaves  : Tab Bytes := []
  root    : Bytes := []
  closing : Option (Nat × Nat) := none
  deriving DecidableEq, Repr

/-- An enrolment that is under way (14 R433): the request it answers, its body, what the device read gives, the manifest it
names, and whether its signature was found valid. -/
structure EnrolReq where
  port : Nat
  ses  : Nat
  seq  : Nat
  body : Bytes
  dev  : DeviceRead
  man  : Bytes
  good : Bool := false
  deriving DecidableEq, Repr

/-- A manifest slot (08 R273): what is loaded, whether the last byte came, the requests that wait for its check (session, request), and
whether a check passed since the last reset; hdrOk: the slot header signature of a warden part verified. -/
structure ManSlot where
  bytes    : Bytes := []
  complete : Bool := false
  checking : List (Nat × Nat) := []
  hdrOk    : Bool := false
  checked  : Bool := false
  deriving DecidableEq, Repr

/-- A manifest that the barn keeps (08 R249) with its signature result of this start: 0 not known, 1 queued, 2 valid, 3 not. -/
structure Kept where
  bytes : Bytes
  sig   : Nat := 0
  deriving DecidableEq, Repr

/-- An update log record (08 R271). -/
structure URec where
  type : Nat
  act  : Nat
  no   : Nat
  time : Nat
  body : Bytes
  deriving DecidableEq, Repr

/-- A revert copy (08 R257): its leaves and their digests, damaged by an uncorrectable page. -/
structure RevCopy where
  content : Tab Bytes := []
  digs    : Tab Bytes := []
  bad     : Bool := false
  deriving DecidableEq, Repr

/-- The open or last activation (08 R245, R255, R266). -/
structure Act where
  opened   : Bool := false
  kind     : Nat := 0
  mode     : Nat := 0
  stage    : Nat := 0
  no       : Nat := 0
  slot     : Nat := 0
  man      : Bytes := []
  outcome  : Nat := 0
  reason   : Nat := 0
  revReason : Nat := 0
  changed  : List Nat := []
  saved    : Bool := false
  durable  : Bool := false
  readyDl  : Option Nat := none
  trialWin : Option Window := none
  oldLanding : Nat := 0
  newSlot  : Nat := 0
  standbyReady : Bool := false
  parked   : Bool := false
  fallback : Bool := false
  resume   : Bool := false
  deriving DecidableEq, Repr

/-- A write placed for the barn that is not yet durable (04 R149, 05 R166, R182, 08 R249, R257): what becomes true when it
is. -/
inductive BarnWrite where
  | healStart (p : Nat)
  | treeCopy (p slot : Nat)
  | block (handle no s seq : Nat)
  | imageClose (handle : Nat)
  | revertCopies
  deriving DecidableEq, Repr

/-! ### OTP (11) -/

/-- A row of the OTP shadow (11 R338, R345): class, value, marker, corrected, twin mismatch at the scan, and the marginal
kinds WEAK_1, LEAKY_0, marker. -/
structure ShRow where
  cls    : Nat := 0
  val    : Nat := 0
  marker : Bool := false
  corr   : Bool := false
  mism   : Bool := false
  weak   : Bool := false
  leaky  : Bool := false
  mmarg  : Bool := false
  deriving DecidableEq, Repr

/-- The running OTP command (11 Table 11.4); ses: the SVC_CLOSE request it answers; roll: an epoch burn. -/
structure OtpRun where
  cmd  : Nat
  row  : Nat
  reg  : Nat
  data : Nat
  ses  : Option (Nat × Nat) := none
  deriving DecidableEq, Repr

/-- The array (rows as 40 bits at NORMAL, with the masks of weak and leaky cells), its fuses, the shadow and the page. -/
structure Otp where
  rows    : Tab Nat := []
  weak    : Tab Nat := []
  leaky   : Tab Nat := []
  fuses   : Tab Nat := []
  shadow  : Tab ShRow := []
  scanned : Bool := false
  run     : Option OtpRun := none
  row     : Nat := 0
  region  : Nat := 0
  wdata   : Nat := 0
  result  : Nat := 0
  unmarked : Nat := 0
  raw     : List Nat := [0, 0, 0]
  incomp  : Nat := 0
  margCnt : Nat := 0
  margs   : List Nat := []
  partN   : Nat := 0
  unstN   : Nat := 0
  twinFix : Nat := 0
  lockFix : Nat := 0
  deriving DecidableEq, Repr

/-! ### The Loft, its landings and watchdogs (12, 17) -/

/-- A copy of the slot record (08 R265): its sequence number, its fields, its CRC-32C. -/
structure SlotRec where
  seq        : Nat := 0
  actSlot    : Nat := 0
  actLanding : Nat := 0
  otherOk    : Bool := false
  trial      : Bool := false
  trialSlot  : Nat := 0
  crc        : Nat := 0
  deriving DecidableEq, Repr

/-- The CRC-32C of a copy's fields, taken in the order of R265, the number first (the spec gives no layout, log 97). -/
def SlotRec.sum (r : SlotRec) : Nat :=
  (crc32c (le 4 r.seq ++ le 1 r.actSlot ++ le 1 r.actLanding ++ le 1 (b2n r.otherOk) ++ le 1 (b2n r.trial) ++ le 1 r.trialSlot)).toNat

def SlotRec.done (r : SlotRec) : SlotRec := { r with crc := r.sum }
def SlotRec.valid (r : SlotRec) : Bool := r.crc == r.sum

/-- A copy of the reset-cause record (12 R370): cause code and cycle time, 10 bytes, with their CRC-32C. -/
structure CauseRec where
  code : Nat := 0
  at_  : Nat := 0
  crc  : Nat := 0
  deriving DecidableEq, Repr

def CauseRec.sum (r : CauseRec) : Nat := (crc32c (le 2 r.code ++ le 8 r.at_)).toNat
def CauseRec.done (r : CauseRec) : CauseRec := { r with crc := r.sum }
def CauseRec.valid (r : CauseRec) : Bool := r.crc == r.sum

/-- What the retained store keeps (08 R265, 09 R278, 12 R370, 13 R397, 15); recA and recB are the two copies of the slot record,
causeA and causeB those of the reset-cause record. -/
structure Retained where
  recA       : SlotRec := SlotRec.done {}
  recB       : SlotRec := SlotRec.done {}
  serial     : Nat := 0
  flipsMax   : Nat := 0
  causeA     : CauseRec := CauseRec.done {}
  causeB     : CauseRec := CauseRec.done {}
  restartsA  : Nat := 0
  restartsB  : Nat := 0
  lwdResets  : Nat := 0
  clkTrips   : Nat := 0
  otpPrev    : Nat := 0
  otpCur     : Nat := 0
  warnings   : Nat := 0
  deriving DecidableEq, Repr

/-- The reset-cause record: the first copy that is valid. -/
def Retained.causeRec (r : Retained) : CauseRec := if r.causeA.valid then r.causeA else if r.causeB.valid then r.causeB else {}

def Retained.cause (r : Retained) : Nat := r.causeRec.code
def Retained.causeAt (r : Retained) : Nat := r.causeRec.at_

/-- A cause is written to both copies. -/
def Retained.putCause (r : Retained) (c t : Nat) : Retained :=
  let new := CauseRec.done { code := c, at_ := t }
  { r with causeA := new, causeB := new }

/-- Copy B counts: it is valid, and copy A is not or has the lower number (08 R265). -/
def Retained.useB (r : Retained) : Bool := r.recB.valid && (!r.recA.valid || r.recA.seq < r.recB.seq)

/-- The slot record in force. -/
def Retained.slot (r : Retained) : SlotRec := if r.useB then r.recB else r.recA

def Retained.actSlot (r : Retained) : Nat := r.slot.actSlot
def Retained.actLanding (r : Retained) : Nat := r.slot.actLanding
def Retained.otherOk (r : Retained) : Bool := r.slot.otherOk
def Retained.trial (r : Retained) : Bool := r.slot.trial
def Retained.trialSlot (r : Retained) : Nat := r.slot.trialSlot

/-- An update of the slot record writes the older copy with the next number (08 R265). -/
def Retained.putSlot (r : Retained) (f : SlotRec → SlotRec) : Retained :=
  let new := SlotRec.done { f r.slot with seq := (r.slot.seq + 1) % 2 ^ 32 }
  if r.useB then { r with recA := new } else { r with recB := new }

/-- Loft control (17 Table 17.9). Landing codes: 0 RESET, 1 ACTIVE, 2 STANDBY, 3 PARKED, 4 HALTED. jbufUsed and jbufPeak: the journal
buffer as LFT_JBUF last showed it. -/
structure Loft where
  active  : Nat := 0
  landA   : Nat := 0
  landB   : Nat := 0
  bootStep : Nat := 0
  cause   : BitVec 32 := 1
  aPass   : Bool := false
  bPass   : Bool := false
  trialRev : Bool := false
  bootPke : Nat := 0
  wdnId   : Nat := 0
  wdnVer  : Nat := 0
  katPass : Bool := false
  halted  : Bool := false
  bootOk  : Bool := false
  restart : Bool := false
  bringWin : Option Window := none
  phyAt   : Nat := 0
  serveAt : Option Nat := none
  relAt   : Nat := 0
  resetting : Option Nat := none
  thermalHold : Bool := false
  jbufUsed : Nat := 0
  jbufPeak : Nat := 0
  deriving DecidableEq, Repr

/-- The warden watchdog of the active landing (12 R360 to R365). -/
structure Wwd where
  periodMs : Nat := 2000
  slotEn   : BitVec 16 := 1
  running  : Bool := false
  first    : Bool := false
  start    : Nat := 0
  curMs    : Nat := 2000
  curEn    : BitVec 16 := 1
  checked  : BitVec 16 := 0
  missing  : BitVec 16 := 0
  dup      : BitVec 16 := 0
  services : Nat := 0
  refused  : Nat := 0
  restartWin : Option Window := none
  deriving DecidableEq, Repr

/-- The Loft watchdog (12 R366 to R369); start counts cycles of the clock of the running period (00 R6): the RC oscillator with
curRc, else the Loft clock. -/
structure Lwd where
  periodS : Nat := 10
  clkSel  : Bool := true
  running : Bool := true
  start   : Nat := 0
  curS    : Nat := 10
  curRc   : Bool := true
  deriving DecidableEq, Repr

/-! ### Host sessions (14) -/

/-- An accepted request whose response has not been handed to the crossing (14 R427): the module's own number of it, its SEQ. -/
structure OutReq where
  seq  : Nat
  type : Nat
  ref  : Nat := 0
  resp : Option Bytes := none
  deriving DecidableEq, Repr

/-- One host port and its session (14 R411 to R441). handed: since when the oldest record waits in the crossing; recs: the records that wait
there, each with the cycle of its hand-over; gwq: what the gateway holds for the partner of HP4 (R412); lastResp: the response that a repeat is
answered with, and its record (R413). -/
structure Ses where
  partner  : Bool := false
  st       : Nat := 0
  role     : Nat := 0
  limited  : Bool := false
  svc      : Bool := false
  test     : Bool := false
  svcRe    : Bool := false
  testRe   : Bool := false
  rxSeq    : Nat := 0
  reqNo    : Nat := 0
  txSeq    : Nat := 0
  outst    : List OutReq := []
  events   : List HEntry := []
  missed   : Option (Nat × Nat) := none
  missedF  : Bool := false
  minCode  : Nat := 0
  handed   : Option Nat := none
  hello    : Bytes := []
  chal     : Bytes := []
  proofWin : Option Window := none
  lastRec  : Nat := 0
  curIdle  : Nat := 600
  fails    : Nat := 0
  failAt   : Nat := 0
  blockEnd : Option Nat := none
  requests : Nat := 0
  refused  : Nat := 0
  dropped  : Nat := 0
  idleS    : Nat := 600
  roles    : Nat := 0xF
  lastResp : Option (Nat × Bytes × Bytes) := none
  recs     : List (Nat × Bytes) := []
  gwq      : List Bytes := []
  deriving DecidableEq, Repr

/-- A network port of the gateway (14 Table 14.13). -/
structure NetPort where
  enable : Bool := true
  dhcp   : Bool := true
  addr   : Nat := 0
  mask   : Nat := 0
  router : Nat := 0
  lease  : Nat := 0
  changed : Bool := false
  deriving DecidableEq, Repr

/-- The crossing page (14 R438); badFrames: the serial frames that the gateway discarded (R412); gwBad: that count as the last GW_STATUS
brought it. -/
structure Xng where
  gwUp    : Bool := false
  gwAt    : Nat := 0
  silent  : Bool := false
  dType   : Nat := 0
  dLen    : Nat := 0
  dIn     : Nat := 0
  dOut    : Nat := 0
  dCrc    : Nat := 0
  net0    : NetPort := {}
  net1    : NetPort := {}
  changedAt : Option Nat := none
  badFrames : Nat := 0
  gwBad     : Nat := 0
  deriving DecidableEq, Repr

/-- The service page (14 R436, R442): the open challenge's session, scope, nonce and window. -/
structure Svc where
  chal    : Option (Nat × Nat × Bytes × Window) := none
  reopens : Nat := 0
  fails   : Nat := 0
  deriving DecidableEq, Repr

/-! ### Supply, domains, environment (15, 17) -/

/-- A power domain (15 R454 to R456). -/
structure Dom where
  on      : Bool := false
  tripped : Bool := false
  locked  : Bool := false
  tripAt  : Option Nat := none
  retryAt : Option Nat := none
  deriving DecidableEq, Repr

structure Pwr where
  mainsOk : Bool := false
  warning : Bool := false
  charging : Bool := false
  ready   : Bool := false
  testing : Option Nat := none
  vrms    : Nat := 0
  freq    : Nat := 0
  bulk    : Nat := 0
  inputW  : Nat := 0
  bankMv  : Nat := 0
  energy  : Nat := 0
  capMf   : Nat := 0
  esr     : Nat := 0
  full    : Nat := 0
  testAt  : Option Nat := none
  nextTest : Option Nat := none
  readyDl : Option Nat := none
  m0      : Nat := 0
  doms    : Tab Dom := []
  result  : Nat := 0
  dips    : Nat := 0
  deriving DecidableEq, Repr

/-- A temperature sensor (15 R461). -/
structure Sensor where
  temp   : Option Int := none
  lastOk : Nat := 0
  warn   : Bool := false
  trip   : Bool := false
  failed : Bool := false
  deriving DecidableEq, Repr

structure Env where
  sensors  : Tab Sensor := []
  rise     : Int := 0
  riseFrom : Option Nat := none
  airflow  : Bool := false
  deriving DecidableEq, Repr

/-- The shutter (06 R211): W0 in Loft cycles, the step reached, and whether a thermal trip began it. -/
structure Shutter where
  w0      : Nat := 0
  step    : Nat := 0
  thermal : Bool := false
  deriving DecidableEq, Repr

/-- The departure record of a port (06 R208): mode, RST# state, next sequence number, last complete gleaner cycle. -/
structure DepRec where
  port : Nat
  mode : Bool
  rst  : Bool
  next : Nat
  time : Nat
  deriving DecidableEq, Repr

end Sys2Proof.Machine
end

