-- ==== Sys2Proof/Machine/State.lean ====
section
/-! DEFINITION. The state of the module as plain data: everything spec/ gives the machine, the queue of waiting commands,
and the model's own fields (time, out, freeCtr, dramBad of a hall), each named in the assumption log. -/

namespace Sys2Proof.Machine

/-- Why a run stops. No meaning of this model raises a fault: the type has no constructor (NOTES.md, Stops). -/
inductive Fault where
  deriving DecidableEq, Repr

/-- Why a command is turned away. -/
inductive Refusal where
  /-- Raised by the arm of a command that has no meaning yet; safe (nothing is concluded of it). -/
  | notModelled (mnemonic : String)
  deriving DecidableEq, Repr

/-- What leaves the module: a frame to a tap with its symbols on the line; a response, an event, the end of a connection or the network
settings to the gateway, each with its crossing frame (14 R414); a serial frame on HP4 or HP5 (R412). -/
inductive Output where
  | frame (p : Nat) (f : Frame) (line : List Symbol)
  | response (s : Nat) (type : Nat) (body wire : Bytes)
  | event (s : Nat) (body wire : Bytes)
  | drop (s : Nat) (wire : Bytes)
  | gwConfig (body wire : Bytes)
  | serial (s : Nat) (wire : Bytes)
  deriving DecidableEq, Repr

/-- The whole machine. -/
structure State where
  time     : Nat := 0
  pending  : List Instr := []
  out      : List Output := []
  freeCtr  : Nat := 0
  ports    : Tab Port := []
  halls    : Tab Hall := []
  mirror   : Tab (List Host.Cell) := []
  trs      : Tab Transport := []
  encs     : Tab Encoder := []
  hdrs     : Tab Hdr := []
  portErr  : Tab (BitVec 8) := []
  sel      : Tab Nat := []
  latch    : Tab Nat := []
  root     : Root := {}
  modState : ModState := .cold
  prevState : ModState := .cold
  loftAt   : Nat := 0
  ledger   : List LRec := []
  ledgerNo : Nat := 0
  ledgerFull : Bool := false
  barnQ    : List BarnWrite := []
  sealUsed : Nat := 0
  excLog   : List (Nat × Nat) := []
  ledgerKey : Bytes := []
  copies   : Tab TreeCopy := []
  images   : Tab Image := []
  pkeQ     : List PkeJob := []
  sheafDocs : Nat := 64
  sheafMs  : Nat := 1000
  signCnt  : Nat := 0
  dropSheaf : Nat := 0
  dropImage : Nat := 0
  areaHigh : Bool := false
  lpRefused : Nat := 0
  lpLate   : Nat := 0
  lpForced : Nat := 0
  healCopies : Tab (Nat × Bytes) := []
  engines  : Tab Engine := []
  descs    : Tab (Nat × Nat × Nat) := []
  outBlocks : Tab Bytes := []
  gran     : Granary := {}
  kjournal : List KRec := []
  kRecNo   : Nat := 0
  kstore   : Tab KeySlot := []
  kOpen    : Option Nat := none
  enrols   : List EnrolReq := []
  certs    : Tab Bytes := []
  att      : Attest := {}
  puf      : Puf := {}
  otp      : Otp := {}
  stageEn  : Bool := true
  diffCopy : Bool := true
  defConf  : Nat := 120
  brnReady : Bool := false
  maxPe    : Nat := 0
  badBlocks : Nat := 0
  manSlots : Tab ManSlot := []
  kept     : Tab Kept := []
  keptNo   : Nat := 1
  ulog     : List URec := []
  uRecNo   : Nat := 0
  act      : Act := {}
  wdnMan   : Nat := 0
  revCopies : Tab RevCopy := []
  wslots   : Tab Bytes := []
  depRecs  : List DepRec := []
  depAsked : Bool := false
  depSent  : Bool := false
  retained : Retained := {}
  loft     : Loft := {}
  wwd      : Wwd := {}
  lwd      : Lwd := {}
  sessions : Tab Ses := []
  xng      : Xng := {}
  svc      : Svc := {}
  pwr      : Pwr := {}
  env      : Env := {}
  shutter  : Option Shutter := none
  lpStage  : Tab (List Nat) := []
  lpResult : Tab Nat := []
  deriving DecidableEq, Repr

/-- The machine right after reset: module COLD, every register at its reset value. -/
def State.reset : State := {}

end Sys2Proof.Machine
end

