-- ==== Sys2Proof/Machine/Ops.lean ====
section
/-! DEFINITION. The named operations every meaning is written over: the parts of the state, time, events of a source
(13 R380, R384), counters of a page, and free values. -/

namespace Sys2Proof.Machine

/-- Apply f when the condition holds. -/
def State.when (s : State) (c : Bool) (f : State → State) : State := if c then f s else s

/-- The module answers: it is not COLD and no Loft watchdog reset runs. -/
def State.alive (s : State) : Bool := s.modState != .cold && s.loft.resetting.isNone

/-! ### The parts of the state -/

def State.port (s : State) (p : Nat) : Port := tabGet {} s.ports p
def State.setPort (s : State) (p : Nat) (v : Port) : State := { s with ports := tabSet s.ports p v }
def State.modPort (s : State) (p : Nat) (f : Port → Port) : State := s.setPort p (f (s.port p))

def State.hall (s : State) (h : Nat) : Hall := tabGet {} s.halls h
def State.setHall (s : State) (h : Nat) (v : Hall) : State := { s with halls := tabSet s.halls h v }
def State.modHall (s : State) (h : Nat) (f : Hall → Hall) : State := s.setHall h (f (s.hall h))

def State.tr (s : State) (t : Nat) : Transport := tabGet {} s.trs t
def State.setTr (s : State) (t : Nat) (v : Transport) : State := { s with trs := tabSet s.trs t v }
def State.modTr (s : State) (t : Nat) (f : Transport → Transport) : State := s.setTr t (f (s.tr t))

def State.enc (s : State) (n : Nat) : Encoder := tabGet {} s.encs n
def State.setEnc (s : State) (n : Nat) (v : Encoder) : State := { s with encs := tabSet s.encs n v }
def State.modEnc (s : State) (n : Nat) (f : Encoder → Encoder) : State := s.setEnc n (f (s.enc n))

def State.hdr (s : State) (page : Nat) : Hdr := tabGet {} s.hdrs page
def State.setHdr (s : State) (page : Nat) (v : Hdr) : State := { s with hdrs := tabSet s.hdrs page v }
def State.modHdr (s : State) (page : Nat) (f : Hdr → Hdr) : State := s.setHdr page (f (s.hdr page))

def State.modRoot (s : State) (f : Root → Root) : State := { s with root := f s.root }

/-- The error word of a port (13 R383). -/
def State.perr (s : State) (p : Nat) : BitVec 8 := tabGet 0 s.portErr p

def State.modLink (s : State) (p : Nat) (f : Link → Link) : State := s.modPort p (fun v => { v with link := f v.link })
def State.modMir (s : State) (p : Nat) (f : MirPort → MirPort) : State := s.modPort p (fun v => { v with mir := f v.mir })
def State.modRing (s : State) (p : Nat) (f : RingPort → RingPort) : State :=
  s.modPort p (fun v => { v with ring := f v.ring })
def State.modTree (s : State) (p : Nat) (f : TreePort → TreePort) : State :=
  s.modPort p (fun v => { v with tree := f v.tree })
def State.modGln (s : State) (p : Nat) (f : GlnPort → GlnPort) : State := s.modPort p (fun v => { v with gln := f v.gln })
def State.modRls (s : State) (p : Nat) (f : RlsPort → RlsPort) : State := s.modPort p (fun v => { v with rls := f v.rls })
def State.modUpd (s : State) (p : Nat) (f : UpdPort → UpdPort) : State := s.modPort p (fun v => { v with upd := f v.upd })
def State.modPwd (s : State) (p : Nat) (f : Pwd → Pwd) : State := s.modPort p (fun v => { v with pwd := f v.pwd })
def State.modKey (s : State) (p : Nat) (f : TapKeys → TapKeys) : State := s.modPort p (fun v => { v with key := f v.key })

/-! ### Numbering (00 R3) and pages (17 Table 17.1) -/

def hallOf (p : Nat) : Nat := p / 256
def galOf (p : Nat) : Nat := p / 64

def pgHall (h : Nat) : Nat := 0x40 + 8 * h
def pgHcol (h : Nat) : Nat := 0x41 + 8 * h
def pgDrc (h : Nat) : Nat := 0x42 + 8 * h
def pgHsh (h : Nat) : Nat := 0x43 + 8 * h
def pgGln (h : Nat) : Nat := 0x44 + 8 * h
def pgRng (h : Nat) : Nat := 0x45 + 8 * h
def pgRls (h : Nat) : Nat := 0x46 + 8 * h
def pgMir (h : Nat) : Nat := 0x47 + 8 * h
def pgGal (g : Nat) : Nat := 0x80 + 4 * g
def pgPw (g : Nat) : Nat := 0x81 + 4 * g
def pgLs (g : Nat) : Nat := 0x82 + 4 * g
def pgLp : Nat := 0xC0
def pgEnc (n : Nat) : Nat := 0xC1 + n
def pgSes (x : Nat) : Nat := 0xE1 + x
def pgPke (e : Nat) : Nat := 0x17 + e

/-- The ports listed in the state (a port not listed is in its reset state), of hall h. -/
def State.portsOf (s : State) (h : Nat) : List Nat := (s.ports.map (·.1)).filter (fun p => p / 256 == h)

/-- Codes of 01 Table 1.8. -/
def stCode : PortState → Nat
  | .absent => 0
  | .linking => 1
  | .pairing => 2
  | .held => 3
  | .verifying => 4
  | .released => 5
  | .adopted => 6
  | .quarantined => 7
  | .retired => 8

/-- Codes of 01 Table 1.10. -/
def modCode : ModState → Nat
  | .cold => 0
  | .loftBoot => 1
  | .hallBringup => 2
  | .verify => 3
  | .serving => 4
  | .departing => 5
  | .shutter => 6

def vcNum : Vc → Nat
  | .vc0 => 0
  | .vc1 => 1
  | .vc2 => 2
  | .vc3 => 3
  | .vc4 => 4

/-- The requester number of ACCESS (17 Table 17.2): 0 the warden, 1 + s session s. -/
def reqNum : Requester → Nat
  | .warden => 0
  | .session x => 1 + x.val

/-! ### Time (00 R6 to R9): one clock of 2.4 GHz ticks, from which every deciding clock counts (log 2) -/

def State.hnow (s : State) : Nat := s.time / 3
def State.lnow (s : State) : Nat := s.time / 4

/-- Cycle time: the 100 MHz count since the Loft reset was released (17 R493). -/
def State.cyc (s : State) : Nat := (s.time - s.loftAt) / 24

/-- Cycles in a second of the clock of the Loft watchdog: the 32 MHz RC oscillator with rc, else the Loft clock (00 Table 0.5). -/
def lwdHz (rc : Bool) : Nat := if rc then 32000000 else 600000000

/-- Ticks in a cycle of that clock. -/
def lwdTicks (rc : Bool) : Nat := if rc then 75 else 4

def State.lwdNow (s : State) (rc : Bool) : Nat := s.time / lwdTicks rc

/-- The clock at hall cycle c, or now when that is past. -/
def State.toHall (s : State) (c : Nat) : State := { s with time := max s.time (3 * c) }

/-- The clock at Loft cycle c, or now when that is past. -/
def State.toLoft (s : State) (c : Nat) : State := { s with time := max s.time (4 * c) }

/-- The window of n cycles that begins at cycle t (00 R9). -/
def mkWin (t n : Nat) : Window := ⟨t, t + n - 1⟩

/-- Cycle c lies in the window, both ends included (00 R7). -/
def inWin (w : Window) (c : Nat) : Bool := w.opn ≤ c && c ≤ w.dl

/-! ### Free values (log 4) -/

/-- n bytes of a fresh random draw; the draw number advances. -/
def State.draw (s : State) (n : Nat) : Bytes × State :=
  ((List.range n).map (fun i => Config.random s.freeCtr i), { s with freeCtr := s.freeCtr + 1 })

/-! ### Events of a source -/

def setBit32 (w : BitVec 32) (n : Nat) : BitVec 32 := w ||| BitVec.ofNat 32 (2 ^ n)

/-- ERR_FIRST holds the first source set since ERR_STAT was last all 0 (13 Table 13.3). -/
def noteFirst (h : Hdr) (wasZero : Bool) (bit port : Nat) : Hdr :=
  if wasZero then { h with firstBit := bit, firstValid := true, firstPort := port } else h

/-- The event enters the collectors unless its source is masked (13 R381). -/
def State.post (s : State) (e : Event) : State :=
  if (s.hdr e.page).errMask.getLsbD e.bit then s
  else s.modRoot (fun r => { r with evq := r.evq ++ [{ e with time := s.cyc, dry := e.dry || (e.inj && (s.hdr e.page).injDry) }] })

/-- An occurrence of source bit of a page: the ERR_STAT bit is set and the event is raised (13 R380). -/
def State.raiseE (s : State) (e : Event) : State :=
  let s1 := s.modHdr e.page (fun h =>
    let h1 := noteFirst h (h.errStat == 0) e.bit 0x3FF
    { h1 with errStat := setBit32 h.errStat e.bit })
  s1.post e

def State.raise (s : State) (page bit : Nat) (synd : Nat := 0) : State :=
  s.raiseE { page := page, bit := bit, synd := synd }

/-- A source of a page raised for a port, with a forced alarm when the block's rule says so (13 R391). -/
def State.raiseP (s : State) (page bit : Nat) (p : Nat) (forced : Bool := false) (synd : Nat := 0) : State :=
  s.raiseE { page := page, bit := bit, port := some p, forced := forced, synd := synd }

/-- A port error (13 R380, R383): carried by the link statistics page of the port's gallery. -/
def State.raisePort (s : State) (p bit : Nat) (inj : Bool := false) (synd : Nat := 0) : State :=
  let page := pgLs (galOf p)
  let zero := (s.portErr.filter (fun e => e.1 / 64 == galOf p)).all (fun e => e.2 == 0)
  let s1 := s.modHdr page (fun h => noteFirst h zero bit p)
  let s2 := { s1 with portErr := tabSet s1.portErr p (s1.perr p ||| BitVec.ofNat 8 (2 ^ bit)) }
  s2.post { page := page, bit := bit, port := some p, inj := inj, synd := synd }

/-- An access error (17 R487, Table 17.3): recorded by the page, no event. -/
def State.accErr (s : State) (page off reason : Nat) (r : Requester) : State :=
  s.modHdr page (fun h => { h with accErr := true, accReq := reqNum r, accOff := off, accReason := reason,
                                   accCount := satAdd 8 h.accCount 1 })

/-- An armed injection on a checker of a page takes effect at its next check, and then disarms (13 R407): its mode. -/
def State.injection (s : State) (page chk : Nat) (port : Option Nat) : Nat :=
  let h := s.hdr page
  if h.injArmed && h.injChk == chk && (port == none || port == some h.injPort) then h.injMode else 0

def State.disarm (s : State) (page : Nat) : State := s.modHdr page (fun h => { h with injArmed := false, injMode := 0 })

/-- A block interrupt: IRQ_STAT bit n (13 Table 13.3). -/
def State.irq (s : State) (page n : Nat) : State :=
  s.modHdr page (fun h => { h with irqStat := setBit32 h.irqStat n })

/-! ### Selectors and latches of a requester (17 R483) -/

def selKey (page off r : Nat) : Nat := (page * 4096 + off) * 8 + r
def State.getSel (s : State) (page off : Nat) (r : Requester) : Nat := tabGet 0 s.sel (selKey page off (reqNum r))
def State.setSel (s : State) (page off : Nat) (r : Requester) (v : Nat) : State :=
  { s with sel := tabSet s.sel (selKey page off (reqNum r)) v }
def State.getLatch (s : State) (page off : Nat) (r : Requester) : Nat := tabGet 0 s.latch (selKey page off (reqNum r))
def State.setLatch (s : State) (page off : Nat) (r : Requester) (v : Nat) : State :=
  { s with latch := tabSet s.latch (selKey page off (reqNum r)) v }

/-- The port a hall page's selector names for a requester. -/
def State.selPort (s : State) (h : Nat) (page off : Nat) (r : Requester) : Nat := 256 * h + s.getSel page off r % 256

end Sys2Proof.Machine
end

