-- ==== Sys2Proof/Machine/OtpOps.lean ====
section
/-! DEFINITION. The one-time-programmable memory (11): row encoding, classes, the start-up scan, commands, and the values that
other blocks read from its shadow. -/

namespace Sys2Proof.Machine

def State.modOtp (s : State) (f : Otp → Otp) : State := { s with otp := f s.otp }
def pgOtp : Nat := 0x12

/-! ### Rows (11 R331 to R335) -/

/-- The integers assigned to data bits 0 to 31 (11 R332). -/
def hamPos : List Nat := (List.range 39).filter (fun n => n ≥ 3 && n ≠ 4 && n ≠ 8 && n ≠ 16 && n ≠ 32)

def parityOf (n w : Nat) : Bool := (List.range w).foldl (fun a i => a != bit n i) false

/-- Check bit j of data d. -/
def hamBit (d j : Nat) : Bool := hamPos.zipIdx.foldl (fun a x => if bit x.1 j then a != bit d x.2 else a) false

def hamLow (d : Nat) : Nat := (List.range 6).foldl (fun a j => a + b2n (hamBit d j) * 2 ^ j) 0

/-- Data and check bits of a sealed row, marker 0 (11 Table 11.1, R332). -/
def sealEncode (d : Nat) : Nat :=
  let x := d % 2 ^ 32 + hamLow d * 2 ^ 32
  x + b2n (parityOf x 38) * 2 ^ 38

def markerBit : Nat := 2 ^ 39

/-- Decode 39 bits: the data and whether one error was corrected; none when uncorrectable. -/
def sealDecode (raw : Nat) : Option (Nat × Bool) :=
  let d := raw % 2 ^ 32
  let syn := Nat.xor (hamLow d) (bits raw 37 32)
  let par := parityOf raw 39
  if syn = 0 then some (d, par)
  else if !par then none
  else match hamPos.findIdx? (· == syn) with
    | some i => some (Nat.xor d (2 ^ i), true)
    | none => if syn = 1 ∨ syn = 2 ∨ syn = 4 ∨ syn = 8 ∨ syn = 16 ∨ syn = 32 then some (d, true) else none

/-- The region of a row (11 Table 11.2). -/
def otpRegion (r : Nat) : Option Nat :=
  if r < 8 then some 0 else if r < 24 then some 1 else if r < 32 then some 2 else if r < 44 then some 3
  else if r < 76 then some 4 else if r < 172 then some (5 + (r - 76) / 12)
  else if r = 172 then some 13 else if r = 173 then some 14 else if r < 182 then some 15
  else if r < 1206 then some (16 + (r - 182) / 128) else none

/-- First row and number of rows of a region. -/
def regionRows (g : Nat) : Nat × Nat :=
  if g = 0 then (0, 8) else if g = 1 then (8, 16) else if g = 2 then (24, 8) else if g = 3 then (32, 12)
  else if g = 4 then (44, 32) else if g ≤ 12 then (76 + 12 * (g - 5), 12)
  else if g = 13 then (172, 1) else if g = 14 then (173, 1) else if g = 15 then (174, 8)
  else if g ≤ 23 then (182 + 128 * (g - 16), 128) else (0, 0)

def rowsIn (g : Nat) : List Nat := (List.range (regionRows g).2).map (· + (regionRows g).1)

def twinRegion (g : Nat) : Bool := g = 13 || g = 14 || g = 15
def twinRow (r : Nat) : Bool := 172 ≤ r && r < 182

/-- Regions 0, 1 and 3 are programmed at manufacture; their data differ per module (Config.otpRow). -/
def factoryRegion (g : Nat) : Bool := g = 0 || g = 1 || g = 3

def factoryRow (r : Nat) : Nat :=
  if (match otpRegion r with
    | some g => factoryRegion g
    | none => false) then
    sealEncode (if r = 6 ∨ r = 7 ∨ r = 22 ∨ r = 23 then 0 else Config.otpRow r) + markerBit
  else 0

/-- The cells of a row at NORMAL, MARGIN_1 and MARGIN_0 (11 Table 11.5). -/
def Otp.normal (o : Otp) (r : Nat) : Nat := match tabFind o.rows r with
  | some v => v
  | none => factoryRow r
def Otp.marg1 (o : Otp) (r : Nat) : Nat := let n := o.normal r; n - Nat.land n (tabGet 0 o.weak r)
def Otp.marg0 (o : Otp) (r : Nat) : Nat := Nat.lor (o.normal r) (tabGet 0 o.leaky r)

/-- The pair of fuses of a region; those of the factory regions ship blown. -/
def Otp.fuse (o : Otp) (g : Nat) : Nat := match tabFind o.fuses g with
  | some v => v
  | none => if factoryRegion g then 3 else 0
/-- A lock is in force when either fuse reads blown (11 R337). -/
def Otp.locked (o : Otp) (g : Nat) : Bool := o.fuse g ≠ 0

/-- The class and shadow value of a row (11 Table 11.6). -/
def Otp.classify (o : Otp) (r : Nat) : ShRow :=
  let n := o.normal r
  let m1 := o.marg1 r
  let m0 := o.marg0 r
  let weak := m1 ≠ n
  let leaky := m0 ≠ n
  let mm := bit n 39 != bit m1 39 || bit n 39 != bit m0 39
  if twinRow r then
    { cls := 6, val := Nat.lor (n % 2 ^ 20) (n / 2 ^ 20), mism := n % 2 ^ 20 ≠ n / 2 ^ 20, weak := weak, leaky := leaky }
  else if n = 0 ∧ m0 = 0 then { cls := 0 }
  else if !bit n 39 then { cls := 4, weak := weak, leaky := leaky, mmarg := mm }
  else match sealDecode (n % 2 ^ 39), sealDecode (m1 % 2 ^ 39), sealDecode (m0 % 2 ^ 39) with
    | some a, some b, some c =>
      if a.1 = b.1 ∧ b.1 = c.1 then
        { cls := if m1 = n ∧ m0 = n then 1 else 2, val := a.1, marker := true, corr := a.2, weak := weak, leaky := leaky,
          mmarg := mm }
      else { cls := 3, marker := true, weak := weak, leaky := leaky, mmarg := mm }
    | _, _, _ => { cls := 3, marker := true, weak := weak, leaky := leaky, mmarg := mm }

def ShRow.held (x : ShRow) : Bool := x.cls == 1 || x.cls == 2
def ShRow.marginal (x : ShRow) : Bool := x.weak || x.leaky

/-- The shadow entry of a row; before the scan it is empty. -/
def Otp.sh (o : Otp) (r : Nat) : ShRow := if o.scanned then tabGet (o.classify r) o.shadow r else {}
def Otp.value (o : Otp) (r : Nat) : Nat := (o.sh r).val

/-- n rows from r as bytes (11 R334). -/
def Otp.bytes (o : Otp) (r n : Nat) : Bytes := (List.range n).flatMap (fun i => le 4 (o.value (r + i)))

/-! ### Values read by other blocks -/

def State.moduleId (s : State) : Bytes := s.otp.bytes 0 4
/-- The key epoch: the set bits of rows 174 to 181 (09 R296). -/
def State.epoch (s : State) : Nat :=
  (List.range 8).foldl (fun a k => a + ((List.range 20).filter (fun i => bit (s.otp.value (174 + k)) i)).length) 0
def Otp.slotHeld (o : Otp) (k : Nat) : Bool := (List.range 12).all (fun i => (o.sh (76 + 12 * k + i)).held)
def Otp.slotDigest (o : Otp) (k : Nat) : Bytes := o.bytes (76 + 12 * k) 12
def Otp.revoked (o : Otp) (k : Nat) : Bool := bit (o.value 172) k
/-- A digest is a usable manifest signer (11 R351). -/
def Otp.signer (o : Otp) (d : Bytes) : Bool :=
  (List.range 8).any (fun k => o.slotHeld k && !o.revoked k && o.slotDigest k == d)
def Otp.wardenOk (o : Otp) : Bool := (List.range 12).all (fun i => (o.sh (32 + i)).held)
def Otp.wardenSigner (o : Otp) : Bytes := o.bytes 32 12
/-- The version floor (11 R350). -/
def Otp.floor (o : Otp) : Nat :=
  (List.range 16).foldl (fun a k => if (o.sh (44 + 2 * k)).held && (o.sh (45 + 2 * k)).held
    then max a (o.value (44 + 2 * k) + 2 ^ 32 * o.value (45 + 2 * k)) else a) 0
/-- CONFIG0, taken as 0 unless held (11 Table 11.7). -/
def Otp.config0 (o : Otp) : Nat := if (o.sh 24).held then o.value 24 else 0
def Otp.svcClosed (o : Otp) : Bool := bit (o.value 173) 0
def Otp.testClosed (o : Otp) : Bool := bit (o.value 173) 1

/-! ### The start-up scan (11 R346 to R349) -/

/-- Step 1: complete a pair with one fuse blown. -/
def Otp.fixLocks (o : Otp) : Otp :=
  (List.range 24).foldl (fun a g => if a.fuse g = 1 ∨ a.fuse g = 2 then
    { a with fuses := tabSet a.fuses g 3, lockFix := satAdd 8 a.lockFix 1 } else a) o

/-- Step 3: program the missing copy of each bit set in one copy only. -/
def Otp.fixTwin (o : Otp) (r : Nat) : Otp :=
  let n := o.normal r
  let v := Nat.lor (n % 2 ^ 20) (n / 2 ^ 20)
  let full := v + v * 2 ^ 20
  if full = n then o
  else { o with rows := tabSet o.rows r full,
                twinFix := satAdd 8 o.twinFix ((List.range 40).filter (fun i => bit full i && !bit n i)).length }

def epochBit (o : Otp) (i : Nat) : Bool :=
  bit (o.normal (174 + i / 20)) (i % 20)

/-- Step 4: every clear epoch bit below the highest set one. -/
def Otp.fillEpoch (o : Otp) : Otp :=
  match ((List.range 160).filter (epochBit o)).getLast? with
  | none => o
  | some top => (List.range top).foldl (fun a i => if epochBit a i then a else
      let r := 174 + i / 20
      { a with rows := tabSet a.rows r (a.normal r + 2 ^ (i % 20) + 2 ^ (i % 20 + 20)), twinFix := satAdd 8 a.twinFix 2 }) o

def otpRowsAll : List Nat := List.range 1206

/-- The scan of the array: steps 1 to 5 of R346; the shadow holds what step 2 read, completed by steps 3 and 4. -/
def Otp.scan (o : Otp) : Otp :=
  let o0 := { o with shadow := [], lockFix := 0, twinFix := 0, partN := 0, unstN := 0, scanned := true }
  let o1 := o0.fixLocks
  let read := o1
  let o2 := (List.range 10).foldl (fun a k => a.fixTwin (172 + k)) o1
  let o3 := o2.fillEpoch
  let tw := (List.range 10).map (fun k => (172 + k, { o3.classify (172 + k) with mism := (read.classify (172 + k)).mism }))
  let cls := otpRowsAll.map (fun r => (r, read.classify r))
  let marg := (cls.filter (fun x => x.2.marginal)).map (·.1)
  let open_ := fun g => (rowsIn g).any (fun r => (read.classify r).cls == 0 || (read.classify r).cls == 4)
  { o3 with
    shadow := tw, margCnt := marg.length, margs := marg.take 16,
    partN := min 255 (cls.filter (fun x => x.2.cls == 4)).length,
    unstN := min 255 (cls.filter (fun x => x.2.cls == 3)).length,
    incomp := (List.range 24).foldl (fun a g => if read.locked g && !twinRegion g && open_ g then a + 2 ^ g else a) 0 }

/-- The scan's events (11 R346 to R349, 09 R296) and the retained marginal count (R347). -/
def State.otpScan (s : State) : State :=
  let twinBefore := (List.range 8).any (fun k => (s.otp.classify (174 + k)).mism)
  let s1 := s.modOtp (fun o => o.scan)
  let o := s1.otp
  let prev := s1.retained.otpCur
  let s2 := { s1 with retained := { s1.retained with otpPrev := prev, otpCur := o.margCnt } }
  let on := fun (c : Bool) (b : Nat) (t : State) => t.when c (fun u => u.raise pgOtp b)
  let cls := fun r => (o.classify r).cls
  let bad := fun g => (rowsIn g).any (fun r => !(o.classify r).held)
  let unst := o.unstN ≠ 0 && (([24] ++ (List.range 8).flatMap (fun k => rowsIn (5 + k))).any (fun r => cls r == 3))
  let floorU := (rowsIn 4).any (fun r => cls r == 3)
  let s3 := (on (o.margCnt ≠ 0) 0 s2)
  let s4 := on (o.margCnt > prev) 9 (on floorU 8 (on (o.lockFix ≠ 0) 5 (on (o.twinFix ≠ 0) 4
    (on (o.incomp ≠ 0) 3 (on (o.partN ≠ 0) 2 (on unst 1 s3))))))
  let s5 := s4.when (bad 0 || bad 3) (fun t => t.raiseE { page := pgOtp, bit := 7, forced := true })
  s5.when twinBefore (fun t => t.raise 0x14 4)

/-! ### Commands (11 R339 to R343) -/

/-- Rows of a region that hold no marker: BLANK or PARTIAL. -/
def Otp.unmarkedRows (o : Otp) (g : Nat) : Nat :=
  if twinRegion g then 0 else ((rowsIn g).filter (fun r => let c := (o.classify r).cls; c == 0 || c == 4)).length

/-- The cells REPULSE would pulse (11 R342). -/
def Otp.repulseMask (o : Otp) (r : Nat) : Nat :=
  let n := o.normal r
  if twinRow r then
    let v := Nat.lor (n % 2 ^ 20) (n / 2 ^ 20)
    let full := v + v * 2 ^ 20
    full - Nat.land full (o.marg1 r)
  else
    let e := sealEncode (o.classify r).val + markerBit
    e - Nat.land e (o.marg1 r)

/-- The check of a command (11 R340 to R342): 0 when it runs. -/
def Otp.check (o : Otp) (cmd row reg data : Nat) (accept : Bool) : Nat :=
  let region := otpRegion row
  let isRow := cmd ≠ 3
  if isRow && region.isNone then 3
  else if cmd = 3 && reg ≥ 24 then 3
  else if cmd = 1 then
    (if twinRow row then 4
     else if (row = 24 && data ≥ 8) || (25 ≤ row && row ≤ 31 && data ≠ 0) then 3
     else if o.locked (region.getD 0) then 5
     else
       let c := (o.classify row).cls
       let e := sealEncode data
       let seen := Nat.lor (o.normal row) (o.marg0 row)
       if c = 0 then 0
       else if c = 4 ∧ Nat.land seen e = seen then 0 else 6)
  else if cmd = 2 then
    (if !twinRow row then 4
     else if data ≥ 2 ^ 20 || (row = 173 && data ≥ 4) || (row = 172 && data ≥ 256) then 3
     else if o.locked (region.getD 0) then 5 else 0)
  else if cmd = 3 then
    (if o.locked reg then 5 else if o.unmarkedRows reg ≠ 0 && !accept then 8 else 0)
  else if cmd = 4 then
    (let c := (o.classify row).cls
     if c = 3 then 11 else if c = 0 ∨ c = 4 then 4 else if o.repulseMask row = 0 then 10 else 0)
  else 0

/-- What programming cells of a row up to a failed one leaves: the cells of mask below it are set; the failed cell reads
the free value. -/
def Otp.burn (o : Otp) (r mask weak : Nat) (fail : Option Nat) (free : Bool) : Otp :=
  let n := o.normal r
  let m := match fail with
    | some b => mask % 2 ^ b + (if free && bit mask b then 2 ^ b else 0)
    | none => mask
  { o with rows := tabSet o.rows r (Nat.lor n m),
           weak := tabSet o.weak r (let w := tabGet 0 o.weak r; Nat.lor (w - Nat.land w m) (Nat.land weak m)) }

/-- The running command ends (11 R338, R339): result, array, shadow; a REPULSE changes no shadow entry. -/
def Otp.finish (o : Otp) (c : OtpRun) (out : OtpOutcome) (free : Bool) : Otp :=
  let w := out.weak.toNat
  let ok := out.failedBit.isNone
  let res := if ok then 0 else 7
  let shadow := fun (x : Otp) => { x with shadow := tabSet x.shadow c.row (x.classify c.row) }
  let hold := fun (x : Otp) => { x with shadow := tabSet x.shadow c.row (o.sh c.row) }
  let o1 := { o with run := none, result := res }
  if c.cmd = 1 then
    let x := o1.burn c.row (sealEncode c.data + markerBit) w out.failedBit free
    if ok then shadow x else hold x
  else if c.cmd = 2 then
    let x := o1.burn c.row (c.data + c.data * 2 ^ 20) w out.failedBit free
    if ok then shadow x else hold x
  else if c.cmd = 3 then
    { o1 with fuses := tabSet o1.fuses c.reg (Nat.lor (o1.fuse c.reg) (match out.failedBit with
      | none => 3
      | some b => if b = 0 then 0 else 1)) }
  else if c.cmd = 4 then
    hold (o1.burn c.row (o1.repulseMask c.row) w out.failedBit free)
  else { o1 with raw := [o1.normal c.row, o1.marg1 c.row, o1.marg0 c.row], result := 0 }

/-- Epoch bit i is programmed in copy A, in copy B (09 R296). -/
def Otp.burnEpoch (o : Otp) (i : Nat) (a b : Bool) : Otp :=
  o.burn (174 + i / 20) (b2n a * 2 ^ (i % 20) + b2n b * 2 ^ (i % 20 + 20)) 0 none false

/-- The lowest clear epoch bit (09 R296); none at epoch 160. -/
def Otp.nextEpochBit (o : Otp) : Option Nat := (List.range 160).find? (fun i => !bit (o.value (174 + i / 20)) (i % 20))

/-- PUMP_READY (11 R339): the Loft supply is within limits, that is, no power-fail warning stands (15 R445). -/
def State.pumpReady (s : State) : Bool := s.modState != .cold && !s.pwr.warning

/-- A command that a requester issues with a key (11 R339; order of the checks: log 31); it starts or is refused. -/
def State.otpStart (s : State) (key : Nat) (c : OtpRun) (accept : Bool) : State :=
  let o := s.otp
  let un := if c.cmd = 3 then o.unmarkedRows c.reg else o.unmarked
  let res := if key ≠ 0x4D2C then 2
    else if o.run.isSome || s.kOpen.isSome then 1
    else if s.modState = .shutter ∨ !s.pumpReady ∨ !o.scanned ∨ !s.pwr.ready then 9
    else o.check c.cmd c.row c.reg c.data accept
  if res = 0 then s.modOtp (fun x => { x with run := some c, unmarked := un })
  else s.modOtp (fun x => { x with result := res, unmarked := if res = 8 then min 255 un else x.unmarked })

end Sys2Proof.Machine
end

