-- ==== Sys2Proof/Machine/Cipher.lean ====
section
/-! DEFINITION. AES-256 (FIPS 197) in Galois/counter mode (SP 800-38D), SHAKE256 (FIPS 202), and the binary BCH code of the PUF (09
R276). PRESUMED: the text of the standards is not in spec/ (log 101); the code's polynomial and bit order (log 21). -/

namespace Sys2Proof.Machine

/-! ### Binary fields -/

/-- a · b + c over GF(2), reduced by poly of degree w; the low n bits of b, the highest of them first. -/
def gfMulFrom (w poly a b : Nat) : Nat → Nat → Nat
  | 0, c => c
  | n + 1, c =>
    let d := 2 * c
    let e := if bit d w then Nat.xor d poly else d
    gfMulFrom w poly a b n (if bit b n then Nat.xor e a else e)

/-- The product in GF(2^w). -/
def gfMul (w poly a b : Nat) : Nat := gfMulFrom w poly a b w 0

/-- a^k in GF(2^w), for k of at most n bits. -/
def gfPow (w poly a : Nat) : Nat → Nat → Nat
  | 0, _ => 1
  | n + 1, k =>
    let h := gfPow w poly (gfMul w poly a a) n (k / 2)
    if k % 2 = 1 then gfMul w poly h a else h

/-! ### AES-256 -/

/-- A byte of the S-box: the affine map of the inverse in GF(2^8). -/
def aesSbox (v : Nat) : Nat :=
  let i := gfPow 8 0x11B v 8 254
  [i, 2 * i + i / 128, 4 * i + i / 64, 8 * i + i / 32, 16 * i + i / 16].foldl (fun a x => Nat.xor a (x % 256)) 0x63

/-- The S-box, tabulated. -/
def aesTable : List Nat := (List.range 256).map aesSbox
def aesSub (t : List Nat) (b : Nat) : Nat := t.getD b 0
def aesTwice (b : Nat) : Nat := gfMul 8 0x11B b 2

def xorList (a b : List Nat) : List Nat := (a.zip b).map (fun x => Nat.xor x.1 x.2)

/-- The words of the key schedule of a 32-byte key, n more of them; the words so far last first. -/
def aesGrow (t : List Nat) : Nat → List (List Nat) → List (List Nat)
  | 0, ws => ws
  | n + 1, ws =>
    let i := ws.length
    let prev := ws.headD []
    let f := if i % 8 = 0 then
        xorList ((prev.drop 1 ++ prev.take 1).map (aesSub t)) [gfPow 8 0x11B 2 4 (i / 8 - 1), 0, 0, 0]
      else if i % 8 = 4 then prev.map (aesSub t) else prev
    aesGrow t n (xorList f (ws.getD 7 []) :: ws)

/-- The 15 round keys of 16 bytes. -/
def aesKeys (t : List Nat) (key : Bytes) : List (List Nat) :=
  let ws := (aesGrow t 52 ((groups 4 8 (key.map (·.toNat))).reverse)).reverse
  (groups 4 15 ws).map (·.flatten)

/-- ShiftRows of the 16 bytes in column order. -/
def aesShift (b : List Nat) : List Nat := (List.range 16).map (fun i => b.getD ((i + 4 * (i % 4)) % 16) 0)

/-- MixColumns. -/
def aesMix (b : List Nat) : List Nat :=
  (List.range 16).map (fun i =>
    let col := fun (k : Nat) => b.getD (i / 4 * 4 + (i + k) % 4) 0
    let two := Nat.xor (aesTwice (col 0)) (aesTwice (col 1))
    Nat.xor (Nat.xor two (col 1)) (Nat.xor (col 2) (col 3)))

/-- AES-256 of a block of 16 bytes. -/
def aesBlock (key block : Bytes) : Bytes :=
  let t := aesTable
  let ks := aesKeys t key
  let s0 := xorList (block.map (·.toNat)) (ks.headD [])
  let s1 := ((ks.drop 1).take 13).foldl (fun s k => xorList (aesMix (aesShift (s.map (aesSub t)))) k) s0
  (xorList (aesShift (s1.map (aesSub t))) (ks.getD 14 [])).map (BitVec.ofNat 8)

/-! ### Galois/counter mode -/

def xorBytes (a b : Bytes) : Bytes := (a.zip b).map (fun x => x.1 ^^^ x.2)

/-- The counter stream of n blocks from counter value i. -/
def gcmStream (key nonce : Bytes) (i n : Nat) : Bytes :=
  (List.range n).flatMap (fun k => aesBlock key (nonce ++ beBytes 4 (i + k)))

/-- Zero bytes up to a whole number of blocks. -/
def gcmPad (b : Bytes) : Bytes := b ++ zeros ((16 - b.length % 16) % 16)

/-- The 128 bits of a number in reverse order. -/
def rev128 (v : Nat) : Nat := (List.range 128).foldl (fun a i => 2 * a + b2n (bit v i)) 0

/-- The hash of blocks under H; bit 0 of a block is its most significant one. -/
def ghash (h : Nat) (b : Bytes) : Bytes :=
  let y := (groups 16 (b.length / 16) b).foldl (fun a x =>
    gfMul 128 (2 ^ 128 + 0x87) (Nat.xor a (rev128 (beNat x))) h) 0
  beBytes 16 (rev128 y)

/-- The tag of a ciphertext with its additional data. -/
def gcmTag (key nonce aad ct : Bytes) : Bytes :=
  let h := rev128 (beNat (aesBlock key (zeros 16)))
  let s := ghash h (gcmPad aad ++ gcmPad ct ++ beBytes 8 (8 * aad.length) ++ beBytes 8 (8 * ct.length))
  xorBytes s (aesBlock key (nonce ++ beBytes 4 1))

/-- Encryption and decryption with the counter stream. -/
def gcmCrypt (key nonce text : Bytes) : Bytes := xorBytes text (gcmStream key nonce 2 (ceilDiv text.length 16))

/-- AES-256-GCM: the ciphertext, then the tag (09 R294, 14 R418). -/
def gcmSeal (key nonce aad text : Bytes) : Bytes :=
  let ct := gcmCrypt key nonce text
  ct ++ gcmTag key nonce aad ct

/-- The text of a sealed string whose tag verifies. -/
def gcmOpen (key nonce aad sealedText : Bytes) : Option Bytes :=
  let n := sealedText.length - 16
  let ct := sealedText.take n
  if gcmTag key nonce aad ct = sealedText.drop n then some (gcmCrypt key nonce ct) else none

/-! ### SHAKE256 -/

/-- Lane (x, y) of a Keccak state of 25 lanes. -/
def lane (s : List (BitVec 64)) (x y : Nat) : BitVec 64 := s.getD (x % 5 + 5 * (y % 5)) 0

/-- The lanes made from their coordinates. -/
def lanes (f : Nat → Nat → BitVec 64) : List (BitVec 64) := (List.range 25).map (fun i => f (i % 5) (i / 5))

/-- The rotation of each lane: t-th on the path (x, y) → (y, 2x + 3y) from (1, 0). -/
def keccakPath : Nat → Nat → Nat → Nat → List (Nat × Nat)
  | 0, _, _, _ => []
  | n + 1, t, x, y => (x + 5 * y, (t + 1) * (t + 2) / 2 % 64) :: keccakPath n (t + 1) y ((2 * x + 3 * y) % 5)

def keccakTurns : List (Nat × Nat) := keccakPath 24 0 1 0

/-- Bit t of the round constant sequence. -/
def keccakBit (t : Nat) : Bool := bit (gfPow 8 0x171 2 8 (t % 255)) 0

/-- The constant of a round. -/
def keccakConst (r : Nat) : BitVec 64 :=
  BitVec.ofNat 64 ((List.range 7).foldl (fun a j => a + b2n (keccakBit (j + 7 * r)) * 2 ^ (2 ^ j - 1)) 0)

def keccakRound (turns : List (Nat × Nat)) (s : List (BitVec 64)) (r : Nat) : List (BitVec 64) :=
  let col := (List.range 5).map (fun x => (List.range 5).foldl (fun a y => a ^^^ lane s x y) 0)
  let c := fun (x : Nat) => col.getD (x % 5) 0
  let a := lanes (fun x y => lane s x y ^^^ c (x + 4) ^^^ (c (x + 1)).rotateLeft 1)
  let b := lanes (fun x y =>
    let u := (x + 3 * y) % 5
    (lane a u x).rotateLeft (tabGet 0 turns (u + 5 * x)))
  lanes (fun x y => lane b x y ^^^ (~~~(lane b (x + 1) y) &&& lane b (x + 2) y) ^^^ (if x + y = 0 then keccakConst r else 0))

def keccakF (s : List (BitVec 64)) : List (BitVec 64) :=
  let turns := keccakTurns
  (List.range 24).foldl (keccakRound turns) s

/-- SHAKE256 of a byte string, the first n bytes. -/
def shake256 (m : Bytes) (n : Nat) : Bytes :=
  let rate := 136
  let k := m.length / rate + 1
  let gap := k * rate - m.length
  let p := m ++ (if gap = 1 then [0x9F] else 0x1F :: zeros (gap - 2) ++ [0x80])
  let take := fun (s : List (BitVec 64)) => (s.take 17).flatMap (fun l => le 8 l.toNat)
  let s := (groups rate k p).foldl (fun s x =>
    keccakF ((s.zip ((groups 8 17 x).map (fun g => BitVec.ofNat 64 (leNat g)) ++ List.replicate 8 0)).map (fun y => y.1 ^^^ y.2)))
    (List.replicate 25 0)
  ((List.range (ceilDiv n rate)).foldl (fun a _ => (a.1 ++ take a.2, keccakF a.2)) (([] : Bytes), s)).1.take n

/-! ### The BCH code of length 511 and dimension 259 (09 R276) -/

def bchPoly : Nat := 0x211
def bchMul (a b : Nat) : Nat := gfMul 9 bchPoly a b
/-- The powers of the primitive element, from its 0th. -/
def bchPowers : Nat → Nat → List Nat
  | 0, _ => []
  | n + 1, a => a :: bchPowers n (bchMul a 2)
def bchExp : List Nat := bchPowers 511 1
def bchInv (a : Nat) : Nat := gfPow 9 bchPoly a 9 510

/-- The syndromes 1 to 60 of a word given by the places of its ones. -/
def bchSyndromes (ex : List Nat) (ones : List Nat) : List Nat :=
  (List.range 60).map (fun j => ones.foldl (fun a i => Nat.xor a (ex.getD (i * (j + 1) % 511) 0)) 0)

/-- The error locator after n more syndromes (Berlekamp and Massey): polynomials lowest coefficient first, the length of the
register, the last discrepancy and the steps since it. -/
def bchLocator (syn : List Nat) : Nat → Nat → List Nat → List Nat → Nat → Nat → Nat → List Nat
  | 0, _, c, _, _, _, _ => c
  | n + 1, r, c, b, l, gap, last =>
    let d := (List.range (l + 1)).foldl (fun a i => Nat.xor a (bchMul (c.getD i 0) (syn.getD (r - i) 0))) 0
    let f := bchMul d (bchInv last)
    let t := List.replicate gap 0 ++ b.map (bchMul f)
    let next := (List.range (max c.length t.length)).map (fun i => Nat.xor (c.getD i 0) (t.getD i 0))
    if d = 0 then bchLocator syn n (r + 1) c b l (gap + 1) last
    else if 2 * l ≤ r then bchLocator syn n (r + 1) next c (r + 1 - l) 1 d
    else bchLocator syn n (r + 1) next b l (gap + 1) last

/-- The places at which the locator shows an error. -/
def bchRoots (ex c : List Nat) : List Nat :=
  (List.range 511).filter (fun i =>
    c.zipIdx.foldl (fun a x => Nat.xor a (bchMul x.1 (ex.getD ((511 - i) * x.2 % 511) 0))) 0 == 0)

/-- The codeword within 30 errors of a word of 511 bits, each word given by the places of its ones. -/
def bchDecode (ones : List Nat) : Option (List Nat) :=
  let ex := bchExp
  let syn := bchSyndromes ex ones
  let c := bchLocator syn 60 0 [1] [1] 0 1 1
  let bad := bchRoots ex c
  let word := (List.range 511).filter (fun i => ones.contains i != bad.contains i)
  if bad.length ≤ 30 ∧ (bchSyndromes ex word).all (· == 0) = true then some word else none

/-- The message of a codeword: its 259 highest places, as bytes with bit 0 of byte 0 the lowest place. -/
def bchMessage (word : List Nat) : Bytes :=
  (List.range 33).map (fun i => BitVec.ofNat 8 ((List.range 8).foldl (fun a k =>
    a + b2n (8 * i + k < 259 && word.contains (252 + 8 * i + k)) * 2 ^ k) 0))

end Sys2Proof.Machine
end

