-- ==== Sys2Proof/Machine/Curves.lean ====
section
/-! DEFINITION. Modular arithmetic and the curves of the public-key engines: P-256, P-384 and P-521 (FIPS 186-5, SP 800-186), Ed25519
and Ed448 (RFC 8032), X25519 and X448 (RFC 7748). PRESUMED: the text of these standards is not in spec/ (log 101). -/

namespace Sys2Proof.Machine

/-! ### Numbers modulo m -/

/-- An integer reduced modulo m. -/
def red (m : Nat) (x : Int) : Nat := (x % (m : Int)).toNat

/-- a · b^e mod m over the low n bits of e. -/
def powBits (m : Nat) : Nat → Nat → Nat → Nat → Nat
  | 0, _, _, a => a
  | n + 1, b, e, a => powBits m n (b * b % m) (e / 2) (if e % 2 = 1 then a * b % m else a)

/-- The number of bits of a number. -/
def bitLen (x : Nat) : Nat := if x = 0 then 0 else Nat.log2 x + 1

/-- b^e mod m. -/
def powMod (m b e : Nat) : Nat := powBits m (bitLen e) (b % m) e (1 % m)

/-- Euclid's quotients from r0, r1, with the coefficient of the first operand of each remainder modulo m. -/
def invLoop (m : Nat) : Nat → Nat → Nat → Nat → Nat → Nat
  | 0, _, _, t0, _ => t0
  | n + 1, r0, r1, t0, t1 => if r1 = 0 then t0 else invLoop m n r1 (r0 % r1) t1 (red m (t0 - r0 / r1 * t1))

/-- The inverse of a modulo m, where it has one. -/
def invMod (m a : Nat) : Nat := invLoop m (2 * bitLen m + 2) m (a % m) 0 1

/-- A square root of v modulo a prime p that is 3 modulo 4 or 5 modulo 8, where v is a square. -/
def sqrtMod (p v : Nat) : Option Nat :=
  let c := if p % 4 = 3 then powMod p v ((p + 1) / 4) else powMod p v ((p + 3) / 8)
  let d := if c * c % p = v % p then c else c * powMod p 2 ((p - 1) / 4) % p
  if d * d % p = v % p then some d else none

/-- A byte string read least significant byte first in n bytes. -/
def leField (n v : Nat) : Bytes := le n v

/-! ### Points in projective coordinates -/

structure Pt where
  x : Nat
  y : Nat
  z : Nat
  deriving DecidableEq, Repr

/-- k · P + A by doubling, over the low n bits of k. -/
def mulBits (add : Pt → Pt → Pt) : Nat → Nat → Pt → Pt → Pt
  | 0, _, _, a => a
  | n + 1, k, p, a => mulBits add n (k / 2) (add p p) (if k % 2 = 1 then add a p else a)

/-- The same point with its coordinates scaled by a random factor (10 R317). -/
def Pt.scaled (q : Pt) (p z : Nat) : Pt := let f := if z % p = 0 then 1 else z % p; ⟨q.x * f % p, q.y * f % p, q.z * f % p⟩

/-! ### The NIST curves y² = x³ − 3x + b -/

structure NistCurve where
  p  : Nat
  b  : Nat
  gx : Nat
  gy : Nat
  n  : Nat
  len : Nat

def p256 : NistCurve := {
  p := 2 ^ 256 - 2 ^ 224 + 2 ^ 192 + 2 ^ 96 - 1
  b := 0x5ac635d8aa3a93e7b3ebbd55769886bc651d06b0cc53b0f63bce3c3e27d2604b
  gx := 0x6b17d1f2e12c4247f8bce6e563a440f277037d812deb33a0f4a13945d898c296
  gy := 0x4fe342e2fe1a7f9b8ee7eb4a7c0f9e162bce33576b315ececbb6406837bf51f5
  n := 0xffffffff00000000ffffffffffffffffbce6faada7179e84f3b9cac2fc632551
  len := 32 }

def p384 : NistCurve := {
  p := 2 ^ 384 - 2 ^ 128 - 2 ^ 96 + 2 ^ 32 - 1
  b := 0xb3312fa7e23ee7e4988e056be3f82d19181d9c6efe8141120314088f5013875ac656398d8a2ed19d2a85c8edd3ec2aef
  gx := 0xaa87ca22be8b05378eb1c71ef320ad746e1d3b628ba79b9859f741e082542a385502f25dbf55296c3a545e3872760ab7
  gy := 0x3617de4a96262c6f5d9e98bf9292dc29f8f41dbd289a147ce9da3113b5f0b8c00a60b1ce1d7e819d7a431d7c90ea0e5f
  n := 0xffffffffffffffffffffffffffffffffffffffffffffffffc7634d81f4372ddf581a0db248b0a77aecec196accc52973
  len := 48 }

def p521 : NistCurve := {
  p := 2 ^ 521 - 1
  b := 0x0051953eb9618e1c9a1f929a21a0b68540eea2da725b99b315f3b8b489918ef109e156193951ec7e937b1652c0bd3bb1bf073573df883d2c34f1ef451fd46b503f00
  gx := 0x00c6858e06b70404e9cd9e3ecb662395b4429c648139053fb521f828af606b4d3dbaa14b5e77efe75928fe1dc127a2ffa8de3348b3c1856a429bf97e7e31c2e5bd66
  gy := 0x011839296a789a3bc0045c8a5fb42c7d1bd998f54449579b446817afbd17273e662c97ee72995ef42640c550b9013fad0761353c7086a272c24088be94769fd16650
  n := (2 ^ 257 - 1) * 2 ^ 264 + 0xfa51868783bf2f966b7fcc0148f709a5d03bb5c9b8899c47aebb6fb71e91386409
  len := 66 }

/-- The curve of an ALG code. -/
def nistCurve (alg : Nat) : NistCurve := if alg = 4 then p256 else if alg = 5 then p384 else p521

/-- The order of the P-384 group (09 R280). -/
def p384n : Nat := p384.n

/-- Complete addition: one formula for every two points, the identity (0 : 1 : 0) among them. -/
def NistCurve.add (c : NistCurve) (s t : Pt) : Pt :=
  let u : Int := s.x * t.z + t.x * s.z
  let v : Int := s.y * t.z + t.y * s.z
  let w : Int := s.x * t.y + t.x * s.y
  let zz : Int := s.z * t.z
  let yy : Int := s.y * t.y
  let k : Int := 3 * c.b * zz - 3 * u
  let m : Int := 3 * (s.x * t.x) - 3 * zz
  let l : Int := 3 * c.b * u - 3 * (s.x * t.x) - 9 * zz
  ⟨red c.p (w * (yy - k) - v * l), red c.p ((yy + k) * (yy - k) + m * l), red c.p (v * (yy + k) + w * m)⟩

def ptZero : Pt := ⟨0, 1, 0⟩

/-- k · P, with the coordinates of P scaled by z. -/
def NistCurve.mul (c : NistCurve) (z k : Nat) (q : Pt) : Pt := mulBits c.add (bitLen k) k (q.scaled c.p z) ptZero

/-- The affine coordinates of a point that is not the identity. -/
def NistCurve.affine (c : NistCurve) (q : Pt) : Nat × Nat := let i := invMod c.p q.z; (q.x * i % c.p, q.y * i % c.p)

def NistCurve.gen (c : NistCurve) : Pt := ⟨c.gx, c.gy, 1⟩
def Pt.isZero (q : Pt) : Bool := q.z == 0

/-- (x, y) lies on the curve. -/
def NistCurve.onCurve (c : NistCurve) (x y : Nat) : Bool := y * y % c.p == red c.p ((x : Int) * x * x - 3 * x + c.b)

/-- The SEC 1 uncompressed form (10 R305). -/
def NistCurve.encode (c : NistCurve) (q : Pt) : Bytes := let a := c.affine q; 4 :: (beBytes c.len a.1 ++ beBytes c.len a.2)

/-- Row 2 of Table 10.5: first byte 0x04, X and Y below p, on the curve. -/
def NistCurve.decode (c : NistCurve) (b : Bytes) : Option Pt :=
  let x := beNat (sub b 1 c.len)
  let y := beNat (sub b (1 + c.len) c.len)
  if b.head? = some 4 ∧ x < c.p ∧ y < c.p ∧ c.onCurve x y = true then some ⟨x, y, 1⟩ else none

/-! ### ECDSA -/

/-- A digest as a number: its leftmost bits, as many as the group order has (10 R305). -/
def NistCurve.digest (c : NistCurve) (h : Bytes) : Nat :=
  let e := beNat h
  if 8 * h.length > bitLen c.n then e / 2 ^ (8 * h.length - bitLen c.n) else e

/-- The signature (r, s) of a digest under d with the nonce k, on k + m · n with projective coordinates scaled by z (10 R317). -/
def NistCurve.sign (c : NistCurve) (z m d k : Nat) (h : Bytes) : Nat × Nat :=
  let r := (c.affine (c.mul z (k + m * c.n) c.gen)).1 % c.n
  (r, invMod c.n k * (c.digest h + r * d) % c.n)

/-- (r, s) is a signature of a digest under the point Q. -/
def NistCurve.verify (c : NistCurve) (q : Pt) (h : Bytes) (r s : Nat) : Bool :=
  let w := invMod c.n s
  let x := c.add (c.mul 1 (c.digest h * w % c.n) c.gen) (c.mul 1 (r * w % c.n) q)
  !x.isZero && (c.affine x).1 % c.n == r

/-! ### Edwards curves a·x² + y² = 1 + d·x²·y² -/

structure EdCurve where
  p  : Nat
  a  : Int
  d  : Nat
  gx : Nat
  gy : Nat
  l  : Nat
  cof : Nat
  len : Nat

def ed25519p : Nat := 2 ^ 255 - 19

def ed25519 : EdCurve := {
  p := ed25519p
  a := -1
  d := red ed25519p (-(121665 * invMod ed25519p 121666 : Int))
  gx := 15112221349535400772501151409588531511454012693041857206046113283949847762202
  gy := 4 * invMod ed25519p 5 % ed25519p
  l := 2 ^ 252 + 27742317777372353535851937790883648493
  cof := 8
  len := 32 }

def ed448 : EdCurve := {
  p := 2 ^ 448 - 2 ^ 224 - 1
  a := 1
  d := 2 ^ 448 - 2 ^ 224 - 1 - 39081
  gx := 224580040295924300187604334099896036246789641632564134246125461686950415467406032909029192869357953282578032075146446173674602635247710
  gy := 298819210078481492676017930443930673437544040154080242095928241372331506189835876003536878655418784733982303233503462500531545062832660
  l := 2 ^ 446 - 13818066809895115352007386748515426880336692474882178609894547503885
  cof := 4
  len := 57 }

def edCurve (alg : Nat) : EdCurve := if alg = 7 then ed25519 else ed448

/-- Complete addition of points (X : Y : Z). -/
def EdCurve.add (c : EdCurve) (s t : Pt) : Pt :=
  let zz : Int := s.z * t.z
  let xx : Int := s.x * t.x
  let yy : Int := s.y * t.y
  let e : Int := red c.p (c.d * xx * yy)
  let minus := zz * zz - e
  let plus := zz * zz + e
  ⟨red c.p (zz * minus * ((s.x + s.y) * (t.x + t.y) - xx - yy)), red c.p (zz * plus * (yy - c.a * xx)), red c.p (minus * plus)⟩

def edZero : Pt := ⟨0, 1, 1⟩
def EdCurve.mul (c : EdCurve) (z k : Nat) (q : Pt) : Pt := mulBits c.add (bitLen k) k (q.scaled c.p z) edZero
def EdCurve.gen (c : EdCurve) : Pt := ⟨c.gx, c.gy, 1⟩

/-- Two points are the same. -/
def EdCurve.same (c : EdCurve) (s t : Pt) : Bool := s.x * t.z % c.p == t.x * s.z % c.p && s.y * t.z % c.p == t.y * s.z % c.p

/-- The curve equation holds of a point. -/
def EdCurve.onCurve (c : EdCurve) (q : Pt) : Bool :=
  let i := invMod c.p q.z
  let x := q.x * i % c.p
  let y := q.y * i % c.p
  red c.p (c.a * x * x + y * y) == red c.p (1 + c.d * x * x * y * y)

/-- y with the low bit of x as the top bit (RFC 8032). -/
def EdCurve.encode (c : EdCurve) (q : Pt) : Bytes :=
  let i := invMod c.p q.z
  leField c.len (q.y * i % c.p + q.x * i % c.p % 2 * 2 ^ (8 * c.len - 1))

/-- Rows 3 and 6 of Table 10.5: a canonical encoding that decodes to a curve point. -/
def EdCurve.decode (c : EdCurve) (b : Bytes) : Option Pt :=
  let v := leNat (b.take c.len)
  let y := v % 2 ^ (8 * c.len - 1)
  let sign := v / 2 ^ (8 * c.len - 1) % 2
  if c.p ≤ y then none
  else match sqrtMod c.p (red c.p (1 - (y : Int) * y) * invMod c.p (red c.p (c.a - c.d * y * y)) % c.p) with
    | none => none
    | some x => if x = 0 ∧ sign = 1 then none else some ⟨if x % 2 = sign then x else c.p - x, y, 1⟩

/-! ### Montgomery curves v² = u³ + A·u² + u -/

structure MontCurve where
  p  : Nat
  a  : Nat
  u  : Nat
  /-- The orders of the curve's group and of its twist's. -/
  order : Nat
  twist : Nat
  len : Nat

def x25519 : MontCurve := {
  p := 2 ^ 255 - 19, a := 486662, u := 9
  order := 8 * (2 ^ 252 + 27742317777372353535851937790883648493)
  twist := 2 * (2 ^ 255 - 19) + 2 - 8 * (2 ^ 252 + 27742317777372353535851937790883648493)
  len := 32 }

def x448 : MontCurve := {
  p := 2 ^ 448 - 2 ^ 224 - 1, a := 156326, u := 5
  order := 4 * (2 ^ 446 - 13818066809895115352007386748515426880336692474882178609894547503885)
  twist := 2 * (2 ^ 448 - 2 ^ 224 - 1) + 2 - 4 * (2 ^ 446 - 13818066809895115352007386748515426880336692474882178609894547503885)
  len := 56 }

def montCurve (alg : Nat) : MontCurve := if alg = 9 then x25519 else x448

/-- A private key clamped as RFC 7748 states. -/
def MontCurve.clamp (c : MontCurve) (b : Bytes) : Nat :=
  let v := leNat (b.take c.len)
  if c.len = 32 then 2 ^ 254 + v % 2 ^ 254 / 8 * 8 else 2 ^ 447 + v % 2 ^ 447 / 4 * 4

/-- A peer's u-coordinate, its unused top bit masked. -/
def MontCurve.peer (c : MontCurve) (b : Bytes) : Nat := if c.len = 32 then leNat (b.take 32) % 2 ^ 255 else leNat (b.take 56)

/-- 2 · (X : Z). -/
def MontCurve.dbl (c : MontCurve) (x z : Nat) : Nat × Nat :=
  let s : Int := (x + z) * (x + z)
  let t : Int := ((x : Int) - z) * ((x : Int) - z)
  (red c.p (s * t), red c.p ((s - t) * (s + (c.a - 2) / 4 * (s - t))))

/-- (X : Z) + (X' : Z') where the difference of the two is (u : w). -/
def MontCurve.dif (c : MontCurve) (u w x z x' z' : Nat) : Nat × Nat :=
  let s : Int := (x + z) * ((x' : Int) - z')
  let t : Int := ((x : Int) - z) * (x' + z')
  (red c.p (w * ((s + t) * (s + t))), red c.p (u * ((s - t) * (s - t))))

/-- The ladder over bits n − 1 down to 0 of k, from the multiples (P, P + Q) of the start. -/
def MontCurve.ladder (c : MontCurve) (u w k : Nat) : Nat → (Nat × Nat) → (Nat × Nat) → Nat × Nat
  | 0, r, _ => r
  | n + 1, r, q =>
    let s := c.dif u w r.1 r.2 q.1 q.2
    if bit k n then c.ladder u w k n s (c.dbl q.1 q.2) else c.ladder u w k n (c.dbl r.1 r.2) s

/-- k times the point of u-coordinate u, projective, its start scaled by z (10 R317). -/
def MontCurve.mulX (c : MontCurve) (z k u : Nat) : Nat × Nat :=
  let f := if z % c.p = 0 then 1 else z % c.p
  c.ladder (u * f % c.p) f k (bitLen k) (1, 0) (u * f % c.p, f)

/-- u lies on the curve and not on its twist. -/
def MontCurve.onCurve (c : MontCurve) (u : Nat) : Bool :=
  let v := red c.p ((u : Int) * u * u + c.a * u * u + u)
  v == 0 || powMod c.p v ((c.p - 1) / 2) == 1

/-- k · u with the scalar k + m · n, where n is the order of the group that u lies in (10 R317); 0 for the identity. -/
def MontCurve.mul (c : MontCurve) (z m k u : Nat) : Nat :=
  let r := c.mulX z (k + m * (if c.onCurve u then c.order else c.twist)) u
  r.1 * invMod c.p r.2 % c.p

/-- u is the coordinate of a point of small order on the curve or on its twist (row 5 of Table 10.5). -/
def MontCurve.small (c : MontCurve) (u : Nat) : Bool := (c.mulX 1 8 (u % c.p)).2 == 0

end Sys2Proof.Machine
end

