-- ==== Sys2Proof/Machine/PkeMath.lean ====
section
/-! DEFINITION. The operations of the public-key engines (10 R304 to R306, R316 to R319): validation, computation and
verify-before-release, from the operands in the engine's memory and the values drawn at LOAD. PRESUMED: FIPS 186-5, RFC 8032, RFC 7748, RFC
8017 and RFC 6979, whose text is not in spec/ (log 101). -/

namespace Sys2Proof.Machine

/-! ### Hashes by HASH code (10 Table 10.3) -/

def hashBytes (h : Nat) : Nat := if h = 1 then 32 else if h = 2 then 48 else 64
def hashOf (h : Nat) (b : Bytes) : Bytes := if h = 1 then sha256 b else if h = 2 then sha384 b else sha512 b
def hmacOf (h : Nat) (k b : Bytes) : Bytes := hmac (hashOf h) (if h = 1 then 64 else 128) k b

/-! ### Values drawn at LOAD (10 R317): byte i of the job's draw, by purpose -/

abbrev RandStream := Nat → BitVec 8
def RandStream.bytes (r : RandStream) (o n : Nat) : Bytes := (List.range n).map (fun i => r (o + i))
def RandStream.num (r : RandStream) (o n : Nat) : Nat := leNat (r.bytes o n)
/-- The factor of the projective coordinates. -/
def RandStream.z (r : RandStream) : Nat := r.num 0 72
/-- The 64-bit multiple that blinds a scalar or an exponent. -/
def RandStream.m (r : RandStream) : Nat := r.num 72 8
/-- The 32 fresh bytes of an ECDSA nonce. -/
def RandStream.fresh (r : RandStream) : Bytes := r.bytes 80 32
def RandStream.salt (r : RandStream) (n : Nat) : Bytes := r.bytes 112 n
/-- The base that blinds an RSA private operation. -/
def RandStream.base (r : RandStream) (n : Nat) : Nat := r.num 176 (n / 8 + 8)
/-- The material of a new key. -/
def RandStream.key (r : RandStream) (n : Nat) : Bytes := r.bytes 1536 n
/-- Bytes of candidate c for prime j of an RSA key: the candidate itself (0) and the bases of its tests. -/
def RandStream.cand (r : RandStream) (j c t n : Nat) : Nat := r.num (4096 + (j * 65536 + c) * 65536 + t * 1024) n

/-! ### Jobs as the engine computes them -/

structure PkeArgs where
  cmd  : Nat
  alg  : Nat
  len  : Nat
  hash : Nat
  salt : Nat
  key  : Bytes
  ins  : List Bytes
  rnd  : RandStream

/-- What a computation ends with: its result of Table 10.8 before any hardware fault, its output operands in slot order, the
material for DEST_SLOT, the candidates tried. -/
structure PkeOut where
  code   : Nat := 0
  outs   : List Bytes := []
  secret : Bytes := []
  tried  : Nat := 0
  deriving DecidableEq, Repr

def PkeArgs.in_ (a : PkeArgs) (i : Nat) : Bytes := a.ins.getD i []

/-! ### ECDSA -/

/-- RFC 6979: candidates of the nonce from state (K, V) until one is accepted; 0 when none of n is. -/
def nonceFrom (h : Nat) (c : NistCurve) (ok : Nat → Bool) : Nat → Bytes → Bytes → Nat
  | 0, _, _ => 0
  | n + 1, k, v =>
    let vs := (List.range (ceilDiv c.len (hashBytes h))).foldl (fun a _ => a ++ [hmacOf h k (a.getLastD v)]) []
    let t := c.digest (vs.flatten.take c.len)
    let last := vs.getLastD v
    if 1 ≤ t ∧ t < c.n ∧ ok t = true then t
    else
      let k1 := hmacOf h k (last ++ [0])
      nonceFrom h c ok n k1 (hmacOf h k1 last)

/-- The nonce of a digest under d with additional data (RFC 6979, 3.2 and 3.6). -/
def nonce (h : Nat) (c : NistCurve) (ok : Nat → Bool) (d : Nat) (digest extra : Bytes) : Nat :=
  let seed := beBytes c.len d ++ beBytes c.len (c.digest digest % c.n) ++ extra
  let v0 : Bytes := List.replicate (hashBytes h) 1
  let k1 := hmacOf h (zeros (hashBytes h)) (v0 ++ [0] ++ seed)
  let v1 := hmacOf h k1 v0
  let k2 := hmacOf h k1 (v1 ++ [1] ++ seed)
  nonceFrom h c ok 64 k2 (hmacOf h k2 v1)

/-- SIGN: r then s; CHECK: kG on the curve, r and s not 0, s · k ≡ e + r · d. -/
def PkeArgs.ecdsaSign (a : PkeArgs) : PkeOut :=
  let c := nistCurve a.alg
  let h := a.in_ 0
  let d := beNat a.key
  let sig := fun (k : Nat) => c.sign a.rnd.z a.rnd.m d k h
  let k := nonce a.hash c (fun k => (sig k).1 ≠ 0 && (sig k).2 ≠ 0) d h a.rnd.fresh
  let s := sig k
  let kg := c.affine (c.mul a.rnd.z k c.gen)
  if c.onCurve kg.1 kg.2 ∧ s.1 ≠ 0 ∧ s.2 ≠ 0 ∧ s.2 * k % c.n = (c.digest h + s.1 * d) % c.n then
    { outs := [beBytes c.len s.1, beBytes c.len s.2] }
  else { code := 21 }

def PkeArgs.ecdsaVerify (a : PkeArgs) : PkeOut :=
  let c := nistCurve a.alg
  match c.decode (a.in_ 3) with
  | some q => { code := if c.verify q (a.in_ 0) (beNat ((a.in_ 1).take c.len)) (beNat ((a.in_ 2).take c.len)) then 0 else 20 }
  | none => { code := 20 }

/-! ### EdDSA -/

/-- The hash of an Edwards curve: SHA-512, or SHAKE256 with 114 bytes. -/
def edHash (alg : Nat) (b : Bytes) : Bytes := if alg = 7 then sha512 b else shake256 b 114
def edDom (alg : Nat) : Bytes := if alg = 7 then [] else "SigEd448".toList.map (fun c => BitVec.ofNat 8 c.toNat) ++ [0, 0]

/-- The secret scalar of a private key and the prefix of its nonces (RFC 8032). -/
def edSecret (alg : Nat) (key : Bytes) : Nat × Bytes :=
  let n := (edCurve alg).len
  let h := edHash alg (key.take n)
  let v := leNat (h.take n)
  (if alg = 7 then 2 ^ 254 + v % 2 ^ 254 / 8 * 8 else 2 ^ 447 + v % 2 ^ 447 / 4 * 4, h.drop n)

/-- The public key of a private key, on the blinded scalar. -/
def edPublic (alg z m : Nat) (key : Bytes) : Pt :=
  let c := edCurve alg
  c.mul z ((edSecret alg key).1 + m * c.l) c.gen

def edChallenge (alg : Nat) (r pub msg : Bytes) : Nat := leNat (edHash alg (edDom alg ++ r ++ pub ++ msg)) % (edCurve alg).l

/-- SIGN: R then S; CHECK: R on the curve, S ≡ r + h · a. -/
def PkeArgs.edSign (a : PkeArgs) : PkeOut :=
  let c := edCurve a.alg
  let sec := edSecret a.alg a.key
  let r := leNat (edHash a.alg (edDom a.alg ++ sec.2 ++ a.in_ 0)) % c.l
  let rp := c.mul a.rnd.z (r + a.rnd.m * c.l) c.gen
  let rb := c.encode rp
  let h := edChallenge a.alg rb (c.encode (edPublic a.alg a.rnd.z a.rnd.m a.key)) (a.in_ 0)
  let s := (r + h * sec.1) % c.l
  if c.onCurve rp = true ∧ s % c.l = (r + h * sec.1) % c.l then { outs := [rb, leField c.len s] } else { code := 21 }

/-- VERIFY with the cofactor: [8S]B = [8]R + [8h]A, [4] on Ed448. -/
def PkeArgs.edVerify (a : PkeArgs) : PkeOut :=
  let c := edCurve a.alg
  match c.decode (a.in_ 1), c.decode (a.in_ 3) with
  | some r, some q =>
    let h := edChallenge a.alg ((a.in_ 1).take c.len) ((a.in_ 3).take c.len) (a.in_ 0)
    let s := leNat ((a.in_ 2).take c.len)
    let left := c.mul 1 (c.cof * s) c.gen
    let right := c.mul 1 c.cof (c.add r (c.mul 1 h q))
    { code := if c.same left right then 0 else 20 }
  | _, _ => { code := 20 }

/-! ### RSA -/

/-- A private key as a slot holds it: n, e in 8 bytes, d, p, q, most significant byte first (log 101). -/
structure RsaKey where
  n : Nat
  e : Nat
  d : Nat
  p : Nat
  q : Nat

def RsaKey.bytes (k : RsaKey) (w : Nat) : Bytes :=
  beBytes w k.n ++ beBytes 8 k.e ++ beBytes w k.d ++ beBytes (w / 2) k.p ++ beBytes (w / 2) k.q

def rsaKey (b : Bytes) : RsaKey :=
  let w := (b.length - 8) / 3
  ⟨beNat (sub b 0 w), beNat (sub b w 8), beNat (sub b (w + 8) w), beNat (sub b (2 * w + 8) (w / 2)),
   beNat (sub b (2 * w + 8 + w / 2) (w / 2))⟩

/-- MGF1 (RFC 8017). -/
def mgf1 (h : Nat) (seed : Bytes) (n : Nat) : Bytes :=
  ((List.range (ceilDiv n (hashBytes h))).flatMap (fun i => hashOf h (seed ++ beBytes 4 i))).take n

/-- The top bit of a string cleared: EM has one bit less than the modulus. -/
def clearTop (b : Bytes) : Bytes := match b with
  | x :: t => (x &&& 0x7F) :: t
  | [] => []

/-- EMSA-PSS-ENCODE for a modulus of n bytes; none where the digest and the salt do not fit. -/
def pssEncode (h n : Nat) (digest salt : Bytes) : Option Bytes :=
  let hl := hashBytes h
  if n < hl + salt.length + 2 then none
  else
    let hh := hashOf h (zeros 8 ++ digest ++ salt)
    let db := zeros (n - salt.length - hl - 2) ++ [1] ++ salt
    some (clearTop (xorBytes db (mgf1 h hh (n - hl - 1))) ++ hh ++ [0xBC])

/-- EMSA-PSS-VERIFY; the salt's length is the one the message shows (log 101). -/
def pssVerify (h n : Nat) (digest em : Bytes) : Bool :=
  let hl := hashBytes h
  let masked := em.take (n - hl - 1)
  let hh := sub em (n - hl - 1) hl
  let db := clearTop (xorBytes masked (mgf1 h hh (n - hl - 1)))
  let rest := db.dropWhile (· == 0)
  hl + 2 ≤ n && em.getLast? == some 0xBC && clearTop masked == masked && rest.head? == some 1 &&
    hashOf h (zeros 8 ++ digest ++ rest.drop 1) == hh

/-- λ(n). -/
def RsaKey.lam (k : RsaKey) : Nat := Nat.lcm (k.p - 1) (k.q - 1)

/-- The private operation with a blinded base and exponent (10 R317). -/
def RsaKey.raw (k : RsaKey) (r : RandStream) (x : Nat) : Nat :=
  let b0 := r.base (bitLen k.n) % k.n
  let b := if Nat.gcd b0 k.n = 1 then b0 else 1
  powMod k.n (x * powMod k.n b k.e) (k.d + r.m * k.lam) * invMod k.n b % k.n

/-- SIGN: CHECK compares s^e mod n with the encoded message. -/
def PkeArgs.rsaSign (a : PkeArgs) : PkeOut :=
  let k := rsaKey a.key
  let w := ceilDiv (bitLen k.n) 8
  match pssEncode a.hash w (a.in_ 0) (a.rnd.salt a.salt) with
  | none => { code := 21 }
  | some em =>
    let s := k.raw a.rnd (beNat em)
    if powMod k.n s k.e = beNat em then { outs := [beBytes (a.len / 8) s] } else { code := 21 }

def PkeArgs.rsaVerify (a : PkeArgs) : PkeOut :=
  let w := a.len / 8
  let n := beNat ((a.in_ 2).take w)
  let em := powMod n (beNat ((a.in_ 1).take w)) (beNat ((a.in_ 3).take 8))
  { code := if pssVerify a.hash w (a.in_ 0) (beBytes w em) then 0 else 20 }

/-- The powers of two in a number, and the odd rest. -/
def oddPart : Nat → Nat → Nat → Nat × Nat
  | 0, s, d => (s, d)
  | n + 1, s, d => if d % 2 = 0 then oddPart n (s + 1) (d / 2) else (s, d)

/-- x, squared up to n times, reaches −1. -/
def reachesMinus (m : Nat) : Nat → Nat → Bool
  | 0, _ => false
  | n + 1, x => x == m - 1 || reachesMinus m n (x * x % m)

/-- One round of the Miller and Rabin test. -/
def probable (n b : Nat) : Bool :=
  let t := oddPart (bitLen n) 0 (n - 1)
  let x := powMod n b t.2
  x == 1 || reachesMinus n t.1 x

/-- A candidate passes 40 rounds with random bases. -/
def primeTest (r : RandStream) (j c n : Nat) : Bool :=
  (List.range 40).all (fun t => probable n (2 + r.cand j c (1 + t) (bitLen n / 8 + 8) % (n - 3)))

/-- Candidates from the c-th on, until one is accepted: the prime and how many were tried (10 R319). -/
def primeFrom (half : Nat) (r : RandStream) (j : Nat) (ok : Nat → Bool) : Nat → Nat → Option Nat × Nat
  | 0, c => (none, c)
  | n + 1, c =>
    let x := r.cand j c 0 (half / 8)
    let y := if x % 2 = 0 then x + 1 else x
    if 2 ^ (2 * half - 1) ≤ y * y ∧ ok y = true ∧ primeTest r j c y = true then (some y, c + 1) else primeFrom half r j ok n (c + 1)

/-- A new key pair (FIPS 186-5, A.1.3): n and the slot's content. -/
def PkeArgs.rsaKeygen (a : PkeArgs) : PkeOut :=
  let half := a.len / 2
  let w := a.len / 8
  let e := beNat ((a.in_ 0).take 8)
  let p := primeFrom half a.rnd 0 (fun p => Nat.gcd (p - 1) e == 1) 65535 0
  match p.1 with
  | none => { code := 23, tried := p.2 }
  | some p =>
    let dist := 2 ^ (half - 100)
    let lam := fun (q : Nat) => Nat.lcm (p - 1) (q - 1)
    let ok := fun (q : Nat) => Nat.gcd (q - 1) e == 1 && (p + dist < q || q + dist < p) && 2 ^ half < invMod (lam q) e
    let q := primeFrom half a.rnd 1 ok 65535 0
    match q.1 with
    | none => { code := 23, tried := q.2 }
    | some q1 =>
      let k : RsaKey := ⟨p * q1, e, invMod (lam q1) e, p, q1⟩
      let x := a.rnd.base a.len % k.n
      if k.d * e % k.lam = 1 ∧ powMod k.n (k.raw a.rnd x) e = x then { outs := [beBytes w k.n], secret := k.bytes w, tried := q.2 }
      else { code := 21, tried := q.2 }

/-! ### Key pairs and shared secrets on curves -/

/-- A new private key: for a NIST curve from 64 bits more than its order has (FIPS 186-5, A.2.1). -/
def newKey (alg : Nat) (r : RandStream) : Bytes :=
  if alg ≤ 6 then (let c := nistCurve alg; beBytes c.len (beNat (r.key (c.len + 8)) % (c.n - 1) + 1))
  else if alg ≤ 8 then r.key (edCurve alg).len else r.key (montCurve alg).len

/-- KEYGEN: the public key of a private key; CHECK: on the curve and not the identity. -/
def PkeArgs.publicOf (a : PkeArgs) (key secret : Bytes) : PkeOut :=
  if a.alg ≤ 6 then
    let c := nistCurve a.alg
    let q := c.mul a.rnd.z (beNat key + a.rnd.m * c.n) c.gen
    let f := c.affine q
    if !q.isZero && c.onCurve f.1 f.2 then { outs := [c.encode q], secret := secret } else { code := 21 }
  else if a.alg ≤ 8 then
    let c := edCurve a.alg
    let q := edPublic a.alg a.rnd.z a.rnd.m key
    if c.onCurve q && !c.same q edZero then { outs := [c.encode q], secret := secret } else { code := 21 }
  else
    let c := montCurve a.alg
    let u := c.mul a.rnd.z a.rnd.m (c.clamp key) c.u
    if c.onCurve u && u ≠ 0 then { outs := [leField c.len u], secret := secret } else { code := 21 }

/-- ECDH: the x-coordinate, or u, of the shared point; CHECK: on the curve, not the identity, not all zero. -/
def PkeArgs.shared (a : PkeArgs) : PkeOut :=
  if a.alg ≤ 6 then
    let c := nistCurve a.alg
    match c.decode (a.in_ 0) with
    | some q =>
      let t := c.mul a.rnd.z (beNat a.key + a.rnd.m * c.n) q
      let f := c.affine t
      if !t.isZero && c.onCurve f.1 f.2 then { secret := beBytes c.len f.1 } else { code := 21 }
    | none => { code := 21 }
  else
    let c := montCurve a.alg
    let u := c.mul a.rnd.z a.rnd.m (c.clamp a.key) (c.peer (a.in_ 0))
    if u ≠ 0 then { secret := leField c.len u } else { code := 21 }

/-! ### Validation (10 R316, Table 10.5) -/

/-- A row of Table 10.5 that the operation calls for fails. -/
def PkeArgs.rowFails (a : PkeArgs) (hasKey : Bool) (row : Nat) : Bool :=
  let c := nistCurve a.alg
  let nist := 4 ≤ a.alg && a.alg ≤ 6
  let ed := a.alg == 7 || a.alg == 8
  let w := a.len / 8
  let n := beNat ((a.in_ 2).take w)
  let range := fun (v top : Nat) => !(1 ≤ v && v < top)
  match row with
  | 1 => hasKey && ((nist && range (beNat a.key) c.n) || (ed && (edSecret a.alg a.key).1 % (edCurve a.alg).l == 0))
  | 2 => a.cmd == 2 && nist && (c.decode (a.in_ 3)).isNone
  | 3 => a.cmd == 2 && ed && ((edCurve a.alg).decode (a.in_ 3)).isNone
  | 4 => a.cmd == 2 && a.alg == 11 &&
      (let e := beNat ((a.in_ 3).take 8); !(n % 2 == 1 && bit n (a.len - 1) && e % 2 == 1 && 3 ≤ e && e < n))
  | 5 => a.cmd == 4 && (if nist then (c.decode (a.in_ 0)).isNone else (montCurve a.alg).small ((montCurve a.alg).peer (a.in_ 0)))
  | 6 => a.cmd == 2 && ed && ((edCurve a.alg).decode (a.in_ 1)).isNone
  | 7 => a.cmd == 2 && nist && (range (beNat ((a.in_ 1).take c.len)) c.n || range (beNat ((a.in_ 2).take c.len)) c.n)
  | 8 => a.cmd == 2 && ed && (edCurve a.alg).l ≤ leNat ((a.in_ 2).take (edCurve a.alg).len)
  | 9 => a.cmd == 2 && a.alg == 11 && range (beNat ((a.in_ 1).take w)) n
  | 10 => a.cmd == 4 && !nist && (montCurve a.alg).p ≤ (montCurve a.alg).peer (a.in_ 0)
  | 11 => a.cmd == 3 && a.alg == 11 && (let e := beNat ((a.in_ 0).take 8); e % 2 == 0 || e < 65537)
  | _ => false

def rowCode (r : Nat) : Nat := if r ≤ 4 then 18 else if r ≤ 6 then 19 else 17

/-- The code of the first failing row, in table order. -/
def PkeArgs.invalid (a : PkeArgs) (hasKey : Bool) : Option Nat :=
  ((List.range 12).find? (fun r => a.rowFails hasKey r)).map rowCode

/-- An operation of Table 10.1 on validated operands. -/
def PkeArgs.compute (a : PkeArgs) (hasKey : Bool) : PkeOut :=
  if a.cmd = 1 then (if a.alg ≤ 6 then a.ecdsaSign else if a.alg ≤ 8 then a.edSign else a.rsaSign)
  else if a.cmd = 2 then (if a.alg ≤ 6 then a.ecdsaVerify else if a.alg ≤ 8 then a.edVerify else a.rsaVerify)
  else if a.cmd = 3 then
    (if a.alg = 11 then a.rsaKeygen
     else if hasKey then a.publicOf a.key [] else (let k := newKey a.alg a.rnd; a.publicOf k k))
  else a.shared

/-- VALIDATE, then COMPUTE and CHECK. -/
def PkeArgs.run (a : PkeArgs) (hasKey : Bool) : PkeOut :=
  match a.invalid hasKey with
  | some c => { code := c }
  | none => a.compute hasKey

end Sys2Proof.Machine
end

