-- ==== Sys2Proof/Machine/PkeDesc.lean ====
section
/-! DEFINITION. Public-key jobs: slot roles, descriptors and blocks (10 R307 to R312), the operand memory of an engine, the phases of a
job in time (10 R315, R320), and the jobs that the Loft's own functions build. -/

namespace Sys2Proof.Machine

/-! ### Widths and roles (10 R304, R308) -/

/-- Operand width in 64-bit words (10 R304). -/
def algWords (alg len : Nat) : Nat :=
  if alg = 4 ∨ alg = 7 ∨ alg = 9 then 4 else if alg = 5 then 6 else if alg = 6 then 9 else if alg = 8 ∨ alg = 10 then 7
  else len / 64

def fieldBytes (alg : Nat) : Nat :=
  if alg = 4 then 32 else if alg = 5 then 48 else if alg = 6 then 66 else if alg = 7 ∨ alg = 9 then 32
  else if alg = 8 then 57 else 56

def isNist (alg : Nat) : Bool := alg = 4 || alg = 5 || alg = 6
def isEd (alg : Nat) : Bool := alg = 7 || alg = 8

def pubBytes (alg : Nat) : Nat := if isNist alg then 1 + 2 * fieldBytes alg else fieldBytes alg

/-- The role slots of an operation (10 Table 10.2): whether an input, and the operand's bytes; none for a combination outside Table 10.1. -/
def roleSlots (cmd alg len hash msg : Nat) (new : Bool) : Option (List (Bool × Nat)) :=
  let fb := fieldBytes alg
  let w8 := len / 8
  if cmd = 1 then
    (if isNist alg then some [(true, hashBytes hash), (false, fb), (false, fb)]
     else if isEd alg then some [(true, msg), (false, fb), (false, fb)]
     else if alg = 11 then some [(true, hashBytes hash), (false, w8)] else none)
  else if cmd = 2 then
    (if isNist alg then some [(true, hashBytes hash), (true, fb), (true, fb), (true, pubBytes alg)]
     else if isEd alg then some [(true, msg), (true, fb), (true, fb), (true, fb)]
     else if alg = 11 then some [(true, hashBytes hash), (true, w8), (true, w8), (true, 8)] else none)
  else if cmd = 3 then
    (if 4 ≤ alg ∧ alg ≤ 10 then some [(false, pubBytes alg)]
     else if alg = 11 ∧ new then some [(false, w8), (true, 8)] else none)
  else if cmd = 4 then
    (if isNist alg || alg = 9 || alg = 10 then some [(true, pubBytes alg)] else none)
  else none

def PkeJob.roles (j : PkeJob) : List (Bool × Nat) := (roleSlots j.cmd j.alg j.lenBits j.hash j.msg j.new).getD []

/-- The words a role slot must have at least: its bytes in words, rounded up to a multiple of 8. -/
def roleWords (n : Nat) : Nat := max 8 (ceilDiv (ceilDiv n 8) 8 * 8)

def workMin (cmd alg len : Nat) : Nat :=
  let w := algWords alg len
  if alg = 11 then (if cmd = 2 then 6 * w else 20 * w) else 32 * w

/-! ### Descriptors (10 R310, Table 10.3) -/

/-- Bytes 0 to 59 of a job's descriptor. -/
def PkeJob.desc (j : PkeJob) : Bytes :=
  le 1 j.cmd ++ le 1 j.alg ++ le 2 j.lenBits ++ le 1 j.keySlot ++ le 1 j.dest ++ le 1 (b2n j.new + 2 * b2n j.irq) ++ le 1 j.hash ++
    le 1 j.words.length ++ le 1 j.usage ++ le 2 j.salt ++ le 2 j.msg ++ zeros 2 ++
    (List.range 16).flatMap (fun i => le 2 (j.words.getD i 0)) ++ le 4 j.inAddr ++ le 4 j.outAddr ++ le 4 j.tagv

/-- The regions of an input block: the input slots in order, each of its slot's words (10 R309). -/
def inputRegions : List (Bool × Nat) → List Nat → Bytes → List Bytes
  | [], _, _ => []
  | (true, _) :: t, ws, b => b.take (ws.headD 0 * 8) :: inputRegions t (ws.drop 1) (b.drop (ws.headD 0 * 8))
  | (false, _) :: t, ws, b => inputRegions t (ws.drop 1) b

/-- The job of a descriptor at an address, with the input block that its IN_ADDR names. -/
def descJob (b : Bytes) (addr : Nat) (pin : Option Nat) (block : Bytes) : PkeJob :=
  let words := (List.range (num b 8 1)).map (fun i => num b (16 + 2 * i) 2)
  let j : PkeJob := {
    cls := 3, tag := .warden addr, at_ := 0, cmd := num b 0 1, alg := num b 1 1, lenBits := num b 2 2, keySlot := num b 4 1,
    dest := num b 5 1, new := bit (num b 6 1) 0, irq := bit (num b 6 1) 1, hash := num b 7 1, usage := num b 9 1, salt := num b 10 2,
    msg := num b 12 2, words := words, inAddr := num b 48 4, outAddr := num b 52 4, tagv := num b 56 4, pin := pin }
  { j with ins := inputRegions j.roles words block }

/-- DESC_INVALID (10 R311, R312). -/
def descBad (b : Bytes) : Bool :=
  let cmd := num b 0 1
  let alg := num b 1 1
  let len := num b 2 2
  let key := num b 4 1
  let dest := num b 5 1
  let new := bit (num b 6 1) 0
  let hash := num b 7 1
  let ns := num b 8 1
  let salt := num b 10 2
  let msg := num b 12 2
  let words := (List.range 16).map (fun i => num b (16 + 2 * i) 2)
  let used := words.take ns
  match roleSlots cmd alg len hash msg new with
  | none => true
  | some roles =>
    let lenOk := if alg = 11 then (if cmd = 3 then 1024 ≤ len && len ≤ 8192 && len % 128 == 0
        else 64 ≤ len && len ≤ 8192 && len % 64 == 0) else len == 0
    let slotsOk := 1 ≤ ns && ns ≤ 16 && used.all (fun x => x % 8 == 0 && 8 ≤ x && x ≤ 1024) &&
      (words.drop ns).all (· == 0) && used.foldl (· + ·) 0 ≤ 4096 && roles.length + 1 ≤ ns &&
      (roles.zip used).all (fun x => roleWords x.1.2 ≤ x.2) && workMin cmd alg len ≤ (used.drop roles.length).foldl (· + ·) 0
    let hashOk := if (cmd = 1 ∨ cmd = 2) ∧ (isNist alg ∨ alg = 11) then 1 ≤ hash && hash ≤ 3 else hash == 0
    let keyNeeded := cmd = 1 || cmd = 4 || (cmd = 3 && !new)
    let destNeeded := cmd = 4 || (cmd = 3 && new)
    let keyOk := if keyNeeded then key ≠ 0xFF else key == 0xFF
    let destOk := if destNeeded then 32 ≤ dest && dest < 0xFF else dest == 0xFF
    let newOk := if cmd = 3 then (alg ≠ 11 || new) else !new
    let saltOk := if cmd = 1 ∧ alg = 11 then salt ≤ 64 else salt == 0
    let msgOk := if (cmd = 1 ∨ cmd = 2) ∧ isEd alg then msg ≤ 8192 else msg == 0
    let resOk := num b 6 1 / 4 == 0 && num b 9 1 / 64 == 0 && num b 14 2 == 0 && num b 63 1 == 0
    let alignOk := num b 48 4 % 64 == 0 && num b 52 4 % 64 == 0
    !(lenOk && slotsOk && hashOk && keyOk && destOk && newOk && saltOk && msgOk && resOk && alignOk)

/-! ### Operand memory (10 R307 to R309) -/

/-- The first word of slot i. -/
def slotStart (words : List Nat) (i : Nat) : Nat := (words.take i).foldl (· + ·) 0

/-- Bytes written from a word on; a word takes eight bytes, the first of them its lowest (log 101). -/
def memPut (m : Tab Nat) (start : Nat) (b : Bytes) : Tab Nat :=
  ((groups 8 (ceilDiv b.length 8) b).zipIdx).foldl (fun a x =>
    let v := leNat x.1
    if v = 0 then tabDel a (start + x.2) else tabSet a (start + x.2) v) m

/-- n bytes from a word on. -/
def memBytes (m : Tab Nat) (start n : Nat) : Bytes :=
  ((List.range (ceilDiv n 8)).flatMap (fun i => le 8 (tabGet 0 m (start + i)))).take n

/-- The places of the input slots, in order. -/
def PkeJob.inPlaces (j : PkeJob) : List (Nat × Nat) :=
  (j.roles.zipIdx.filter (fun x => x.1.1)).map (fun x => (slotStart j.words x.2, x.1.2))

/-- LOAD: the input regions in their slots, the key at the start of the work area (10 R308, Table 10.4). -/
def PkeJob.memory (j : PkeJob) (key : Bytes) : Tab Nat :=
  memPut ((j.inPlaces.zip j.ins).foldl (fun m x => memPut m x.1.1 x.2) []) (slotStart j.words j.roles.length) key

/-- The operands of a job as they stand in the engine's memory. -/
def Engine.args (g : Engine) (j : PkeJob) : PkeArgs :=
  { cmd := j.cmd, alg := j.alg, len := j.lenBits, hash := j.hash, salt := j.salt,
    key := memBytes g.mem (slotStart j.words j.roles.length) g.keyLen,
    ins := j.inPlaces.map (fun x => memBytes g.mem x.1 x.2), rnd := fun i => Config.random g.seed i }

/-- What the computation of a job comes to, hardware faults apart. -/
def Engine.outcome (g : Engine) (j : PkeJob) : PkeOut := (g.args j).run (j.keySlot ≠ 0xFF)

/-- The output block: each output slot's operand, then zeros (10 R309). -/
def PkeJob.outBlock (j : PkeJob) (outs : List Bytes) : Bytes :=
  let ws := (j.roles.zipIdx.filter (fun x => !x.1.1)).map (fun x => j.words.getD x.2 0)
  (ws.zip outs).flatMap (fun x => (x.2 ++ zeros (x.1 * 8)).take (x.1 * 8))

/-! ### Phases in time (10 R315, Table 10.4, R320, Table 10.7) -/

/-- VAL_CYC of Table 10.7; an RSA length takes the row of the next listed length (log 51). -/
def valCyc (alg len : Nat) : Nat :=
  match alg with
  | 4 => 3072
  | 5 => 4096
  | 6 => 6144
  | 7 => 3072
  | 8 => 5120
  | 9 => 1024
  | 10 => 2048
  | _ => if len ≤ 2048 then 1024 else if len ≤ 4096 then 2048 else 4096

/-- The run time of Table 10.7 in microseconds, where it states one for the operation and length. -/
def runTime (cmd alg len : Nat) : Option Nat :=
  match alg, cmd with
  | 4, 1 => some 550
  | 4, 2 => some 950
  | 4, 3 => some 520
  | 4, 4 => some 500
  | 5, 1 => some 1100
  | 5, 2 => some 1900
  | 5, 3 => some 1100
  | 5, 4 => some 1050
  | 6, 1 => some 2600
  | 6, 2 => some 4500
  | 6, 3 => some 2500
  | 6, 4 => some 2400
  | 7, 1 => some 350
  | 7, 2 => some 850
  | 7, 3 => some 330
  | 8, 1 => some 1200
  | 8, 2 => some 2900
  | 8, 3 => some 1100
  | 9, 3 => some 400
  | 9, 4 => some 400
  | 10, 3 => some 1300
  | 10, 4 => some 1300
  | 11, 1 => if len = 2048 then some 4500 else if len = 4096 then some 25000 else none
  | 11, 2 => if len = 2048 then some 90 else if len = 4096 then some 330 else if len = 8192 then some 1300 else none
  | _, _ => none

/-- What the length of a phase may depend on (10 R317). -/
def PkeJob.shape (j : PkeJob) (more : List Nat) : List Nat := [j.cmd, j.alg, j.lenBits, j.msg] ++ more

def PkeJob.slotWords (j : PkeJob) : Nat := j.words.foldl (· + ·) 0
def PkeJob.outWords (j : PkeJob) : Nat := (j.outBlock (j.roles.map (fun _ => []))).length / 8

/-- Cycles of LOAD: at most one per word. -/
def PkeJob.loadLen (j : PkeJob) : Nat := Config.pkeSpan 1 (j.shape j.words) % (j.slotWords + 1)
/-- Cycles of RELEASE: at most one per word. -/
def PkeJob.relLen (j : PkeJob) : Nat := Config.pkeSpan 5 (j.shape j.words) % (j.outWords + 1)

/-- Cycles from grant to DONE of a job that ends OK: within 2 % of Table 10.7 where it gives a time, else free. -/
def PkeJob.span (j : PkeJob) (tried : Nat) : Nat :=
  let f := Config.pkeSpan 3 (j.shape (tried :: j.words))
  match runTime j.cmd j.alg j.lenBits with
  | some us => us * 588 + 1 + f % (us * 24 - 1)
  | none => f

/-- Cycles of COMPUTE and of CHECK together. -/
def PkeJob.compLen (j : PkeJob) (tried : Nat) : Nat := j.span tried - (j.loadLen + valCyc j.alg j.lenBits + j.relLen + 2048)
def PkeJob.chkLen (j : PkeJob) (n : Nat) : Nat := Config.pkeSpan 4 (j.shape j.words) % (n + 1)

/-- The cycle after VALIDATE. -/
def Engine.validated (g : Engine) (j : PkeJob) : Nat := g.grantAt + g.load + valCyc j.alg j.lenBits
/-- The first cycle of RELEASE. -/
def Engine.releaseAt (g : Engine) (j : PkeJob) : Nat := g.validated j + g.comp + g.chk
/-- The cycle in which RESULT and DONE are written: after WIPE, which follows VALIDATE, CHECK or RELEASE. -/
def Engine.doneAt (g : Engine) (j : PkeJob) : Nat :=
  let code := (g.outcome j).code
  (if code = 17 ∨ code = 18 ∨ code = 19 then g.validated j
   else if code ≠ 0 ∨ g.released = some false then g.releaseAt j else g.releaseAt j + g.rel) + 2048

/-- PKE_STAT PHASE (10 Table 10.4); an engine that is zeroed after an abort shows WIPE (10 Table 10.9). -/
def Engine.phase (g : Engine) (now : Nat) : Nat :=
  match g.job with
  | none => 0
  | some j =>
    let code := (g.outcome j).code
    if g.zeroing.isSome then 6
    else if now < g.grantAt + g.load then 1
    else if now < g.validated j then 2
    else if code = 17 ∨ code = 18 ∨ code = 19 then 6
    else if now < g.validated j + g.comp then 3
    else if now < g.releaseAt j then 4
    else if code ≠ 0 ∨ g.released = some false then 6
    else if now < g.releaseAt j + g.rel then 5 else 6

/-! ### Jobs of the Loft's own functions (10 R310) -/

/-- The slots of a hardware job: each role slot and the work area of the least size. -/
def PkeJob.sized (j : PkeJob) : PkeJob :=
  let w := workMin j.cmd j.alg j.lenBits
  { j with words := j.roles.map (fun x => roleWords x.2) ++ (if w ≤ 1024 then [w] else List.replicate (w / 1024) 1024) }

/-- SIGN on P-384 with SHA-384 under a slot. -/
def signJob (cls : Nat) (tag : JobTag) (key : Nat) (msg : Bytes) : PkeJob :=
  PkeJob.sized { cls := cls, tag := tag, at_ := 0, cmd := 1, alg := 5, hash := 2, keySlot := key, ins := [sha384 msg] }

/-- VERIFY on P-384 with SHA-384: a signature r then s, 48 bytes each, of a message under a public key. -/
def verifyJob (cls : Nat) (tag : JobTag) (msg sig pub : Bytes) : PkeJob :=
  PkeJob.sized { cls := cls, tag := tag, at_ := 0, cmd := 2, alg := 5, hash := 2,
                 ins := [sha384 msg, sub sig 0 48, sub sig 48 48, pub] }

/-- KEYGEN from the key of a slot on P-384. -/
def publicJob (tag : JobTag) (key : Nat) : PkeJob :=
  PkeJob.sized { cls := 3, tag := tag, at_ := 0, cmd := 3, alg := 5, keySlot := key }

/-- A signature r then s over a message under an encoded P-384 key verifies. -/
def p384Verifies (msg sig pub : Bytes) : Bool :=
  let a : PkeArgs := { cmd := 2, alg := 5, len := 0, hash := 2, salt := 0, key := [],
                       ins := [sha384 msg, sub sig 0 48, sub sig 48 48, pub], rnd := fun _ => 0 }
  (a.run false).code == 0

/-- Jobs that a class of the arbiter holds at most (10 R313). -/
def queueMax (cls : Nat) : Nat := if cls = 1 then 256 else if cls = 2 then 1024 else if cls = 3 then 64 else 32

end Sys2Proof.Machine
end

