-- ==== Sys2Proof/Machine/Mem.lean ====
section
/-! DEFINITION. The byte memory of a mirror slice (01 R25): cells in one canonical form. A byte that nothing has written
reads 0xFF (DESIGN CHOICE, log 6: the spec gives no content of DRAM before a fill). -/

namespace Sys2Proof.Machine

/-- What an unlisted address of a mirror slice reads as. -/
def memDefault : Byte := 0xFF

/-- Read one byte of a slice. -/
def memGet (m : List Host.Cell) (a : Nat) : Byte := tabGet memDefault m a

/-- The listed cells of bytes written from address a. -/
def memCells : Nat → Bytes → List Host.Cell
  | _, [] => []
  | a, b :: t => if b = memDefault then memCells (a + 1) t else (a, b) :: memCells (a + 1) t

/-- Write bytes from address a. -/
def memWrite (m : List Host.Cell) (a : Nat) (bs : Bytes) : List Host.Cell :=
  m.filter (fun c => c.1 < a) ++ memCells a bs ++ m.filter (fun c => a + bs.length ≤ c.1)

/-- n bytes from address a. -/
def memRead (m : List Host.Cell) (a n : Nat) : Bytes := (List.range n).map (fun i => memGet m (a + i))

/-- The canonical form: addresses strictly rising, no cell equal to what an unlisted address reads as. -/
abbrev Memory.wf (m : List Host.Cell) : Prop := m.Pairwise (fun x y => x.1 < y.1) ∧ ∀ c ∈ m, c.2 ≠ memDefault

/-- The mirror slice of a port. -/
def State.slice (s : State) (p : Nat) : List Host.Cell := tabGet [] s.mirror p

/-- The first 64-byte DRAM unit of a port's mirror slice (01 R25). -/
def sliceUnit (p : Nat) : Nat := p % 256 * 0x100000

/-- Write bytes into the mirror slice of a port; a DRAM unit written whole holds good data again. -/
def State.writeSlice (s : State) (p a : Nat) (bs : Bytes) : State :=
  let s1 := { s with mirror := tabSet s.mirror p (memWrite (s.slice p) a bs) }
  let lo := sliceUnit p + ceilDiv a 64
  let hi := sliceUnit p + (a + bs.length) / 64
  if (s.hall (hallOf p)).dramBad.isEmpty then s1
  else s1.modHall (hallOf p) (fun h => { h with dramBad := h.dramBad.filter (fun u => !(lo ≤ u && u < hi)) })

end Sys2Proof.Machine
end

