-- ==== Sys2Proof/Machine/View.lean ====
section
/-! DEFINITION. Region policies (03 R102 to R107) and the accepted view of a byte (03 R109, 04 R133). -/

namespace Sys2Proof.Machine

/-! ### Policy banks (03 Tables 3.7, 3.8) -/

def bankHdr (b : Bank) : Nat := tabGet 0 b.words 0
def bankRegion (b : Bank) (n : Nat) : Nat := tabGet 0 b.words (n + 1)
def numRegions (b : Bank) : Nat := bits (bankHdr b) 5 0
def defPolicy (b : Bank) : Nat := bits (bankHdr b) 7 6
def chipAllow (b : Bank) : Bool := bit (bankHdr b) 8
def uncAction (b : Bank) : Bool := bit (bankHdr b) 9
def logDeny (b : Bank) : Bool := bit (bankHdr b) 10
def bankTag (b : Bank) : Nat := bits (bankHdr b) 31 16
def rgStart (w : Nat) : Nat := bits w 14 0
def rgCount (w : Nat) : Nat := bits w 30 16
def rgPolicy (w : Nat) : Nat := bits w 33 32
def rgClass (w : Nat) : Nat := bits w 37 34
def rgTag (w : Nat) : Nat := bits w 63 48

def MirPort.bank (m : MirPort) (b : Bool) : Bank := if b then m.bank1 else m.bank0
def MirPort.setBank (m : MirPort) (b : Bool) (v : Bank) : MirPort := if b then { m with bank1 := v } else { m with bank0 := v }
def MirPort.len (m : MirPort) : Nat := m.enrLen * 65536

/-- The bits of header and region words that are not reserved. -/
def bankMask (entry : Nat) : Nat :=
  if entry = 0 then 0xFFFF07FF else 0xFFFF003F7FFF7FFF

/-- The region that covers 4 KiB unit u, as its word. -/
def regionOf (b : Bank) (u : Nat) : Option Nat :=
  ((List.range (numRegions b)).map (bankRegion b)).find? (fun w => rgStart w ≤ u && u < rgStart w + rgCount w)

/-- The policy of a 4 KiB unit: 0 PASS, 1 HOLD, 2 DENY, 3 SHADOW (03 Table 3.6). -/
def policyOf (b : Bank) (u : Nat) : Nat :=
  match regionOf b u with
  | some w => rgPolicy w
  | none => defPolicy b

def classOf (b : Bank) (u : Nat) : Nat :=
  match regionOf b u with
  | some w => rgClass w
  | none => 0

def tagOf (b : Bank) (u : Nat) : Nat :=
  match regionOf b u with
  | some w => rgTag w
  | none => 0

/-- The 4 KiB units that n bytes from off touch. -/
def unitsOf (off n : Nat) : List Nat :=
  (List.range ((off + n - 1) / 4096 + 1 - off / 4096)).map (· + off / 4096)

/-- The check of one region entry n (03 R104), with the one before it: a failure code of MIR_IDX_RESULT. -/
def checkRegion (b : Bank) (enr n : Nat) : Option Nat :=
  let w := bankRegion b n
  let prev := bankRegion b (n - 1)
  if n ≠ 0 ∧ rgStart w < rgStart prev then some 1
  else if n ≠ 0 ∧ rgStart w < rgStart prev + rgCount prev then some 2
  else if rgStart w + rgCount w > enr * 16 then some 3
  else if rgCount w = 0 then some 4
  else none

/-- Validation of a bank (03 R104): result code and entry number, 0 OK. -/
def validateBank (b : Bank) (enr : Nat) : Nat × Nat :=
  if numRegions b > 32 then (4, 0)
  else
    match (List.range (numRegions b)).find? (fun n => (checkRegion b enr n).isSome) with
    | some n => ((checkRegion b enr n).getD 0, n + 1)
    | none => (0, 0)

/-- The policy of a command over its units (03 R107): none when it is denied. -/
def decidePolicy (b : Bank) (units : List Nat) (enrUnits : Nat) : Option Nat :=
  let ps := units.map (policyOf b)
  if units.any (fun u => enrUnits ≤ u) || ps.any (· == 2) then none
  else if ps.any (· == 3) && ps.any (· != 3) then none
  else if ps.any (· == 1) then some 1
  else if ps.any (· == 3) then some 3
  else some 0

/-! ### Ring entries and the accepted view -/

def EKind.size : EKind → Nat
  | .program => 256
  | .erase4k => 4096
  | .erase32k => 32768
  | .erase64k => 65536

def ekCode : EKind → Nat
  | .program => 0
  | .erase4k => 1
  | .erase32k => 2
  | .erase64k => 3

def esCode : EState → Nat
  | .accepted => 1
  | .held => 2
  | .committing => 3
  | .committed => 4
  | .refused => 5
  | .partial_ => 6
  | .lost => 7

def Entry.size (e : Entry) : Nat := e.kind.size
def Entry.final (e : Entry) : Bool := esCode e.state ≥ 4
def Entry.pend (e : Entry) : Bool := esCode e.state ≤ 3
/-- The entry is in the accepted view: pending, or refused with its ATTN_DONE awaited (03 R112, 04 Table 4.5). -/
def Entry.visible (e : Entry) : Bool := e.pend || (e.state == .refused && e.inView)
def Entry.covers (e : Entry) (o : Nat) : Bool := e.off ≤ o && o < e.off + e.size
def Entry.overlaps (e : Entry) (o n : Nat) : Bool := e.off < o + n && o < e.off + e.size
def Entry.shadow (e : Entry) : Bool := e.policy == 3 && e.pend

def RingPort.entry (r : RingPort) (q : Nat) : Option Entry := r.entries.find? (fun e => e.seq == q)
def RingPort.mod (r : RingPort) (q : Nat) (f : Entry → Entry) : RingPort :=
  { r with entries := r.entries.map (fun e => if e.seq == q then f e else e) }

/-- The newest entry in the view that covers byte o (the page map of 04 R132). -/
def RingPort.newest (r : RingPort) (o : Nat) : Option Entry :=
  r.entries.foldl (fun a e => if e.visible && e.covers o then some e else a) none

/-- The byte an entry gives the view: its page buffer, or 0xFF for an erase (04 R133). -/
def Entry.byteAt (e : Entry) (o : Nat) : Byte :=
  match e.kind with
  | .program => e.buf.getD (o - e.off) 0xFF
  | _ => 0xFF

/-- The accepted view of byte o of a port (03 R109). -/
def State.viewByte (s : State) (p o : Nat) : Byte :=
  match (s.port p).ring.newest o with
  | some e => e.byteAt o
  | none => memGet (s.slice p) o

def State.viewBytes (s : State) (p o n : Nat) : Bytes := (List.range n).map (fun i => s.viewByte p (o + i))

/-- The port serves its mirror: RELEASED, or ADOPTED and switched (01 R29). -/
def Port.served (v : Port) : Bool := v.st == .released || (v.st == .adopted && v.rls.switched)

/-- DUMMY_N of a port's timing (03 R90). -/
def dummyN (sck band : Nat) : Nat :=
  ceilDiv ((if band = 0 then 420 else if band = 1 then 520 else 620) * sck) 1000 + 2

/-- The first data latency limit of R80: the highest clock of a protocol mode in MHz; none for a reserved mode code. -/
def modeLimit (m : Nat) : Option Nat :=
  if m = 0 ∨ m = 3 ∨ m = 4 ∨ m = 5 then some 104
  else if m = 6 ∨ m = 7 ∨ m = 8 then some 100
  else if m = 9 then some 50
  else none

/-- The DRAM unit of byte o of a page buffer in slot i (04 Table 4.2). -/
def bufUnit (slot o : Nat) : Nat := 0x10000000 + slot * 4 + o % 256 / 64

/-- The value of shadow register 4 (03 Table 3.3). Bit 0 is 0 in every state but RELEASED (DESIGN CHOICE, log 98: the table
names only RELEASED and ADOPTED). -/
def Port.shadow4 (v : Port) : Nat :=
  b2n (v.st == .released) + 2 * b2n v.mir.active + 4 * b2n v.link.attnLow

end Sys2Proof.Machine
end

