-- ==== Sys2Proof/Machine/Wire.lean ====
section
/-! DEFINITION. The frame on the line (02 R49 to R52): the header word of Table 2.2, the CRC, the delimiters, and the order in
which a receiver checks a frame. -/

namespace Sys2Proof.Machine

/-- The fields of a frame header (02 Table 2.2), from bit 0 up. -/
structure Header where
  vc     : BitVec 3
  type   : BitVec 5
  seq    : BitVec 8
  ackSeq : BitVec 8
  ackV   : Bool
  nak    : Bool
  resp   : Bool
  crVc   : BitVec 3
  crCnt  : BitVec 4
  len    : BitVec 9
  rsv    : BitVec 5
  tag    : BitVec 16
  deriving DecidableEq, Repr

/-- The header as its 64-bit word (02 Table 2.2). -/
def Header.word (h : Header) : BitVec 64 :=
  h.tag ++ h.rsv ++ h.len ++ h.crCnt ++ h.crVc ++ BitVec.ofBool h.resp ++ BitVec.ofBool h.nak ++ BitVec.ofBool h.ackV ++
    h.ackSeq ++ h.seq ++ h.type ++ h.vc

/-- The fields that a header word holds. -/
def Header.ofWord (w : BitVec 64) : Header where
  vc     := w.extractLsb' 0 3
  type   := w.extractLsb' 3 5
  seq    := w.extractLsb' 8 8
  ackSeq := w.extractLsb' 16 8
  ackV   := w.getLsbD 24
  nak    := w.getLsbD 25
  resp   := w.getLsbD 26
  crVc   := w.extractLsb' 27 3
  crCnt  := w.extractLsb' 30 4
  len    := w.extractLsb' 34 9
  rsv    := w.extractLsb' 43 5
  tag    := w.extractLsb' 48 16

/-- The number of a channel in a header: link control is 7. -/
def vcBits : Option Vc → BitVec 3
  | some .vc0 => 0
  | some .vc1 => 1
  | some .vc2 => 2
  | some .vc3 => 3
  | some .vc4 => 4
  | none => 7

/-- The channel that a header names; none for link control and the reserved numbers. -/
def vcOf (n : BitVec 3) : Option Vc :=
  match n.toNat with
  | 0 => some .vc0
  | 1 => some .vc1
  | 2 => some .vc2
  | 3 => some .vc3
  | 4 => some .vc4
  | _ => none

/-- The header of a frame the module sends; SEQ is 0 in link control. -/
def Frame.header (f : Frame) : Header where
  vc     := vcBits f.vc
  type   := BitVec.ofNat 5 f.type
  seq    := if f.vc.isSome then f.seq else 0
  ackSeq := f.ackSeq.getD 0
  ackV   := f.ackSeq.isSome
  nak    := f.nak
  resp   := f.resp
  crVc   := vcBits (some ((f.credit.map (·.1)).getD .vc0))
  crCnt  := BitVec.ofNat 4 ((f.credit.map (·.2)).getD 0)
  len    := BitVec.ofNat 9 f.payload.length
  rsv    := 0
  tag    := f.tag

/-- Header and payload: what the CRC covers (02 R50). -/
def Frame.body (f : Frame) : Bytes := le 8 f.header.word.toNat ++ f.payload

/-- The bytes between the delimiters: header, payload, and CRC with its least significant byte first (02 R49, R50). -/
def Frame.bytes (f : Frame) : Bytes := f.body ++ le 4 (crc32c f.body).toNat

/-- The symbols of a frame: SOF, its bytes in ascending order, EOF (02 R45, R49, Table 2.1). -/
def Frame.symbols (f : Frame) : List Symbol := .k 27 7 :: (f.bytes.map .d ++ [.k 29 7])

/-- The types a tap sends on a channel (02 Table 2.3). -/
def tapTypes (vc : BitVec 3) : List Nat :=
  match vc.toNat with
  | 0 => [0, 1]
  | 1 => [0, 1]
  | 2 => [8, 9]
  | 3 => [0, 1, 2]
  | 4 => [8, 9]
  | 7 => [0, 1, 3, 4, 5, 6, 7, 8]
  | _ => []

/-- How the receiver's checks of a frame end (02 R51). -/
inductive RxCheck where
  | crcError
  | protocolError (h : Header)
  | pass (h : Header)
  deriving DecidableEq, Repr

/-- Checks 1 to 3 of R51 in their order, on the bytes between SOF and EOF. -/
def rxCheck (raw : Bytes) : RxCheck :=
  let n := raw.length - 12
  let body := raw.take (8 + n)
  let h := Header.ofWord (BitVec.ofNat 64 (num raw 0 8))
  if raw.length < 12 ∨ num raw (8 + n) 4 ≠ (crc32c body).toNat then .crcError
  else if h.len.toNat ≠ n ∨ 256 < n then .crcError
  else if h.rsv ≠ 0 ∨ !(tapTypes h.vc).contains h.type.toNat then .protocolError h
  else .pass h

end Sys2Proof.Machine
end

