-- ==== Sys2Proof/Machine/LinkTx.lean ====
section
/-! DEFINITION. What the module sends on an Oxoth link: credits, replay buffer, channel order (02 R54 to R62), the frames of
Table 2.4, the read stream (03 R110, R119) and ATTN (02 R71). -/

namespace Sys2Proof.Machine

/-! ### Credits (02 R55) -/

def creditGet (c : Credits) : Vc → Nat
  | .vc0 => c.c0
  | .vc1 => c.c1
  | .vc2 => c.c2
  | .vc3 => c.c3
  | .vc4 => c.c4

def creditSet (c : Credits) (v : Vc) (n : Nat) : Credits :=
  match v with
  | .vc0 => { c with c0 := n }
  | .vc1 => { c with c1 := n }
  | .vc2 => { c with c2 := n }
  | .vc3 => { c with c3 := n }
  | .vc4 => { c with c4 := n }

def creditAdd (a b : Credits) : Credits := ⟨a.c0 + b.c0, a.c1 + b.c1, a.c2 + b.c2, a.c3 + b.c3, a.c4 + b.c4⟩

/-- A frame leaves the module. -/
def State.emit (s : State) (p : Nat) (f : Frame) : State := { s with out := .frame p f f.symbols :: s.out }

/-- Link control frames need no credit and go first (02 R58). -/
def State.sendLc (s : State) (p : Nat) (type : Nat) (payload : Bytes := []) : State :=
  s.emit p { vc := none, type := type, payload := payload }

/-- The LC ACK of the last accepted frame, returning n credits of channel v (02 R55, R60; log 9: at once). -/
def State.sendAck (s : State) (p : Nat) (v : Vc) (n : Nat) : State :=
  s.emit p { vc := none, type := 0, ackSeq := some ((s.port p).link.rxExp - 1), credit := if n = 0 then none else some (v, n) }

/-- NAK with ACKSEQ the last accepted SEQ; it is sent again when 4 us pass without an accepted frame (02 R59). -/
def State.sendNak (s : State) (p : Nat) : State :=
  let l := (s.port p).link
  (s.emit p { vc := none, type := 0, ackSeq := some (l.rxExp - 1), nak := true }).modLink p
    (fun x => { x with nakEnd := some (s.hnow + 3200), nakCnt := satAdd 16 x.nakCnt 1 })

/-- An ATTN that is sent opens the attention window of the reaction that waits for it (03 R119). -/
def Link.attnSent (l : Link) (f : Frame) (now : Nat) : List Attn :=
  if f.vc = some .vc3 ∧ f.type = 9 then
    l.attns.map (fun a => if a.id = f.tag then { a with win := a.react.map (fun _ => mkWin now 16000) } else a)
  else l.attns

/-- Send one sequenced frame: it takes the next SEQ, a credit of its channel, and a place in the replay buffer. -/
def State.sendSeq (s : State) (p : Nat) (v : Vc) (f : Frame) : State :=
  let l := (s.port p).link
  let g := { f with seq := l.txSeq, vc := some v }
  (s.emit p g).modLink p (fun x =>
    { x with txSeq := x.txSeq + 1, replay := x.replay ++ [g],
             replayWin := some (mkWin s.hnow 3200),
             credits := creditSet x.credits v (creditGet x.credits v - 1), attns := x.attnSent g s.hnow,
             run0 := if v = .vc0 then x.run0 + 1 else 0 })

/-! ### The read stream -/

/-- Where a byte of a stream comes from (03 R110). -/
inductive ByteSrc where
  | beyond
  | denied (tag : Nat)
  | buffer (slot : Nat)
  | erased
  | mirror
  deriving DecidableEq, Repr

def Port.src (v : Port) (bank : Bool) (o : Nat) : ByteSrc :=
  let b := v.mir.bank bank
  if v.mir.len ≤ o then .beyond
  else if policyOf b (o / 4096) = 2 then .denied (tagOf b (o / 4096))
  else match v.ring.newest o with
    | some e => if e.kind = .program then .buffer e.slot else .erased
    | none => .mirror

/-- The DRAM unit a byte's source reads, if any. -/
def srcUnit (p o : Nat) : ByteSrc → Option Nat
  | .buffer slot => some (bufUnit slot o)
  | .mirror => some (sliceUnit p + o / 64)
  | .erased => some (bufUnit 0 o)
  | _ => none

def isBuf : ByteSrc → Bool
  | .buffer _ => true
  | .erased => true
  | _ => false

/-- The cycle time of the root history entry that source bit of a page makes now; 0 when the source is masked (07 Table 7.6). -/
def State.entryTime (s : State) (page bit : Nat) : Nat := if (s.hdr page).errMask.getLsbD bit then 0 else s.cyc

/-- An ATTN of a port with its cause code waits to be sent (02 R71): its identifier is awaited in ATTN_DONE. -/
def State.queueAttn (s : State) (p cause : Nat) (seqs : List Nat := []) (react : Option Bool := none)
    (time : Nat := 0) : State :=
  s.modLink p (fun l =>
    { l with txq := l.txq ++ [{ vc := some .vc3, type := 9, tag := l.nextAttn, payload := [BitVec.ofNat 8 cause] }],
             attns := l.attns ++ [⟨l.nextAttn, cause, seqs, react, none, time⟩],
             nextAttn := l.nextAttn + 1, attnClr := none })

/-- An uncorrectable read of DRAM unit u (13 R409, 03 R121, 13 Table 13.15): counted, and UNC_RATE when a second falls
within 1 s of the first. -/
def State.drcUncorrectable (s : State) (h u area : Nat) (inj : Bool := false) (dry : Bool := false) : State :=
  let now := s.hnow
  let again : Bool := match (s.hall h).uncAt with
    | some t => now ≤ t + 799999999
    | none => false
  let s1 := s.modHall h (fun x => { x with drcUnc := satAdd 16 x.drcUnc 1, drcLast := u + area * 2 ^ 29,
                                           uncAt := if again then x.uncAt else some now })
  let s2 := s1.raiseE { page := pgDrc h, bit := 1, synd := u, inj := inj, dry := dry }
  s2.when again (fun t => t.raiseE { page := pgDrc h, bit := 2, synd := u })

/-- A corrected read: counted; at most one event per 100 ms, further ones only set the bit (13 R409). -/
def State.drcCorrected (s : State) (h : Nat) (inj : Bool := false) (dry : Bool := false) : State :=
  let now := s.hnow
  let quiet : Bool := match (s.hall h).corrAt with
    | some t => now < t + 80000000
    | none => false
  let s1 := s.modHall h (fun x => { x with drcCorr := satAdd 32 x.drcCorr 1, corrAt := if quiet then x.corrAt else some now })
  if quiet then s1.modHdr (pgDrc h) (fun d => { d with errStat := setBit32 d.errStat 0 })
  else s1.raiseE { page := pgDrc h, bit := 0, inj := inj, dry := dry }

/-- A corrected error of the read path (03 R118): counted there and by the DRAM controller page. -/
def State.corrected (s : State) (h : Nat) (inj : Bool := false) (dry : Bool := false) : State :=
  (s.modHall h (fun x => { x with corrCnt := satAdd 32 x.corrCnt 1 })).drcCorrected h inj dry

/-- Uncorrectable data in the read path (03 R119, Table 3.10): area 0 mirror slice, 1 page buffer, which the ring engine then
rebuilds (04 R155), 2 policy bank. -/
def State.uncEvent (s : State) (p area off unit : Nat) (inj : Bool) : State :=
  let h := hallOf p
  let v := s.port p
  let bk := match v.mir.stream with
    | some st => v.mir.bank st.bank
    | none => v.mir.bank v.mir.active
  let react := if area = 2 then true else uncAction bk
  let s1 := s.queueAttn p (0x10 + area) [] (some react) (s.entryTime (pgMir h) area)
  let s2 := s1.modHall h (fun x => { x with uncCnt := satAdd 16 x.uncCnt 1, lastUncPort := p % 256, lastUncArea := area,
                                            lastUncOff := off / 64 * 64 })
  let s3 := if area = 0 then s2.modMir p (fun m => { m with refill := if m.refill.contains (off / 4096) then m.refill
                                                                      else m.refill ++ [off / 4096] }) else s2
  let s4 := (s3.raiseE { page := pgMir h, bit := area, port := some p, synd := 0x10 + area, inj := inj }).drcUncorrectable h unit
    (if area = 0 then 0 else if area = 1 then 1 else 2) inj (inj && (s.hdr (pgMir h)).injDry)
  if area = 1 then s4.modRing p (fun r => { r with unc := r.unc ++ [(unit, inj)] }) else s4

/-- What one unit of a stream finds: the bytes, the first failed 64-byte flash unit, the first denied byte's tag, whether a
byte is substituted, whether the slice and a page buffer are read, and the units read that hold a symbol error. -/
structure UnitRead where
  bytes  : Bytes
  fail   : Option (Nat × Nat × Nat)
  deny   : Option Nat
  subst  : Bool
  mir    : Bool := false
  buf    : Bool := false
  weak   : List Nat := []

/-- Read n bytes of a stream from offset o (03 R110); bad and weak list the DRAM units that hold uncorrectable data and a symbol error, and
forced (an injected double error, 13 R407) makes the first byte of that area fail. -/
def readUnit (s : State) (p : Nat) (bank : Bool) (o n : Nat) (bad weak : List Nat) (forced : Option Bool) : UnitRead :=
  let v := s.port p
  let offs := (List.range n).map (· + o)
  let srcs := offs.map (fun x => (x, v.src bank x))
  let isBad := fun (x : Nat × ByteSrc) => match srcUnit p x.1 x.2 with
    | some u => bad.contains u || (match forced with
        | some b => isBuf x.2 == b
        | none => false)
    | none => false
  let fail := (srcs.find? isBad).map (fun x => (x.1, if isBuf x.2 then 1 else 0, (srcUnit p x.1 x.2).getD 0))
  let cut := match fail with
    | some f => max o (f.1 / 64 * 64)
    | none => o + n
  let byte := fun (x : Nat × ByteSrc) =>
    if cut ≤ x.1 then (0xFF : Byte)
    else match x.2 with
      | .beyond => 0xFF
      | .denied _ => 0xFF
      | .erased => 0xFF
      | _ => s.viewByte p x.1
  let live := srcs.filter (fun x => x.1 < cut)
  let deny := (live.filterMap (fun x => match x.2 with
    | .denied t => some t
    | _ => none)).head?
  { bytes := srcs.map byte, fail := fail, deny := deny,
    subst := fail.isSome || srcs.any (fun x => match x.2 with
      | .beyond => true
      | .denied _ => true
      | _ => false),
    mir := live.any (fun x => x.2 == .mirror), buf := live.any (fun x => isBuf x.2),
    weak := ((live.filterMap (fun x => srcUnit p x.1 x.2)).eraseDups).filter weak.contains }

/-- A denied read is logged once per chip select when LOG_DENY_READ is 1 (03 R102, R110). -/
def State.logDenied (s : State) (p : Nat) (st : Stream) (deny : Option Nat) : State × Bool :=
  match deny with
  | some t =>
    if logDeny ((s.port p).mir.bank st.bank) && !st.logged then
      ((s.modHall (hallOf p) (fun h => { h with denyCnt := satAdd 32 h.denyCnt 1 })).raiseE
        { page := pgMir (hallOf p), bit := 4, port := some p, synd := t }, true)
    else (s, st.logged)
  | none => (s, st.logged)

/-- Assemble the next RD_DATA of a port's open stream: 1 to 256 bytes, up to the next 256-byte boundary. -/
def State.streamFrame (s : State) (p : Nat) (st : Stream) : State :=
  let n := 256 - st.next % 256
  let h := hallOf p
  let mode0 := s.injection (pgMir h) 0 (some p)
  let mode1 := s.injection (pgMir h) 1 (some p)
  let forced := if mode0 = 2 then some false else if mode1 = 2 then some true else none
  let rd : UnitRead := if st.allFF || st.failed then { bytes := List.replicate n 0xFF, fail := none, deny := none, subst := true }
            else readUnit s p st.bank st.next n (s.hall h).dramBad (s.hall h).dramWeak forced
  let injHit := forced.isSome && rd.fail.isSome
  let oneBit := (mode0 = 1 && rd.mir) || (mode1 = 1 && rd.buf)
  let s1 := if injHit then s.disarm (pgMir h) else s
  let s1 := if oneBit then (s1.disarm (pgMir h)).corrected h true (s.hdr (pgMir h)).injDry else s1
  let s1 := each rd.weak (fun _ t => t.corrected h) s1
  let (s2, lg) := s1.logDenied p st rd.deny
  let s3 := s2.sendSeq p .vc0 { vc := some .vc0, type := 2, tag := st.cs, payload := rd.bytes }
  let s4 := s3.modMir p (fun m => { m with stream := some { st with
      next := st.next + n, subst := st.subst || rd.subst, failed := st.failed || rd.fail.isSome, logged := lg } })
  let s5 := s4.modHall h (fun x => { x with readBytes := x.readBytes + n })
  let s6 := s5.modRls p (fun r => { r with bytes := r.bytes + n })
  match rd.fail with
  | some f => s6.uncEvent p f.2.1 f.1 f.2.2 injHit
  | none => s6

/-! ### Choosing the next frame (02 R58) -/

/-- The first queued frame of a channel. -/
def Link.first (l : Link) (v : Vc) : Option Frame := l.txq.find? (fun f => f.vc == some v)

/-- The queue without the first frame of a channel. -/
def dropFirst (v : Vc) : List Frame → List Frame
  | [] => []
  | f :: t => if f.vc == some v then t else f :: dropFirst v t

def Link.ready (l : Link) (v : Vc) : Bool := creditGet l.credits v ≠ 0 && (l.first v).isSome

/-- The oldest ready frame of a channel other than VC0. -/
def Link.oldestOther (l : Link) : Option Vc :=
  (l.txq.filterMap (fun f => match f.vc with
    | some v => if v != .vc0 && creditGet l.credits v ≠ 0 then some v else none
    | none => none)).head?

/-- The channel whose frame goes next; stream says whether an open stream has data for VC0. -/
def Link.choose (l : Link) (stream : Bool) : Option Vc :=
  let zero := l.credits.c0 ≠ 0 && ((l.first .vc0).isSome || stream)
  match (if l.run0 ≥ 7 then l.oldestOther else none) with
  | some v => some v
  | none =>
    if zero then some .vc0
    else [Vc.vc4, .vc3, .vc1, .vc2].find? (fun v => l.ready v)

/-- Send frames while one is ready and the replay buffer has room (02 R58, R61). -/
def pumpLoop : Nat → Nat → State → State
  | 0, _, s => s
  | n + 1, p, s =>
    let v := s.port p
    if v.link.replay.length ≥ 16 then s
    else match v.link.choose v.mir.stream.isSome with
      | none => s
      | some c =>
        match v.link.first c with
        | some f => pumpLoop n p ((s.modLink p (fun l => { l with txq := dropFirst c l.txq })).sendSeq p c f)
        | none =>
          match v.mir.stream with
          | some st => pumpLoop n p (s.streamFrame p st)
          | none => s

/-- Frames of the channel wait without a credit (02 R57); an open stream always has its next RD_DATA to send. -/
def Port.stalled (v : Port) (c : Vc) : Bool :=
  creditGet v.link.credits c = 0 && ((v.link.first c).isSome || (c == .vc0 && v.mir.stream.isSome))

/-- The credit windows after a change of queue or credits: one opens where a channel is stalled, and a stall that ended
closes its window (02 R57). -/
def stallUpdate (v : Port) (now : Nat) (c : Vc) (t : Tab (Window × Nat)) : Tab (Window × Nat) :=
  if v.stalled c then
    (if (tabFind t (vcNum c)).isSome then t else tabSet t (vcNum c) (mkWin now 16000, 0))
  else tabDel t (vcNum c)

def allVcs : List Vc := [.vc0, .vc1, .vc2, .vc3, .vc4]

/-- Send what may be sent on a port whose link is up and paired, then keep the credit windows. -/
def State.pump (s : State) (p : Nat) : State :=
  if (s.port p).link.up then
    let s1 := pumpLoop 64 p s
    s1.modPort p (fun v => { v with link := { v.link with
      stalls := each allVcs (stallUpdate v s.hnow) v.link.stalls } })
  else s

/-- Queue a credited frame and send what may be sent. -/
def State.enqueue (s : State) (p : Nat) (f : Frame) : State :=
  (s.modLink p (fun l => { l with txq := l.txq ++ [f] })).pump p

/-- ATTN with a cause code (02 R71). -/
def State.sendAttn (s : State) (p cause : Nat) (seqs : List Nat := []) (react : Option Bool := none) : State :=
  (s.queueAttn p cause seqs react).pump p

/-- STATUS: shadow registers vals, write mask (02 Table 2.4). -/
def State.sendStatus (s : State) (p : Nat) (vals : Bytes) (mask : Nat) (cs : BitVec 16) : State :=
  s.enqueue p { vc := some .vc1, type := 8, tag := cs, payload := vals ++ zeros (8 - vals.length) ++ [BitVec.ofNat 8 mask] }

/-- STATUS that clears WIP and WEL (04 R127). -/
def State.statusClear (s : State) (p : Nat) : State := s.sendStatus p [] 1 (s.port p).link.cs

/-- STATUS that writes shadow 4 (03 R96); sh4 is the value last sent. -/
def State.statusShadow4 (s : State) (p : Nat) : State :=
  (s.modPort p (fun v => { v with link := { v.link with sh4 := v.shadow4 } })).sendStatus p
    (zeros 4 ++ [BitVec.ofNat 8 (s.port p).shadow4]) 16 (s.port p).link.cs

/-- STATUS of shadow 4 on a paired port when a field of it has changed since it was last sent (03 R96). -/
def State.syncShadow4 (s : State) (p : Nat) : State :=
  let v := s.port p
  s.when (v.link.up && v.link.pair == .paired && v.shadow4 != v.link.sh4) (fun t => t.statusShadow4 p)

/-- A VC4 frame with its own control identifier; its CTRL_ACK completes kind k (02 R56). -/
def State.sendCtl (s : State) (p type : Nat) (k : CtlKind) (payload : Bytes) : State :=
  let id := (s.port p).link.nextCtl
  let b5 := (payload.getD 5 0).toNat
  (s.modLink p (fun l => { l with
    nextCtl := l.nextCtl + 1, ctls := l.ctls ++ [(id, k)],
    locks := if type = 0 && bit b5 1 then l.locks ++ [(id, bit b5 0)] else l.locks })).enqueue p
    { vc := some .vc4, type := type, tag := id, payload := payload }

/-- The bytes of a CTRL (02 Table 2.4): lines, mask and byte 5. Modes and DUMMY_N are those of the last pairing (03 R125).
DUMMY_N of a port whose SCK_MHZ is 0 is the formula's value at 0, that is 2 (DESIGN CHOICE, log 98: the register reads 0). -/
def Port.ctrlBytes (v : Port) (lines mask b5 : Nat) : Bytes :=
  let t := v.mir.tap
  [BitVec.ofNat 8 lines, BitVec.ofNat 8 mask, BitVec.ofNat 8 t.ponMode, BitVec.ofNat 8 (dummyN t.sck t.band),
   BitVec.ofNat 8 (b2n t.pon4b), BitVec.ofNat 8 b5, BitVec.ofNat 8 v.enr.dummy]

/-- The read stream of a port ends (02 R75): RD_END is sent with its substituted flag. -/
def State.endStream (s : State) (p : Nat) : State :=
  match (s.port p).mir.stream with
  | some st =>
    (s.modMir p (fun m => { m with stream := none })).enqueue p
      { vc := some .vc0, type := 3, tag := st.cs, payload := [BitVec.ofNat 8 (b2n st.subst)] }
  | none => s

/-- CTRL that asserts RST (02 R68): the stream of the port ends in that cycle. -/
def State.ctrlReset (s : State) (p : Nat) : State :=
  if (s.port p).link.up then (s.endStream p).sendCtl p 0 .assertReset ((s.port p).ctrlBytes 1 1 (if (s.port p).upd.changed then 3 else 0)) else s

/-- A reply for the platform's next sideband read (02 Table 2.3). -/
def State.sbReply (s : State) (p : Nat) (body : Bytes) : State :=
  if (s.port p).link.up then s.enqueue p { vc := some .vc3, type := 8, payload := body } else s

end Sys2Proof.Machine
end

