-- ==== Sys2Proof/Machine/RingOps.lean ====
section
/-! DEFINITION. The ring engine (04): journal, entry states, slots, admission, decisions and the effect of port events. -/

namespace Sys2Proof.Machine

/-! ### The journal (04 R149, R150) -/

def JRec.bytes (h : Nat) (r : JRec) : Bytes :=
  let b := le 1 r.type ++ le 1 h ++ le 2 r.body.length ++ le 2 r.port ++ le 6 r.seq ++ le 4 r.no ++ le 8 r.time ++ r.body
  b ++ le 4 (crc32c b).toNat

def JRec.size (r : JRec) : Nat := 28 + r.body.length

def journalBytes (j : List JRec) : Nat := j.foldl (fun a r => a + r.size) 0

/-- The journal area of a hall: a share of the barn's 64 GiB (DESIGN CHOICE, log 10: a quarter each). -/
def journalArea : Nat := 0x400000000

/-- A record may not be reclaimed: a CHECKPOINT with a non-final entry of its port at or above its SEQ, or the ACCEPT
record of a non-final entry (04 R150). -/
def State.recNeeded (s : State) (r : JRec) : Bool :=
  (r.type == 5 && (s.port r.port).ring.entries.any (fun e => r.seq ≤ e.seq && !e.final)) ||
  (r.type == 1 && (s.port r.port).ring.entries.any (fun e => e.seq == r.seq && !e.final))

/-- Reclaim the oldest records up to the first that is needed, while the area is over its size. -/
def State.reclaim (s : State) (h : Nat) : State :=
  let j := (s.hall h).journal
  if journalBytes j ≤ journalArea then s
  else
    let gone := j.takeWhile (fun r => !s.recNeeded r)
    let s1 := s.modHall h (fun x => { x with journal := x.journal.dropWhile (fun r => !s.recNeeded r) })
    each (gone.filter (fun r => r.type == 1))
      (fun r t => t.modRing r.port (fun g => g.mod r.seq (fun e => { e with jlost := true }))) s1

/-- Place a record in the Loft's journal buffer, durable from then on (04 R149). -/
def State.journal (s : State) (type port seq : Nat) (body : Bytes) (h : Nat) : State :=
  (s.modHall h (fun x => { x with journal := x.journal ++ [⟨type, x.recNo, port, seq, s.cyc, body⟩],
                                  recNo := (x.recNo + 1) % 2 ^ 32 })).reclaim h

/-- Room for n more ACCEPT records, once the records before the oldest needed one are reclaimed. -/
def State.journalRoom (s : State) (h n : Nat) : Bool :=
  journalBytes (s.hall h).journal + n * 296 ≤ journalArea ||
  journalBytes ((s.hall h).journal.dropWhile (fun r => !s.recNeeded r)) + n * 296 ≤ journalArea

/-- The lowest non-final sequence number, the next number when every entry is final (04 Table 4.15). -/
def RingPort.low (r : RingPort) : Nat :=
  match r.entries.find? (fun e => !e.final) with
  | some e => e.seq
  | none => r.next

/-- CHECKPOINT of a port (04 Table 4.11). -/
def State.checkpoint (s : State) (p : Nat) : State :=
  let r := (s.port p).ring
  s.journal 5 p r.low (le 6 r.next ++ le 6 r.commitT ++ le 6 r.refuseT ++ le 6 r.partialT ++ le 6 r.lostT ++
    le 1 (b2n r.notice)) (hallOf p)

/-! ### Slots (04 R134) -/

def RingPort.held (r : RingPort) : Nat := (r.entries.filter (fun e => e.holds)).length
def RingPort.sharedUse (r : RingPort) : Nat := r.held - 4096

/-- FREE_SHARED of a hall. -/
def State.freeShared (s : State) (h : Nat) : Nat :=
  15728639 - (s.portsOf h).foldl (fun a p => a + (s.port p).ring.sharedUse) 0

/-- A slot number that no entry of the hall holds, from the last one given upwards (DESIGN CHOICE, log 11). -/
def freeSlot (used : List Nat) : Nat → Nat → Nat
  | 0, n => n
  | k + 1, n => if used.contains n then freeSlot used k (n % 16777215 + 1) else n

def State.usedSlots (s : State) (h : Nat) : List Nat :=
  (s.portsOf h).flatMap (fun p => ((s.port p).ring.entries.filter (fun e => e.holds)).map (fun e => e.slot))

/-! ### Entry states (04 R139) -/

/-- The platform of the port is held in reset (04 R148). -/
def Port.inReset (v : Port) : Bool := v.st != .released && v.st != .adopted

/-- Count a final state in the totals of CHECKPOINT and the hall's anomaly counters. -/
def State.countFinal (s : State) (p : Nat) (new : EState) : State :=
  let h := hallOf p
  match new with
  | .committed => s.modRing p (fun r => { r with commitT := r.commitT + 1 })
  | .refused => s.modRing p (fun r => { r with refuseT := r.refuseT + 1 })
  | .partial_ => ((s.modRing p (fun r => { r with partialT := r.partialT + 1 })).modHall h
      (fun x => { x with partialN := satAdd 16 x.partialN 1 })).raiseP (pgRng h) 2 p
  | .lost => ((s.modRing p (fun r => { r with lostT := r.lostT + 1 })).modHall h
      (fun x => { x with lostN := satAdd 16 x.lostN 1 })).raiseP (pgRng h) 3 p
  | _ => s

/-- The exception log keeps REFUSED, PARTIAL and LOST records in 1 GiB; when full the oldest is dropped and counted for
its port (04 R150). -/
def State.logException (s : State) (p q : Nat) : State :=
  let s1 := { s with excLog := s.excLog ++ [(p, q)] }
  if s1.excLog.length ≤ 33554432 then s1
  else match s1.excLog with
    | e :: t => ({ s1 with excLog := t }).modRing e.1 (fun r => { r with dropped := r.dropped + 1 })
    | [] => s1

/-- Move entry q of a port to a state with a cause (04 Table 4.6): a STATE record is written; a final entry is counted,
frees its slot unless its refusal waits for ATTN_DONE, and arms R148 while the platform is in reset. -/
def State.entryTo (s : State) (p q : Nat) (new : EState) (cause : Nat) (keep : Bool := false) (decider : Nat := 0)
    (session : Nat := 0xFF) : State :=
  match (s.port p).ring.entry q with
  | none => s
  | some e0 =>
    let fin := esCode new ≥ 4
    let qh := new == .held && cause == 4
    let decides := 1 ≤ cause && cause ≤ 3
    let now := s.hnow
    let tmo := (tabGet ({} : AuthClass) (s.hall (hallOf p)).classes e0.cls).timeout
    let s1 := s.modRing p (fun r => r.mod q (fun e =>
      { e with state := new, cause := cause, qheld := qh,
               holds := !fin || keep, inView := !fin || keep,
               readback := new == .committing && e.readback,
               win := if new == .held && !qh then some (mkWin now (tmo * 800000000)) else none,
               finTime := if fin then s.cyc else e.finTime,
               decider := if decides then decider else e.decider, session := if decides then session else e.session }))
    let s2 := s1.journal 2 p q (le 1 (esCode e0.state) ++ le 1 (esCode new) ++ le 1 cause ++ le 1 (b2n qh)) (hallOf p)
    let s3 := s2.countFinal p new
    let bad := new == .refused || new == .partial_ || new == .lost
    let s4 := s3.when bad (fun t => t.logException p q)
    s4.when (bad && (s4.port p).inReset) (fun t => t.modRing p (fun r => { r with notice := true }))

/-- Move every entry of a list of sequence numbers. -/
def State.entriesTo (s : State) (p : Nat) (qs : List Nat) (new : EState) (cause : Nat) (keep : Bool := false) : State :=
  each qs (fun q t => t.entryTo p q new cause keep) s

def RingPort.seqs (r : RingPort) (f : Entry → Bool) : List Nat := (r.entries.filter f).map (fun e => e.seq)

/-- The overlays of refused entries leave the view and their slots are freed (03 R112, 04 R147). -/
def State.dropOverlay (s : State) (p : Nat) (qs : List Nat) : State :=
  s.modRing p (fun r => { r with entries := r.entries.map (fun e =>
    if qs.contains e.seq && e.state == .refused then { e with inView := false, holds := false } else e) })

/-! ### Chains and decisions (04 R130, R145 to R147) -/

/-- Chain predecessors of an entry: earlier HELD entries of its port that cover a page it covers. -/
def RingPort.preds (r : RingPort) (e : Entry) : List Entry :=
  r.entries.filter (fun x => x.seq < e.seq && x.state == .held && x.overlaps (e.off / 256 * 256) e.size)

/-- The HELD entries chained, directly or through others, to an entry of the list; entries are in sequence order. -/
def chainClose (r : RingPort) : List Entry → List Nat → List Nat
  | [], acc => acc
  | e :: t, acc =>
    if e.state == .held && e.chained && !acc.contains e.seq && (r.preds e).any (fun x => acc.contains x.seq)
    then chainClose r t (acc ++ [e.seq]) else chainClose r t acc

/-- Refuse HELD entries and their chains while the platform runs or not (04 R145 to R147): one ATTN 0x20 reports them
when the port serves; otherwise no overlay waits (04 Table 4.5). -/
def State.refuseHeld (s : State) (p : Nat) (qs : List Nat) (cause decider session : Nat) : State :=
  let r := (s.port p).ring
  let all := chainClose r r.entries qs
  let served := (s.port p).served
  let s1 := each all (fun q t => t.entryTo p q .refused (if qs.contains q then cause else 3) served decider session) s
  if served && !all.isEmpty then s1.sendAttn p 0x20 all else s1

/-- The check of a decision (04 Table 4.7): decider 0 warden, 2 Owner, 3 Operator, 4 Service. -/
def State.checkDecision (s : State) (p : Nat) (allow : Bool) (first count decider : Nat) : Nat :=
  let v := s.port p
  let inR := fun (e : Entry) => first ≤ e.seq && e.seq < first + count
  let es := v.ring.entries.filter inR
  let strong := decider = 2 || decider = 4
  let q := v.st == .quarantined || es.any (fun e => e.qheld && e.state == .held)
  let bitNo := if decider = 0 then 0 else if decider = 2 then 1 else 2
  if count = 0 || first = 0 || first + count - 1 ≥ v.ring.next then 1
  else if q && !strong then 2
  else if !q && es.any (fun e => e.state == .held &&
      (decider = 4 || !bit (tabGet ({} : AuthClass) (s.hall (hallOf p)).classes e.cls).auth bitNo)) then 3
  else if allow && es.any (fun e => e.state == .held && e.chained && (v.ring.preds e).any (fun x => !inR x)) then 4
  else 0

/-- DECIDE record (04 Table 4.11). -/
def State.decideRec (s : State) (p first last : Nat) (dec decider session result : Nat) : State :=
  s.journal 3 p first (le 1 dec ++ le 1 decider ++ le 1 session ++ le 1 result ++ le 6 last) (hallOf p)

/-- The earliest deadline of the HELD windows of a port. -/
def RingPort.nextExpiry (r : RingPort) : Option Nat :=
  (r.entries.filterMap (fun e => if e.state == .held then e.win.map (·.dl) else none)).min?

/-- The windows whose deadline is cycle d expire in the cycle after it and form one refusal (04 R146). -/
def State.expireAt (s : State) (p d : Nat) : State :=
  let s1 := s.toHall (d + 1)
  let qs := (s1.port p).ring.seqs (fun e => e.state == .held && e.win.map (·.dl) == some d)
  let s2 := s1.when (!qs.isEmpty) (fun t => t.raiseP (pgRng (hallOf p)) 1 p)
  (s2.decideRec p (qs.headD 0) (qs.getLastD 0) 2 1 0xFF 0).refuseHeld p qs 2 1 0xFF

/-- The refusals of the n earliest deadlines that have passed (00 R7: a decision that comes later finds them made). -/
def overdueLoop : Nat → Nat → State → State
  | 0, _, s => s
  | n + 1, p, s => match (s.port p).ring.nextExpiry with
    | some d => if d < s.hnow then overdueLoop n p (s.expireAt p d) else s
    | none => s

/-- Apply a decision in one hall cycle, to the entries as they stand in it (04 R145). -/
def State.applyDecision (s : State) (p : Nat) (allow : Bool) (first count decider session : Nat) : State × Nat × Nat :=
  let res := s.checkDecision p allow first count decider
  let s1 := s.decideRec p first (first + count - 1) (if allow then 1 else 2) decider session res
  if res ≠ 0 then (s1, res, 0)
  else
    let qs := (s.port p).ring.seqs (fun e => e.state == .held && first ≤ e.seq && e.seq < first + count)
    if allow then (each qs (fun q t => t.entryTo p q .accepted 1 false decider session) s1, 0, qs.length)
    else
      let r := (s.port p).ring
      (s1.refuseHeld p qs 1 decider session, 0, (chainClose r r.entries qs).length)

/-- A decision (04 R145, R146): windows that have passed expire first; the result code and the number of entries changed. -/
def State.decide (s : State) (p : Nat) (allow : Bool) (first count decider session : Nat) : State × Nat × Nat :=
  (overdueLoop (s.port p).ring.entries.length p s).applyDecision p allow first count decider session

/-! ### Admission (04 R127 to R136) -/

/-- The kind an erase opcode asks for; none for a chip erase (03 Table 3.1). -/
def eraseKind (op : Nat) : Option EKind :=
  if op = 0x20 ∨ op = 0x21 then some .erase4k
  else if op = 0x52 ∨ op = 0x5C then some .erase32k
  else if op = 0xD8 ∨ op = 0xDC then some .erase64k
  else none

def Enrol.hasErase (e : Enrol) : EKind → Bool
  | .program => true
  | .erase4k => bit e.erases 0
  | .erase32k => bit e.erases 1
  | .erase64k => bit e.erases 2

def isChip (c : WrCmd) : Bool := c.cls.toNat == 7 && (eraseKind c.opcode.toNat).isNone

/-- The range a command addresses (04 R128): base and length. -/
def cmdRange (v : Port) (c : WrCmd) : Nat × Nat :=
  if c.cls.toNat = 6 then (c.addr.toNat / 256 * 256, 256)
  else match eraseKind c.opcode.toNat with
    | some k => (c.addr.toNat / k.size * k.size, k.size)
    | none => (0, v.mir.len)

/-- The AUTH_CLASS of the newest HELD entry that n bytes from off overlap, which a CHAINED command takes (04 R130). -/
def RingPort.chainClass (r : RingPort) (off n : Nat) : Option Nat :=
  ((r.entries.filter (fun e => e.state == .held && e.overlaps off n)).getLast?).map (·.cls)

/-- The policy a command is admitted with and the class of a CHAINED one (03 R107, 04 R130); none when it is denied. -/
def admitPolicy (v : Port) (b : Bank) (c : WrCmd) : Option (Nat × Option Nat) :=
  let r := cmdRange v c
  if isChip c && !chipAllow b then none
  else match decidePolicy b (unitsOf r.1 r.2) (v.mir.enrLen * 16) with
    | none => none
    | some pol =>
      if v.ring.entries.any (fun e => e.shadow && e.overlaps r.1 r.2) then some (3, none)
      else match v.ring.chainClass r.1 r.2 with
        | some c => some (1, some c)
        | none => some (pol, none)

/-- Rows 2 to 8 of Table 4.1 for a command: 2, 4, 5 ignored; 6, 7, 8 denied; 9 admitted. Row 3 is decided at arrival. -/
def admitRow (v : Port) (b : Bank) (w : WrPend) : Nat :=
  let c := w.cmd
  if !v.served then 2
  else if !c.wel then 4
  else if c.overlong || c.partialByte || (c.cls.toNat = 6 && w.data.isEmpty) then 5
  else if !isChip c && !(match eraseKind c.opcode.toNat with
      | some k => c.cls.toNat = 6 || v.enr.hasErase k
      | none => true) then 6
  else match admitPolicy v b c with
    | none => 7
    | some (pol, _) =>
      if pol = 3 && (v.ring.entries.filter (fun e => e.shadow)).length + (if isChip c then v.mir.enrLen else 1) > 4096 then 8
      else 9

/-- Place data bytes in a page from an address onwards, wrapping; the last byte on a position counts (04 R128). -/
def placeData (addr : Nat) (data : Bytes) : Bytes :=
  (data.zipIdx).foldl (fun pg x => pg.set ((addr + x.2) % 256) x.1) (List.replicate 256 0xFF)

/-- Slots a command needs. -/
def slotsOf (v : Port) (c : WrCmd) : Nat := if isChip c then v.mir.enrLen else 1

/-- An older port of the hall waits for shared slots (04 R136). Of two that arrived in one cycle neither is older, so the one whose
command comes first here goes first (DESIGN CHOICE, log 98). -/
def State.olderWaits (s : State) (p arrival : Nat) : Bool :=
  (s.portsOf (hallOf p)).any (fun q => q ≠ p && (match (s.port q).ring.waiting with
    | some w =>
      let n := (s.port q).ring.held + slotsOf (s.port q) w.cmd
      (match w.decided with
        | some d => d.1 != 3
        | none => false) && w.arrival < arrival && 4096 < n && n ≤ (s.port q).ring.quota
    | none => false))

/-- Slots can be given to a port: within its quota, from its reserve first, then the shared pool; SHADOW entries from
the reserve only (04 R134, R136). -/
def State.slotsFor (s : State) (p n pol arrival : Nat) : Bool :=
  let r := (s.port p).ring
  let need := (r.held + n - 4096) - r.sharedUse
  r.held + n ≤ r.quota &&
  (if pol = 3 then r.held + n ≤ 4096
   else need = 0 || (need ≤ s.freeShared (hallOf p) && !s.olderWaits p arrival))

/-- Create one entry of an admitted command and its ACCEPT record (04 R128 to R133, R149); chain is the class that a CHAINED
command takes. An entry without a HOLD unit, as some of a HOLD chip erase are, takes AUTH_CLASS 0 (DESIGN CHOICE, log 98). -/
def State.makeEntry (s : State) (p : Nat) (b : Bank) (kind : EKind) (off pol : Nat) (chain : Option Nat) (chip : Bool)
    (placed : Bytes) : State :=
  let v := s.port p
  let h := hallOf p
  let q := v.ring.next
  let units := unitsOf off kind.size
  let holdUnit := units.find? (fun u => policyOf b u = 1)
  let chained := chain.isSome
  let cls := match chain, holdUnit with
    | some c, _ => c
    | none, some u => classOf b u
    | none, none => 0
  let tag := tagOf b (off / 4096)
  let buf := if kind = .program then ((s.viewBytes p off 256).zip placed).map (fun x => x.1 &&& x.2) else []
  let heldSt := pol = 1
  let tmo := (tabGet ({} : AuthClass) (s.hall h).classes cls).timeout
  let used := s.usedSlots h
  let slot := freeSlot used (used.length + 1) (s.hall h).nextSlot
  let e : Entry :=
    { seq := q, state := if heldSt then .held else .accepted, kind := kind, policy := pol, cls := cls,
      chained := chained, off := off, regTag := tag, bankTag := bankTag b, accTime := s.cyc, slot := slot,
      chip := chip, buf := buf, placed := placed,
      win := if heldSt then some (mkWin s.hnow (tmo * 800000000)) else none }
  let s1 := s.modRing p (fun r => { r with next := r.next + 1, entries := r.entries ++ [e] })
  let s2 := s1.modHall h (fun x => { x with nextSlot := slot % 16777215 + 1 })
  s2.journal 1 p q (le 1 (ekCode kind) ++ le 1 pol ++ le 1 cls ++ le 1 (b2n chained + 2 * b2n heldSt) ++ le 4 off ++
    le 2 tag ++ le 2 (bankTag b) ++ placed) h

/-- Admit a command (04 R128): its entries are made, and a STATUS clears WIP and WEL. -/
def State.admitCmd (s : State) (p : Nat) (b : Bank) (w : WrPend) (pol : Nat) (chain : Option Nat) : State :=
  let v := s.port p
  let r := cmdRange v w.cmd
  let s1 :=
    if w.cmd.cls.toNat = 6 then s.makeEntry p b .program r.1 pol chain false (placeData w.cmd.addr.toNat w.data)
    else match eraseKind w.cmd.opcode.toNat with
      | some k => s.makeEntry p b k r.1 pol chain false []
      | none => each (List.range v.mir.enrLen) (fun n t => t.makeEntry p b .erase64k (n * 65536) pol chain true []) s
  (s1.modRing p (fun g => { g with waiting := none })).statusClear p

/-- Row 9 (04 R135, R136): admitted when slots and journal space are there, else the command waits with its decision. -/
def State.admitOrWait (s : State) (p : Nat) (b : Bank) (w : WrPend) (pol : Nat) (chain : Option Nat) : State :=
  let n := slotsOf (s.port p) w.cmd
  let h := hallOf p
  let okSlots := s.slotsFor p n pol w.arrival
  let okJ := s.journalRoom h n
  if okSlots && okJ then s.admitCmd p b w pol chain
  else
    let s1 := s.modRing p (fun r => { r with waiting := some { w with decided := some (pol, chain) } })
    let g := (s.port p).ring
    let s2 := s1.when (!okSlots && pol != 3 && g.held + n ≤ g.quota) (fun t => t.raiseP (pgRng h) 4 p)
    s2.when (!okJ) (fun t => t.raiseP (pgRng h) 5 p)

/-- An ignored or denied command (04 R127): counted, and a STATUS clears WIP and WEL. -/
def State.turnAway (s : State) (p row : Nat) : State :=
  let h := hallOf p
  let s0 := s.modRing p (fun g => { g with waiting := none })
  let s1 := if row ≤ 5 then s0.modHall h (fun x => { x with ignored := satAdd 32 x.ignored 1 })
    else (s0.modHall h (fun x => { x with denied := satAdd 32 x.denied 1 })).raiseP (pgRng h) 0 p
  s1.statusClear p

/-- Row 1 of Table 4.1 holds. -/
def State.admissionStopped (s : State) (h : Nat) : Bool := s.modState == .shutter || !(s.hall h).admitEn

/-- Decide a complete PROGRAM or ERASE by Table 4.1 (04 R127), with the bank bound to it. -/
def State.admission (s : State) (p : Nat) (w : WrPend) : State :=
  let v := s.port p
  let h := hallOf p
  if v.ring.waiting.isSome then s.modHall h (fun x => { x with ignored := satAdd 32 x.ignored 1 })
  else if v.ring.shut then s.turnAway p 2
  else if s.admissionStopped h then s.modRing p (fun r => { r with waiting := some w })
  else
    let b := v.mir.bank w.bank
    let row := admitRow v b w
    if row < 9 then s.turnAway p row
    else match admitPolicy v b w.cmd with
      | some (pol, ch) => s.admitOrWait p b w pol ch
      | none => s

/-- The command in a port's admission slot is decided or admitted when what it waited for has come (04 R135). -/
def State.resume (s : State) (p : Nat) : State :=
  let v := s.port p
  match v.ring.waiting with
  | none => s
  | some w =>
    match w.decided with
    | some d =>
      if s.slotsFor p (slotsOf v w.cmd) d.1 w.arrival && s.journalRoom (hallOf p) (slotsOf v w.cmd)
      then s.admitCmd p (v.mir.bank w.bank) w d.1 d.2 else s
    | none =>
      if s.admissionStopped (hallOf p) then s
      else
        let b := v.mir.bank v.mir.active
        let w1 := { w with bank := v.mir.active }
        let row := admitRow v b w1
        if row < 9 then s.turnAway p row
        else match admitPolicy v b w.cmd with
          | some (pol, ch) => s.admitOrWait p b w1 pol ch
          | none => s

/-! ### Port events and pending entries (04 R156, Table 4.14) -/

/-- A waiting command is ignored at every port event but SHUTTER. -/
def State.dropWaiting (s : State) (p : Nat) : State :=
  if (s.port p).ring.waiting.isSome then s.turnAway p 2 else s

/-- SHADOW entries are discarded (03 R113). -/
def State.discardShadow (s : State) (p : Nat) (cause : Nat := 6) : State :=
  s.entriesTo p ((s.port p).ring.seqs (fun e => e.shadow)) .refused cause

/-- Platform reset, port to HELD. -/
def State.ringReset (s : State) (p : Nat) : State :=
  let s1 := (s.dropWaiting p).discardShadow p
  s1.when ((s1.port p).link.attns.any (fun a => a.cause == 0x20 || a.cause == 0x21))
    (fun t => t.modRing p (fun r => { r with notice := true }))

/-- Quarantine of any cause: ACCEPTED entries become HELD with QHELD, HELD stay with their windows stopped. -/
def State.ringQuarantine (s : State) (p : Nat) (discard : Bool) : State :=
  let s1 := (s.dropWaiting p).discardShadow p
  let acc := (s1.port p).ring.seqs (fun e => e.state == .accepted)
  let held := (s1.port p).ring.seqs (fun e => e.state == .held)
  if discard then (s1.entriesTo p acc .refused 4).entriesTo p held .refused 4
  else
    (s1.entriesTo p acc .held 4).modRing p (fun r => { r with entries := r.entries.map (fun e =>
      if e.state == .held then { e with win := none } else e) })

/-- Release of a quarantine (04 R146): QHELD entries return to ACCEPTED, stopped windows reopen in full. -/
def State.ringRelease (s : State) (p : Nat) : State :=
  let qs := (s.port p).ring.seqs (fun e => e.state == .held && e.qheld)
  let s1 := s.entriesTo p qs .accepted 4
  let now := s1.hnow
  let cl := (s1.hall (hallOf p)).classes
  s1.modRing p (fun r => { r with entries := r.entries.map (fun e =>
    if e.state == .held then { e with win := some (mkWin now ((tabGet ({} : AuthClass) cl e.cls).timeout * 800000000)) }
    else e) })

/-- A gleaner read that is lost with its link is made again (05 R178: the cycle's cursor is kept). -/
def VcJob.lostRead (j : VcJob) : Option Reread := match j.kind with
  | .glean l c f w => some { leaf := l, conf := c, failed := f, win := w }
  | _ => none

/-- Link down (03 R112, R113, 04 R152): COMMITTING entries await read-back, overlays of refused entries leave, a discarded SHADOW entry
arms R148, and the windows that a quarantine had stopped run again in full (Table 4.14; a QHELD entry has none, R146). -/
def State.ringLinkDown (s : State) (p : Nat) : State :=
  let s0 := s.modRing p (fun r => { r with waiting := none, shut := false })
  let s0 := s0.when ((s.port p).ring.waiting.isSome)
    (fun t => t.modHall (hallOf p) (fun x => { x with ignored := satAdd 32 x.ignored 1 }))
  let shadows := (s.port p).ring.entries.any (fun e => e.shadow)
  let s1 := s0.discardShadow p
  let s1 := s1.modGln p (fun g => { g with rereads := g.rereads ++ (s.port p).ring.jobs.filterMap VcJob.lostRead })
  let s2 := s1.modRing p (fun r => { r with
    entries := r.entries.map (fun e =>
      if e.state == .committing then { e with readback := true }
      else if e.state == .held && !e.qheld && e.win.isNone then
        { e with win := some (mkWin s.hnow ((tabGet ({} : AuthClass) (s.hall (hallOf p)).classes e.cls).timeout * 800000000)) }
      else if e.state == .refused then { e with inView := false, holds := false } else e),
    jobs := [], notice := r.notice || shadows || (s.port p).link.attns.any (fun a => a.cause == 0x20 || a.cause == 0x21) })
  each ((s2.port p).ring.seqs (fun e => e.readback && e.state == .committing))
    (fun q t => t.journal 2 p q (le 1 3 ++ le 1 3 ++ le 1 0 ++ le 1 2) (hallOf p)) s2

/-- Retirement (04 Table 4.14): ACCEPTED and HELD entries are refused, READBACK_PENDING ones end PARTIAL; the others that are
COMMITTING complete first. -/
def State.ringRetire (s : State) (p : Nat) : State :=
  let s1 := (s.dropWaiting p).discardShadow p
  let acc := (s1.port p).ring.seqs (fun e => e.state == .accepted)
  let held := (s1.port p).ring.seqs (fun e => e.state == .held)
  let rb := (s1.port p).ring.seqs (fun e => e.state == .committing && e.readback)
  ((s1.entriesTo p acc .refused 5).entriesTo p held .refused 5).entriesTo p rb .partial_ 5

/-- Departure (04 Table 4.14): HELD and SHADOW entries are refused under one ATTN 0x20. -/
def State.ringDepart (s : State) (p : Nat) : State :=
  let s1 := (s.dropWaiting p).modRing p (fun r => { r with shut := true })
  let qs := (s1.port p).ring.seqs (fun e => e.state == .held || e.shadow)
  let served := (s1.port p).served
  let s2 := s1.entriesTo p qs .refused 7 served
  if served && !qs.isEmpty then s2.sendAttn p 0x20 qs else s2

/-- An entry refused at adoption (06 R201): out of the view at once; its slot is held until the ATTN_DONE (04 Table 4.5). -/
def State.adoptRefuse (s : State) (p q : Nat) : State :=
  (s.entryTo p q .refused 7 true).modRing p (fun r => r.mod q (fun e => { e with inView := false }))

/-- Entries restored at adoption (06 R201): ACCEPTED and HELD are refused with cause DEPARTED. -/
def State.ringAdopt (s : State) (p : Nat) : State :=
  let qs := (s.port p).ring.seqs (fun e => e.state == .held || e.state == .accepted)
  each qs (fun q t => t.adoptRefuse p q) s

/-- Operations of a commit that has begun are still to be sent: no later FL_OP of a commit goes between them (04 R140, R141). -/
def RingPort.series (r : RingPort) : Bool := r.jobs.any (fun j => !j.todo.isEmpty && (match j.kind with
  | .commit _ => true
  | _ => false))

def RingPort.readbackPending (r : RingPort) : Bool := r.entries.any (fun e => e.readback && e.state == .committing)

end Sys2Proof.Machine
end

