-- ==== Sys2Proof/Machine/TreeOps.lean ====
section
/-! DEFINITION. Digest trees and the root ledger (05 R160 to R168, R173, R174). -/

namespace Sys2Proof.Machine

/-! ### Digests (05 R161) -/

def leafDigest (i : Nat) (content : Bytes) : Bytes := sha384 (0x00 :: le 4 i ++ content)

def nodeDigest (k j : Nat) (kids : List Bytes) : Bytes :=
  sha384 (0x01 :: le 1 k ++ le 4 j ++ kids.flatten ++ zeros (48 * (16 - kids.length)))

/-- The nodes of level k from the nodes of the level below. -/
def levelUp (k : Nat) (below : List Bytes) : List Bytes :=
  (groups 16 (ceilDiv below.length 16) below).zipIdx.map (fun x => nodeDigest k x.2 x.1)

/-- The levels above the leaves, to the first that has one node (05 R160). -/
def levelsAbove : Nat → Nat → List Bytes → List (List Bytes)
  | 0, _, _ => []
  | f + 1, k, below => if below.length ≤ 1 then [] else levelUp k below :: levelsAbove f (k + 1) (levelUp k below)

def topNode (leaves : List Bytes) : Bytes :=
  match (levelsAbove 5 1 leaves).getLast? with
  | some l => l.headD []
  | none => leaves.headD []

/-- The tree root over the leaves (05 R161). -/
def treeRoot (leaves : List Bytes) : Bytes := sha384 (0x02 :: le 4 leaves.length ++ topNode leaves)

/-- The digest a leaf table holds for leaves 0 to n - 1. -/
def leafList (t : Tab Bytes) (n : Nat) : List Bytes := (List.range n).map (fun i => tabGet (zeros 48) t i)

/-- The leaf digest of 4,096 bytes of 0xFF (05 R165). -/
def erasedLeaf (i : Nat) : Bytes := leafDigest i (List.replicate 4096 0xFF)

def Port.leafCount (v : Port) : Nat := v.mir.enrLen * 16

/-- The stored nodes, keyed by level and index (05 R162). -/
def nodeTab (leaves : List Bytes) : Tab Bytes :=
  (levelsAbove 5 1 leaves).zipIdx.flatMap (fun l => l.1.zipIdx.map (fun x => ((l.2 + 1) * 65536 + x.2, x.1)))

/-! ### Tree storage in hall DRAM (05 R162, Table 5.1) -/

/-- The base of the tree of local port l. -/
def treeBase (l : Nat) : Nat := 0x500000000 + l * 0x100000

/-- The hall DRAM address of node j of level k of local port l, 48 bytes long; level 5 stands for the tree root. -/
def treeAddr (l k j : Nat) : Nat :=
  treeBase l + (if k = 0 then 0 else if k = 1 then 0xC0000 else if k = 2 then 0xCC000 else if k = 3 then 0xCCC00
    else if k = 4 then 0xCCCC0 else 0xCCCF0) + 48 * j

/-- The 64-byte DRAM units that hold a node. -/
def treeUnits (l k j : Nat) : List Nat :=
  (List.range ((treeAddr l k j + 47) / 64 + 1 - treeAddr l k j / 64)).map (· + treeAddr l k j / 64)

/-- The units of a leaf, its path and the root. -/
def pathUnits (l i : Nat) : List Nat := [0, 1, 2, 3, 4].flatMap (fun k => treeUnits l k (i / 16 ^ k)) ++ treeUnits l 5 0

/-- A unit lies in the tree region of local port l. -/
def inTree (l u : Nat) : Bool := treeBase l / 64 ≤ u && u < treeBase (l + 1) / 64

/-- The stored digest of leaf i of a port cannot be read. -/
def State.digestBad (s : State) (p i : Nat) : Bool :=
  (s.hall (hallOf p)).dramBad.any (fun u => (treeUnits (p % 256) 0 i).contains u)

/-- Units of a hall's DRAM that are written anew hold good data. -/
def State.unitsWritten (s : State) (h : Nat) (f : Nat → Bool) : State :=
  if (s.hall h).dramBad.isEmpty then s
  else s.modHall h (fun x => { x with dramBad := x.dramBad.filter (fun u => !f u) })

/-! ### The root ledger (05 R164 to R168) -/

def ledgerHdr (type hall port no : Nat) (body : Bytes) : Bytes :=
  le 1 type ++ le 1 hall ++ le 2 body.length ++ le 2 port ++ le 2 0 ++ le 8 no

def ledgerMac (key : Bytes) (type hall port no : Nat) (body : Bytes) : Bytes :=
  (hmacSha384 key (ledgerHdr type hall port no body ++ body)).take 16

/-- A use is admitted: the granary admits the next one in a later Loft cycle (09 R285). -/
def State.useAdmitted (s : State) : State :=
  { s with gran := { s.gran with nextUse := max s.lnow s.gran.nextUse + 1 } }

/-- USES after one more use; the count has 32 bits (09 R284). -/
def nextUses (n : Nat) : Nat := (n + 1) % 2 ^ 32

/-- A use of a key slot by the Loft's own functions that passes its checks is counted (09 R285). -/
def State.countUse (s : State) (k : Nat) : State :=
  let t := s.useAdmitted
  { t with gran := { t.gran with slots := t.gran.slots.map (fun e => if e.1 = k then (k, { e.2 with uses := nextUses e.2.uses }) else e) } }

def ledgerArea : Nat := 0x200000000

def LRec.size (r : LRec) : Nat := 32 + r.body.length

def ledgerBytes (l : List LRec) : Nat := l.foldl (fun a r => a + r.size) 0

/-- The records of a port since its last RETIRE (05 R168). -/
def State.ledgerOf (s : State) (p : Nat) : List LRec :=
  (s.ledger.filter (fun r => r.port == p)).foldl (fun a r => if r.type = 0x28 then [] else a ++ [r]) []

/-- The latest ENROL or ACTIVATE record in force. -/
def State.enrolRec (s : State) (p : Nat) : Option LRec :=
  ((s.ledgerOf p).filter (fun r => r.type == 0x21 || r.type == 0x22)).getLast?

def State.healStarts (s : State) (p : Nat) : List LRec :=
  (s.ledgerOf p).foldl (fun a r =>
    if r.type = 0x26 then a ++ [r]
    else if r.type = 0x27 then a.filter (fun x => num x.body 0 2 ≠ num r.body 0 2) else a) []

/-- A ledger record is still needed (05 R167). -/
def State.ledgerNeeded (s : State) (r : LRec) : Bool :=
  let mine := s.ledgerOf r.port
  let copyNo := match (mine.filter (fun x => x.type == 0x25)).getLast? with
    | some c => c.no
    | none => 0
  (match s.enrolRec r.port with
    | some e => e.no == r.no
    | none => r.type == 0x28) ||
  (mine.any (fun x => x.no == r.no) && copyNo ≤ r.no && (r.type == 0x23 || r.type == 0x24 || r.type == 0x25)) ||
  (s.healStarts r.port).any (fun x => x.no == r.no)

/-- The largest ledger record: an INTENT of 16 leaves with a post-commit digest (05 Table 5.2). -/
def ledgerMax : Nat := 1024

/-- Room for a further commit or heal: space, or records that are no longer needed. -/
def State.ledgerRoom (s : State) : Bool :=
  ledgerBytes s.ledger + ledgerMax ≤ ledgerArea || ledgerBytes (s.ledger.filter s.ledgerNeeded) + ledgerMax ≤ ledgerArea

/-- The oldest records that are not needed leave until n bytes are free. -/
def ledgerTrim (needed : LRec → Bool) : Nat → List LRec → List LRec
  | _, [] => []
  | n, r :: t => if n = 0 then r :: t else if needed r then r :: ledgerTrim needed n t else ledgerTrim needed (n - r.size) t

/-- Ledger space is reclaimed oldest first (05 R167). -/
def State.ledgerReclaim (s : State) : State :=
  if ledgerBytes s.ledger ≤ ledgerArea then s
  else { s with ledger := ledgerTrim s.ledgerNeeded (ledgerBytes s.ledger - ledgerArea) s.ledger }

/-- Place a ledger record in the journal buffer (05 R164): its MAC is a use of LEDGER (09 R281, R285). -/
def State.ledgerPut (s : State) (type p : Nat) (body : Bytes) : State :=
  let s1 : State := { s with
    ledger := s.ledger ++ [⟨type, s.ledgerNo, hallOf p, p, body, ledgerMac s.ledgerKey type (hallOf p) p s.ledgerNo body⟩],
    ledgerNo := s.ledgerNo + 1 }
  s1.ledgerReclaim.countUse 2

/-- ENROL or ACTIVATE body (05 Table 5.2). -/
def enrolBody (v : Port) (asFound : Bool) : Bytes :=
  le 2 v.leafCount ++ le 2 v.tree.span ++ le 8 v.tree.imageId ++ le 8 v.tree.version ++ v.tree.manRoot ++ v.tree.kept ++
    le 1 v.tree.spanState ++ le 1 (b2n asFound)

/-- INTENT of entry q (05 R165): pre-commit digests on the committed state with earlier COMMITTING entries applied, and
for a program the post-commit digest. -/
def State.commitByte (s : State) (p q o : Nat) : Byte :=
  match ((s.port p).ring.entries.filter (fun e => e.state == .committing && e.seq < q && e.covers o)).getLast? with
  | some e => e.byteAt o
  | none => memGet (s.slice p) o

def State.preLeaf (s : State) (p q i : Nat) : Bytes :=
  leafDigest i ((List.range 4096).map (fun k => s.commitByte p q (i * 4096 + k)))

def State.postLeaf (s : State) (p : Nat) (e : Entry) (i : Nat) : Bytes :=
  leafDigest i ((List.range 4096).map (fun k =>
    let o := i * 4096 + k
    if e.covers o then e.byteAt o else s.commitByte p e.seq o))

def State.intent (s : State) (p : Nat) (e : Entry) : State :=
  let ls := unitsOf e.off e.size
  let pre := ls.map (fun i => s.preLeaf p e.seq i)
  let post := if e.kind = .program then ls.map (fun i => s.postLeaf p e i) else []
  let s1 := s.ledgerPut 0x23 p (le 6 e.seq ++ le 1 (ekCode e.kind) ++ le 1 ls.length ++ le 2 (e.off / 4096) ++
    pre.flatten ++ post.flatten)
  let s2 := s1.modHall (hallOf p) (fun h => { h with hshCommit := satAdd 32 h.hshCommit ls.length })
  s2.modRing p (fun r => r.mod e.seq (fun x => { x with intent := true }))

/-- The INTENT record of an entry. -/
def State.intentOf (s : State) (p q : Nat) : Option LRec :=
  ((s.ledgerOf p).filter (fun r => r.type == 0x23 && num r.body 0 6 == q)).getLast?

def intentPre (r : LRec) (i : Nat) : Bytes := sub r.body (10 + 48 * (i - num r.body 8 2)) 48
def intentPost (r : LRec) (i : Nat) : Bytes :=
  if num r.body 6 1 = 0 then sub r.body (10 + 48 * num r.body 7 1) 48 else erasedLeaf i
def intentLeaves (r : LRec) : List Nat := (List.range (num r.body 7 1)).map (· + num r.body 8 2)

/-- The expected leaves of a port (05 R171): its current tree copy with every later ROOT record applied. -/
def State.expectedLeaves (s : State) (p : Nat) : Tab Bytes :=
  let mine := s.ledgerOf p
  match (mine.filter (fun r => r.type == 0x25)).getLast? with
  | none => []
  | some c =>
    let base := (tabGet {} s.copies (p * 2 + num c.body 0 1)).leaves
    let last := num c.body 1 6
    (mine.filter (fun r => r.type == 0x24 && last < num r.body 0 6)).foldl (fun t r =>
      match s.intentOf p (num r.body 0 6) with
      | some n => (intentLeaves n).foldl (fun u i => tabSet u i (intentPost n i)) t
      | none => t) base

/-- KEPT_ROOT and SPAN_STATE by the last ROOT, ENROL or ACTIVATE record. -/
def State.ledgerKept (s : State) (p : Nat) : Bytes × Nat :=
  (s.ledgerOf p).foldl (fun a r =>
    if r.type = 0x24 then (sub r.body 6 48, num r.body 54 1)
    else if r.type = 0x21 ∨ r.type = 0x22 then (sub r.body 68 48, num r.body 116 1) else a) ([], 0)

/-- Every record of a port has its MAC. -/
def State.macsGood (s : State) (p : Nat) : Bool :=
  (s.ledgerOf p).all (fun r => r.mac == ledgerMac s.ledgerKey r.type r.hall r.port r.no r.body)

/-- The last ROOT record of a port in force; 0 when it has none. -/
def State.lastRoot (s : State) (p : Nat) : Nat :=
  ((s.ledgerOf p).filter (fun r => r.type == 0x24)).foldl (fun a r => max a (num r.body 0 6)) 0

/-- A write of the port's tree to the slot that is not current (05 R166); one that is still under way there is written over. -/
def State.writeCopy (s : State) (p : Nat) : State :=
  let t := (s.port p).tree
  let slot := 1 - t.copySlot % 2
  let c : TreeCopy := { leaves := t.leaves, nodes := t.nodes, root := t.root, last := s.lastRoot p }
  let s1 := { s with copies := tabSet s.copies (p * 2 + slot) c,
                     barnQ := s.barnQ.filter (· != BarnWrite.treeCopy p slot) ++ [BarnWrite.treeCopy p slot] }
  s1.modTree p (fun x => { x with rootCnt := 0 })

/-- A copy became durable: its TREE_COPY record names what the copy holds, and the slot is current from then on. -/
def State.copyDurable (s : State) (p slot : Nat) : State :=
  let c := tabGet {} s.copies (p * 2 + slot)
  (s.ledgerPut 0x25 p (le 1 slot ++ le 6 c.last ++ c.root)).modTree p (fun t => { t with copySlot := slot })

/-- Store new leaf digests and recompute the path and the root (05 R174). -/
def State.storeLeaves (s : State) (p : Nat) (ls : List (Nat × Bytes)) : State :=
  (s.modPort p (fun v =>
    let lv := ls.foldl (fun t x => tabSet t x.1 x.2) v.tree.leaves
    let l := leafList lv v.leafCount
    { v with tree := { v.tree with leaves := lv, nodes := nodeTab l, root := treeRoot l } })).unitsWritten (hallOf p)
      (fun u => ls.any (fun x => (pathUnits (p % 256) x.1).contains u))

/-- A new KEPT_ROOT of a tied port is reported to the Loft (07 R231). -/
def State.reportRoot (s : State) (p : Nat) : State :=
  let v := s.port p
  if v.tie.isSome then
    s.modHall (hallOf p) (fun h => { h with outq := h.outq ++
      [.change ⟨p, v.st, v.st, true, 0, true, none, 0, false⟩] })
  else s

/-- The content of an entry over its range: its page buffer, or 0xFF. -/
def Entry.content (e : Entry) : Bytes :=
  match e.kind with
  | .program => e.buf
  | _ => List.replicate e.size 0xFF

/-- An entry's bytes move to the slice, the Post digests and the root are stored, and a ROOT record is placed, all in the
cycle in which it becomes COMMITTED (03 R113, 04 R142, 05 R163, R165, R174). -/
def State.commitEntry (s : State) (p q cause : Nat) : State :=
  match (s.port p).ring.entry q with
  | none => s
  | some e =>
    let ls := unitsOf e.off e.size
    let s1 := s.writeSlice p e.off e.content
    let digs := match s.intentOf p q with
      | some r => if r.body.length ≥ 10 + 48 * ls.length then ls.map (fun i => (i, if e.kind = .program then intentPost r i else erasedLeaf i))
                  else ls.map (fun i => (i, leafDigest i (memRead (s1.slice p) (i * 4096) 4096)))
      | none => ls.map (fun i => (i, leafDigest i (memRead (s1.slice p) (i * 4096) 4096)))
    let s2 := if (s1.port p).tree.resident then s1
      else s1.modTree p (fun t => { t with leaves := s1.expectedLeaves p })
    let s3 := s2.storeLeaves p digs
    let s4 := s3.modTree p (fun t => { t with
      kept := t.root, rootCnt := t.rootCnt + 1,
      spanState := if t.spanState = 1 && ls.any (· < t.span) then 2 else t.spanState })
    let v := s4.port p
    let s5 := s4.ledgerPut 0x24 p (le 6 q ++ v.tree.kept ++ le 1 v.tree.spanState)
    let s6 := s5.entryTo p q .committed cause
    let s7 := s6.modRing p (fun r => { r with
      commits := tabSet r.commits (e.off / 65536) (satAdd 32 (tabGet 0 r.commits (e.off / 65536)) 1) })
    let s9 := s7.reportRoot p
    s9.when ((s9.port p).tree.rootCnt ≥ 4096) (fun t => t.writeCopy p)

end Sys2Proof.Machine
end

