-- ==== Sys2Proof/Machine/HallDram.lean ====
section
/-! DEFINITION. Hall DRAM as the spec lays it out (01 Table 1.2): the address of every ring structure (04 R131, Table 4.2), the
words that the ring store holds (04 R132), and which structure lies in a 64-byte unit. The entries of a port are held once, in
State; the records, maps and descriptors here are the view of them that the hall's DRAM gives. -/

namespace Sys2Proof.Machine

/-! ### Addresses (04 Table 4.2) -/

def bufAddr (i : Nat) : Nat := 0x400000000 + i * 256
def recAddr (i : Nat) : Nat := 0x540000000 + i * 32
def mapAddr (l r p : Nat) : Nat := 0x560000000 + ((l * 1024 + r) * 256 + p) * 4
def descAddr (l r : Nat) : Nat := 0x570000000 + (l * 1024 + r) * 16

/-! ### Records (04 Tables 4.3, 4.4) -/

/-- The ring of a flash offset (00 R4). -/
def ringOf (off : Nat) : Nat := off / 65536

/-- The slot of the next entry after sequence number q that holds a slot and satisfies f; 0 at the end. -/
def RingPort.nextSlotOf (r : RingPort) (q : Nat) (f : Entry → Bool) : Nat :=
  match r.entries.find? (fun e => q < e.seq && e.holds && f e) with
  | some e => e.slot
  | none => 0

/-- The 32-byte entry record (04 Table 4.3). -/
def Entry.record (e : Entry) (p : Nat) (r : RingPort) : Bytes :=
  le 8 (e.seq % 2 ^ 48 + esCode e.state * 2 ^ 48 + ekCode e.kind * 2 ^ 51 + e.policy % 4 * 2 ^ 53 + e.cls % 16 * 2 ^ 55 +
    b2n e.chained * 2 ^ 59 + b2n e.qheld * 2 ^ 60 + b2n (e.readback && e.state == .committing) * 2 ^ 61) ++
  le 4 (e.off % 2 ^ 26) ++ le 1 (p % 256) ++ le 1 e.cause ++ le 2 e.regTag ++ le 4 (r.nextSlotOf e.seq (fun _ => true)) ++
  le 4 (r.nextSlotOf e.seq (fun x => ringOf x.off == ringOf e.off)) ++ le 8 e.accTime

/-- The pending entries of ring n of a port, oldest first. -/
def RingPort.pendingOf (r : RingPort) (n : Nat) : List Entry := r.entries.filter (fun e => e.pend && ringOf e.off == n)

/-- The 16-byte descriptor of ring n (04 Table 4.4). -/
def Port.ringDesc (v : Port) (n : Nat) : Bytes :=
  let es := v.ring.pendingOf n
  le 4 ((es.head?.map (·.slot)).getD 0) ++ le 4 ((es.getLast?.map (·.slot)).getD 0) ++
  le 4 (es.length + b2n (n < v.mir.enrLen) * 2 ^ 19 + b2n (es.any (fun e => e.state == .held)) * 2 ^ 20 +
    b2n (es.any (fun e => e.shadow)) * 2 ^ 21) ++ le 4 (tabGet 0 v.ring.commits n)

/-- The page map entry of page k of ring n (04 Table 4.4): the newest entry of the view on the page. -/
def RingPort.mapWord (r : RingPort) (n k : Nat) : Nat :=
  match r.newest (n * 65536 + k * 256) with
  | some e => (if e.kind = .program then e.slot else 0) + 2 ^ 24
  | none => 0

/-! ### The bytes of hall DRAM -/

/-- The entry of a hall that holds slot i, with its port. -/
def State.slotEntry (s : State) (h i : Nat) : Option (Nat × Entry) :=
  (s.portsOf h).findSome? (fun p => ((s.port p).ring.entries.find? (fun e => e.holds && e.slot == i)).map (fun e => (p, e)))

/-- A byte of the page buffer of slot i: slot 0 holds 0xFF; none where no entry has written the buffer. -/
def State.bufByte (s : State) (h i o : Nat) : Option Byte :=
  if i = 0 then some 0xFF
  else match s.slotEntry h i with
    | some (_, e) => if e.kind = .program then some (e.buf.getD o 0xFF) else none
    | none => none

/-- A byte of the record of slot i; a free record has STATE 0 and no other content that the spec gives. -/
def State.recByte (s : State) (h i o : Nat) : Option Byte := match s.slotEntry h i with
  | some (p, e) => (e.record p (s.port p).ring)[o]?
  | none => if o = 6 then some 0 else none

/-- A byte of the tree region of local port l (05 Table 5.1). -/
def Port.treeByte (v : Port) (l o : Nat) : Option Byte :=
  let a := treeBase l + o
  [0, 1, 2, 3, 4, 5].findSome? (fun k =>
    let j := (a - treeAddr l k 0) / 48
    if treeAddr l k 0 ≤ a then
      (if k = 5 then (if j = 0 then v.tree.root[(a - treeAddr l k j)]? else none)
       else if k = 0 then (tabFind v.tree.leaves j).bind (fun d => d[(a - treeAddr l k j)]?)
       else (tabFind v.tree.nodes (k * 65536 + j)).bind (fun d => d[(a - treeAddr l k j)]?))
    else none)

/-- The byte of hall h's DRAM at an address (01 R24, R25; 04 R131, R132; 05 R162); none where the spec gives no content. -/
def State.dramByte (s : State) (h a : Nat) : Option Byte :=
  if a < 0x400000000 then some (memGet (s.slice (256 * h + a / 0x4000000)) (a % 0x4000000))
  else if a < 0x500000000 then s.bufByte h ((a - 0x400000000) / 256) (a % 256)
  else if a < 0x510000000 then
    (s.port (256 * h + (a - 0x500000000) / 0x100000)).treeByte ((a - 0x500000000) / 0x100000) (a % 0x100000)
  else if a < 0x540000000 then none
  else if a < 0x560000000 then s.recByte h ((a - 0x540000000) / 32) (a % 32)
  else if a < 0x570000000 then
    let k := (a - 0x560000000) / 4
    (le 4 ((s.port (256 * h + k / 262144)).ring.mapWord (k / 256 % 1024) (k % 256)))[a % 4]?
  else if a < 0x570400000 then
    let k := (a - 0x570000000) / 16
    ((s.port (256 * h + k / 1024)).ringDesc (k % 1024))[a % 16]?
  else none

/-! ### Uncorrectable ring structures (04 R155) -/

/-- The ring structures of one 64-byte unit: the buffer of a slot, two records, 16 page map entries, or four descriptors. -/
inductive RingPart where
  | buffer (slot : Nat)
  | records (slot : Nat)
  | pages (l r p : Nat)
  | descs (l r : Nat)
  deriving DecidableEq, Repr

def ringPart (u : Nat) : Option RingPart :=
  if 0x10000000 ≤ u ∧ u < 0x14000000 then some (.buffer ((u - 0x10000000) / 4))
  else if 0x15000000 ≤ u ∧ u < 0x15800000 then some (.records (2 * (u - 0x15000000)))
  else if 0x15800000 ≤ u ∧ u < 0x15C00000 then
    let k := 16 * (u - 0x15800000)
    some (.pages (k / 262144) (k / 256 % 1024) (k % 256))
  else if 0x15C00000 ≤ u ∧ u < 0x15C10000 then
    let k := 4 * (u - 0x15C00000)
    some (.descs (k / 1024) (k % 1024))
  else none

/-- A pending entry of local port l has its content, its record, or a page or ring it lies in, in the structure. -/
def Entry.inPart (e : Entry) (l : Nat) : RingPart → Bool
  | .buffer i => e.holds && e.slot == i
  | .records i => e.holds && (e.slot == i || e.slot == i + 1)
  | .pages m r p => l == m && e.overlaps (r * 65536 + p * 256) 4096
  | .descs m r => l == m && r ≤ ringOf e.off && ringOf e.off < r + 4

/-- The pending entries of a hall that a structure belongs to, with their ports. -/
def State.partEntries (s : State) (h : Nat) (x : RingPart) : List (Nat × Entry) :=
  (s.portsOf h).flatMap (fun p =>
    ((s.port p).ring.entries.filter (fun e => e.pend && e.inPart (p % 256) x)).map (fun e => (p, e)))

/-- The port a structure belongs to: by its address, or that of the entry in its slot. -/
def State.partPort (s : State) (h : Nat) (x : RingPart) : Option Nat := match x with
  | .pages l _ _ => some (256 * h + l)
  | .descs l _ => some (256 * h + l)
  | _ => ((s.partEntries h x).head?).map (·.1)

/-- The ACCEPT record of entry q of a port can be read. -/
def State.acceptRead (s : State) (p q : Nat) : Bool :=
  (s.hall (hallOf p)).journal.any (fun r => r.type == 1 && r.port == p && r.seq == q && !(s.hall (hallOf p)).jBad.contains r.no)

/-- Nor can the ACCEPT records of the entries that a structure belongs to be read from now on. -/
def State.acceptLost (s : State) (h : Nat) (x : RingPart) : State :=
  let es := s.partEntries h x
  let lost := (s.hall h).journal.filter (fun r => r.type == 1 && es.any (fun e => e.1 == r.port && e.2.seq == r.seq))
  s.modHall h (fun y => { y with jBad := y.jBad ++ (lost.map (·.no)).filter (fun n => !y.jBad.contains n) })

/-- Ring structures found uncorrectable are rebuilt from the ACCEPT records of the pending entries, and ERR_STAT [6] is set. -/
def State.rebuildRing (s : State) (h u : Nat) (port : Option Nat) (inj : Bool := false) : State :=
  (s.modHall h (fun x => { x with dramBad := x.dramBad.filter (· ≠ u) })).raiseE
    { page := pgRng h, bit := 6, port := port, synd := u, inj := inj }

end Sys2Proof.Machine
end

