-- ==== Sys2Proof/Machine/PortOps.lean ====
section
/-! DEFINITION. Physical flash operations on VC2 (02 R77, 04 R141), the changes of port state (01 R40, 06 R198, 13 R394) and
their scheduling into gaps (07 R228 to R231). -/

namespace Sys2Proof.Machine

/-! ### FL_OP (02 Table 2.4) -/

/-- The bytes of an FL_OP: the poll opcode is 0x05 and the poll bit is bit 0, busy when set (PRESUMED, log 12). -/
def flBytes (v : Port) (r : FlReq) : Bytes :=
  let rd := r.inCnt ≠ 0
  le 1 r.opcode ++ le 1 v.enr.mode ++ le 1 v.enr.addrBytes ++ le 1 (if rd then v.enr.dummy else 0) ++ le 4 r.addr ++
    le 2 r.out.length ++ le 2 r.inCnt ++ le 1 (b2n r.poll + 2 * b2n r.wren + 4 * b2n (v.enr.mode == 9)) ++
    le 1 (if r.poll then 0x05 else 0) ++ le 1 (if r.poll then 0x80 else 0) ++ le 1 v.enr.clock ++ le 2 r.limit

/-- Send an FL_OP and its FL_DATA_OUT frames. -/
def State.sendFl (s : State) (p : Nat) (op : BitVec 16) (r : FlReq) : State :=
  let s1 := s.enqueue p { vc := some .vc2, type := 0, tag := op, payload := flBytes (s.port p) r }
  if r.out.isEmpty then s1
  else s1.enqueue p { vc := some .vc2, type := 1, tag := op, payload := r.out }

/-- New FL_OPs may be sent on a port: its link is up, the module is not in SHUTTER and its hall runs (06 Table 6.3,
13 Table 13.11). -/
def State.flAllowed (s : State) (p : Nat) : Bool :=
  (s.port p).link.up && s.modState != .shutter && (s.hall (hallOf p)).phase == .run

/-- Commits run in this port state (04 R140). -/
def Port.commitState (v : Port) : Bool := v.st == .held || v.served

/-- An ADOPTED port before its switch: only FL_OP reads are sent to it (06 R200). -/
def Port.readsOnly (v : Port) : Bool := v.st == .adopted && !v.rls.switched

/-- A job of this kind writes the flash for a commit or a heal, so it needs ledger space (05 R167). -/
def JobKind.ledgered : JobKind → Bool
  | .commit _ => true
  | .healWrite => true
  | _ => false

/-- The port state and COMMIT_EN let an operation of this kind be sent (04 R140, R152; 06 R200). A commit that has begun completes on a
port that is being retired (04 Table 4.14). -/
def State.kindAllowed (s : State) (p : Nat) (k : JobKind) : Bool :=
  let v := s.port p
  let en := (s.hall (hallOf p)).commitEn
  match k with
  | .commit _ => en && (v.commitState || v.rls.retiring)
  | .reissue _ => en && !v.readsOnly
  | .healWrite => en && !v.readsOnly
  | .healCheck _ => en
  | .copyWrite => en && !v.readsOnly
  | .copyCheck _ => en
  | .readback _ _ => v.st == .held || v.st == .adopted
  | _ => true

/-- A new FL_OP of a job of this kind may be sent on the port. -/
def State.opAllowed (s : State) (p : Nat) (k : JobKind) : Bool :=
  s.flAllowed p && s.kindAllowed p k && (!k.ledgered || s.ledgerRoom)

/-- Put a job in its place with a new FL_OP identifier, in place of the job of identifier old if one is given: its operation is sent, or
waits until it may be (04 R140, 06 R211); one that waits for ledger space raises LEDGER_WAIT (05 R167). -/
def State.placeJob (s : State) (p : Nat) (old : Option (BitVec 16)) (j : VcJob) : State :=
  let op := (s.port p).link.nextOp
  let ok := s.opAllowed p j.kind
  let j1 := { j with op := op, paused := !ok }
  let s1 := s.modLink p (fun l => { l with nextOp := l.nextOp + 1 })
  let s2 := s1.modRing p (fun g => { g with jobs := match old with
    | none => g.jobs ++ [j1]
    | some o => g.jobs.map (fun x => if x.op == o then j1 else x) })
  if ok then s2.sendFl p op j.req
  else s2.when (s.flAllowed p && s.kindAllowed p j.kind) (fun t => t.raiseP (pgGln (hallOf p)) 10 p)

/-- Start a VC2 job with its first operation (02 R56: the receive buffers are reserved with it). -/
def State.startJob (s : State) (p : Nat) (kind : JobKind) (reqs : List FlReq) (retry : Bool := false) : State :=
  match reqs with
  | [] => s
  | r :: t => s.placeJob p none { kind := kind, op := 0, req := r, todo := t, retry := retry, start := s.hnow }

/-- The operation of a job that waited is sent once it may be. -/
def State.resumeJob (s : State) (p : Nat) (j : VcJob) : State :=
  if j.paused && s.opAllowed p j.kind then
    (s.modRing p (fun g => { g with jobs := g.jobs.map (fun x => if x.op == j.op then { x with paused := false } else x) })).sendFl
      p j.op j.req
  else s

/-- A hash lane of the hall may be allocated: enabled and not FAULTED (05 R185). -/
def State.laneFree (s : State) (h : Nat) : Bool :=
  ((s.hall h).laneEn % 256 &&& (255 - (s.hall h).laneFail % 256)) != 0

def readReqs (v : Port) (off n : Nat) : List FlReq :=
  (List.range (ceilDiv n 4096)).map (fun i =>
    { opcode := v.enr.readOp, addr := off + i * 4096, inCnt := min 4096 (n - i * 4096) })

def progLimit (v : Port) : Nat := max 1 (min 65535 (ceilDiv v.enr.maxProg 1000))
def eraseLimit (v : Port) : Nat := max 1 (min 65535 v.enr.maxErase)

/-- Programs of the physical page size (04 R141). -/
def progReqs (v : Port) (off : Nat) (data : Bytes) : List FlReq :=
  let k := max 1 (min 256 v.enr.pageSize)
  (groups k (ceilDiv data.length k) data).zipIdx.map (fun x =>
    { opcode := v.enr.progOp, addr := off + x.2 * k, out := x.1, wren := true, poll := true, limit := progLimit v })

def eraseOp (v : Port) : EKind → Nat
  | .erase4k => v.enr.erase4
  | .erase32k => v.enr.erase32
  | _ => v.enr.erase64

def eraseReq (v : Port) (k : EKind) (off : Nat) : FlReq :=
  { opcode := eraseOp v k, addr := off, wren := true, poll := true, limit := eraseLimit v }

/-- The largest enrolled erase size up to a size (04 R141). -/
def largestErase (v : Port) : EKind :=
  if bit v.enr.erases 2 then .erase64k else if bit v.enr.erases 1 then .erase32k else .erase4k

/-- The smallest enrolled erase size (05 R182). -/
def smallestErase (v : Port) : EKind :=
  if bit v.enr.erases 0 then .erase4k else if bit v.enr.erases 1 then .erase32k else .erase64k

/-- The operations that commit an entry (04 R141). -/
def commitReqs (v : Port) (e : Entry) : List FlReq :=
  match e.kind with
  | .program => progReqs v e.off e.buf
  | k =>
    if v.enr.hasErase k then [eraseReq v k e.off]
    else
      let l := largestErase v
      (List.range (e.size / l.size)).map (fun i => eraseReq v l (e.off + i * l.size))

/-! ### Changes of port state -/

/-- The place of a transport's document or idle window in the table of a hall: both can be open (07 R224, R225). -/
def gapKey (t : Nat) (idle : Bool) : Nat := if idle then 256 + t else t

/-- The windows of a transport that a hall holds open. -/
def Hall.gapsOf (x : Hall) (t : Nat) : List HallGap := [false, true].filterMap (fun i => tabFind x.gaps (gapKey t i))

/-- The window of a transport whose notice came last. -/
def Hall.lastGap (x : Hall) (t : Nat) : Option HallGap :=
  (x.gapsOf t).foldl (fun a g => match a with
    | some b => if b.at_ ≤ g.at_ && b.no < g.no then some g else some b
    | none => some g) none

/-- The change is reported to the Loft in the cycle of application (07 R231). -/
def State.report (s : State) (p : Nat) (old new : PortState) (sched : Bool) (cause evTime : Nat) : State :=
  let gap : Option (Nat × Bool) := match (s.port p).tie with
    | some t => ((s.hall (hallOf p)).lastGap t).map (fun g => (g.no, g.idle))
    | none => none
  s.modHall (hallOf p) (fun h => { h with
    outq := h.outq ++ [.change ⟨p, old, new, sched, cause, false, if sched then gap else none, evTime, false⟩] })

/-- The port state, with the CHECKPOINT of a port that has entries (04 R150) and the STATUS of a changed shadow 4 (03 R96). -/
def State.setSt (s : State) (p : Nat) (new : PortState) : State :=
  let s1 := s.modPort p (fun v => { v with st := new, rls := { v.rls with qrel := v.rls.qrel && new == .quarantined } })
  let s2 := s1.when (new != .held && new != .released) (fun t => t.modRls p (fun r => { r with verified := r.verified && new == .adopted }))
  let s3 := s2.when (new != .held) (fun t => (t.modRls p (fun r => { r with inFlight := false })).modHall (hallOf p)
    (fun h => { h with flight := h.flight.filter (· ≠ p) }))
  (s3.when (!(s3.port p).ring.entries.isEmpty) (fun t => t.checkpoint p)).syncShadow4 p

/-- What ends when a port leaves service: boot window, rates, watchdog, gleaner confirmation (06 R193, 12 R372). -/
def State.leaveService (s : State) (p : Nat) : State :=
  let s1 := s.modRls p (fun r => { r with
    bootWin := none, booted := false, rates := [], bytes := 0, switched := false, swAcked := false })
  s1.modPwd p (fun w => { w with running := false, bound := false })

/-- A fill that has not been decided is discarded; a heal of row 8 that has started runs on, and decides nothing (05 R172). -/
def State.discardFill (s : State) (p : Nat) : State :=
  ((s.modTree p (fun t => { t with filling := false, fillDone := false, found := [], refetch := [], fillFail := false })).modGln p
    (fun g => { g with heal := g.heal.map (fun h => { h with atFill := false }) })).modRing p
    (fun r => { r with jobs := r.jobs.filter (fun j => match j.kind with
      | .fill _ => false
      | .refetch _ => false
      | _ => true) })

/-- RELEASED or ADOPTED to HELD (01 Table 1.9): the platform is reset by a CTRL that asserts RST. -/
def State.toHeld (s : State) (p : Nat) (sched : Bool) (cause : Nat := 0) (keepVerified : Bool := true) (evTime : Nat := 0) :
    State :=
  let old := (s.port p).st
  let kept := keepVerified && (s.port p).rls.verified && (s.port p).mir.refill.isEmpty
  let s1 := ((s.ctrlReset p).leaveService p).discardFill p
  let s2 := (s1.setSt p .held).modRls p (fun r => { r with verified := kept, inFlight := false })
  let s2 := s2.modHall (hallOf p) (fun h => { h with flight := h.flight.filter (· ≠ p) })
  (s2.ringReset p).report p old .held sched cause evTime

/-- The states from which a port may be quarantined (01 Table 1.9). -/
def canQuarantine (st : PortState) : Bool :=
  match st with
  | .absent | .quarantined | .retired => false
  | _ => true

/-- A port enters QUARANTINED with a cause of 14 Table 14.10: port error [5], CTRL asserting RST, the entries by 04 Table
4.14. -/
def State.quarantine (s : State) (p cause : Nat) (sched : Bool := false) (evCause : Nat := 0) (evTime : Nat := 0)
    (discard : Bool := false) : State :=
  let old := (s.port p).st
  if !canQuarantine old then s
  else
    let s1 := ((s.ctrlReset p).leaveService p).discardFill p
    let s2 := (s1.setSt p .quarantined).modPort p (fun v => { v with qcause := cause })
    let s3 := (s2.modRls p (fun r => { r with verified := false })).ringQuarantine p discard
    let et := if evTime = 0 then s.entryTime (pgLs (galOf p)) 5 else evTime
    (s3.raisePort p 5 false cause).report p old .quarantined sched evCause et

/-- A heal whose link goes down ends ABANDONED and restarts at step 5; at the power loss of a shutter no HEAL_END is written, since
the heal copy stays the source (05 R183). -/
def State.abandonHeal (s : State) (p : Nat) : State :=
  match (s.port p).gln.heal with
  | some h =>
    let s1 := s.modGln p (fun g => { g with heal := some { h with running := false, attempt := 1, abandoned := true } })
    if h.abandoned || s.modState == .shutter then s1
    else s1.ledgerPut 0x27 p (le 2 h.first ++ le 1 h.count ++ le 1 2)
  | none => s

/-- The link layer after a link-down: counters, stored settings and the tap's identity stay (02 R83, R86). -/
def downLink (l : Link) (idle : Option Nat) : Link :=
  { ({} : Link) with
    idleEnd := idle, tapId := l.tapId, caps := l.caps, platform := l.platform, fallback := l.fallback, wait := l.wait,
    fbStored := l.fbStored, waitStored := l.waitStored, holdLock := l.holdLock, lines := l.lines, cs := l.cs,
    nextCtl := l.nextCtl, nextOp := l.nextOp, nextAttn := l.nextAttn, crcErr := l.crcErr, protoErr := l.protoErr,
    nakCnt := l.nakCnt, replayCnt := l.replayCnt, credLate := l.credLate, trainFail := l.trainFail, los := l.los,
    underrun := l.underrun, decodeErr := l.decodeErr, sbDrop := l.sbDrop, lastComma := l.lastComma }

/-- The port goes to ABSENT (01 Table 1.9): entries, stream, fill and heal end as the ring and tree rules say. -/
def State.toAbsent (s : State) (p : Nat) (evCause evTime : Nat) (idle : Option Nat) (sched : Bool := false) : State :=
  let old := (s.port p).st
  let s1 := ((s.leaveService p).discardFill p).abandonHeal p
  let s2 := s1.ringLinkDown p
  let s3 := s2.modPort p (fun v => { v with
    link := downLink v.link idle, mir := { v.mir with stream := none, wr := none }, qcause := 0 })
  if old = .retired || old = .absent then s3
  else (s3.setSt p .absent).report p old .absent sched evCause evTime

/-- A link is treated as down (02 R83): LINK_DOWN is sent when the module declared it, then IDLE for 10 ms. -/
def State.linkDown (s : State) (p : Nat) (declared : Bool) (evCause : Nat := 1) (evTime : Nat := 0) : State :=
  let s1 := s.when declared (fun t => t.sendLc p 8)
  let et := if evTime = 0 then s.entryTime (pgLs (galOf p)) 0 else evTime
  let s2 := s1.toAbsent p evCause et (some (s.hnow + 8000000))
  s2.raisePort p 0

/-- A chip select whose first frame the hall accepted in the cycle of a switch takes the new bank (03 R114, R117): what it sent
before in that cycle stays (log 98). -/
def MirPort.rebind (m : MirPort) (cs : BitVec 16) (now : Nat) : MirPort :=
  if m.csAt = some now then
    { m with csValid := true, csWait := false, csNew := cs,
             stream := m.stream.map (fun x => if x.cs = cs then { x with bank := m.active } else x),
             wr := m.wr.map (fun x => if x.cmd.cs = cs then { x with bank := m.active } else x) }
  else m

/-- A policy switch in its cycle (03 R115, R116), reported as an applied change (07 R231). -/
def State.policySwitch (s : State) (p : Nat) (sched : Bool := true) : State :=
  if (s.port p).mir.armed then
    let st := (s.port p).st
    ((s.modPort p (fun v => { v with mir := { v.mir with
      active := !v.mir.active, armed := false, csValid := false, csWait := true }.rebind v.link.cs s.hnow })).syncShadow4 p).report p st st sched 0 0
  else s

/-- HELD to RELEASED (06 R197): STATUS of shadow 4 and CTRL that deasserts RST. -/
def State.release (s : State) (p : Nat) (sched : Bool) : State :=
  let s1 := (s.setSt p .released).modRls p (fun r => { r with given := false, inFlight := false, awaitNotice := false, leftOut := false })
  let s3 := s1.sendCtl p 0 .release ((s1.port p).ctrlBytes 0 1 0)
  let s3 := match (s3.port p).upd.relock with
    | some b => (s3.sendCtl p 0 .other ((s3.port p).ctrlBytes 0 0 (2 + b2n b))).modUpd p (fun u => { u with relock := none })
    | none => s3
  let s4 := s3.report p .held .released sched 0 0
  s4.when (s4.modState == .verify) (fun t =>
    { t with modState := .serving, prevState := .verify }.raise 0x11 4 (4 + 16 * 3))

/-- Takeover of a ready ADOPTED port (06 R203): CTRL with TAKEOVER and the RST bit out of its mask. -/
def State.takeover (s : State) (p : Nat) (sched : Bool) : State :=
  let s1 := s.modRls p (fun r => { r with switched := true, inFlight := false, awaitNotice := false })
  let s1 := s1.modHall (hallOf p) (fun h => { h with flight := h.flight.filter (· ≠ p) })
  let s2 := s1.sendCtl p 0 .takeover ((s1.port p).ctrlBytes 0 0 4)
  let s3 := s2.report p .adopted .adopted sched 0 0
  s3.when (s3.modState == .verify) (fun t =>
    { t with modState := .serving, prevState := .verify }.raise 0x11 4 (4 + 16 * 3))

/-- DEPART with the port's mode; QUARANTINED and HELD ports depart with HOLD (06 R206); reported as an applied change (07 R231). -/
def State.depart (s : State) (p : Nat) (sched : Bool := true) : State :=
  let v := s.port p
  let m := v.rls.depMode && v.st != .quarantined && v.st != .held
  let s1 := ({ s with depSent := true }).modRls p (fun r => { r with depPhase := .sent })
  ((s1.modPwd p (fun w => { w with running := false })).sendCtl p 2 .depart [BitVec.ofNat 8 (b2n m)]).report p v.st v.st sched 0 0

/-- One of the port's policy banks is valid: a port whose banks are invalid cannot leave HELD (03 R105, 06 R190). -/
def Port.bankOk (v : Port) : Bool := v.mir.bank0.valid || v.mir.bank1.valid

/-- A scheduled change finds the port in a state to which it applies (07 R229). -/
def State.changeApplies (s : State) (p : Nat) : ChgKind → Bool
  | .quarantine _ _ => canQuarantine (s.port p).st
  | .reset _ => (s.port p).st == .released || (s.port p).st == .adopted
  | .policy => (s.port p).mir.armed
  | .release => (s.modState == .verify || s.modState == .serving) && (s.port p).st == .held && (s.port p).rls.verified && (s.port p).bankOk
  | .takeover => (s.modState == .verify || s.modState == .serving) && (s.port p).st == .adopted && (s.port p).rls.verified && !(s.port p).rls.switched
  | .depart => (s.port p).link.up && s.modState == .departing

/-- A change that finds the port in a state to which it does not apply is dropped, and its requester receives STATE (07 R229). The
changes that the release sequencer requests answer in RLS_RESULT; a quarantine's requesters have no result register (log 99). -/
def State.dropChange (s : State) (p : Nat) (k : ChgKind) : State :=
  match k with
  | .quarantine _ _ => s
  | .policy => s
  | _ => s.modHall (hallOf p) (fun x => { x with rlsResult := 1 })

/-- Apply one change (07 Table 7.4), or drop it. The history entry of a forced change is that of FORCED_CHANGE (07 R230). -/
def State.applyChange (s : State) (p : Nat) (k : ChgKind) (sched : Bool) : State :=
  let et := if sched then 0 else s.entryTime 0xC0 3
  if s.changeApplies p k then
    match k with
    | .quarantine c d => s.quarantine p c sched 3 et d
    | .reset _ => s.toHeld p sched 3 true et
    | .policy => s.policySwitch p sched
    | .release => s.release p sched
    | .takeover => s.takeover p sched
    | .depart => s.depart p sched
  else s.dropChange p k

/-- Changes bound on a port that becomes tied to none are applied in that cycle (07 R228, log 46). -/
def State.unbind (s : State) (p : Nat) : State :=
  let bs := (s.port p).bounds
  each bs (fun b t => t.applyChange p b.kind true) (s.modPort p (fun v => { v with bounds := [] }))

def chgOrder : ChgKind → Nat
  | .quarantine _ _ => 1
  | .reset _ => 2
  | .policy => 3
  | .release => 4
  | .takeover => 5
  | .depart => 6

/-- Request a change (07 R228): bound to a gap of the port's transport, or applied at once on a port tied to none. A
change marked Yes in Table 7.4 has a window of DEFER_MS. -/
def State.request (s : State) (p : Nat) (k : ChgKind) (gapNo : Option Nat := none) : State :=
  match (s.port p).tie with
  | none => s.applyChange p k true
  | some t =>
    let win := if chgOrder k ≤ 2 then some (mkWin s.hnow ((s.tr t).blk.deferMs * 800000)) else none
    s.modPort p (fun v => { v with bounds := v.bounds ++ [⟨k, gapNo, win⟩] })

def isReset (b : Bound) : Bool := match b.kind with
  | .reset _ => true
  | _ => false

/-- A RESET to HELD is bound, unless one of the port is bound already (06 R198, 12 R374). -/
def State.resetPort (s : State) (p cause : Nat) : State :=
  if (s.port p).bounds.any isReset then s else s.request p (.reset cause)

end Sys2Proof.Machine
end

