-- ==== Sys2Proof/Machine/Verify.lean ====
section
/-! DEFINITION. Fill and its decision (05 R169 to R172), read-back (04 R152 to R154, 05 R173), refill (R175), the gleaner
(R176 to R181) and heals (R182 to R184). -/

namespace Sys2Proof.Machine

/-! ### Fill -/

def isFillJob (j : VcJob) : Bool := match j.kind with
  | .fill _ => true
  | _ => false

def Port.fillOut (v : Port) : Nat := (v.ring.jobs.filter isFillJob).length

/-- The port may be given its next fill read (05 R169). -/
def State.fillWants (s : State) (p : Nat) : Bool :=
  let v := s.port p
  v.tree.filling && v.tree.nextLeaf < v.leafCount && v.fillOut < 2 && s.flAllowed p && !v.tree.fillFail

/-- Issue fill reads of a hall while one of its 64 leaf buffers is free, to the port that follows the last served one. -/
def fillLoop : Nat → Nat → State → State
  | 0, _, s => s
  | n + 1, h, s =>
    let ps := s.portsOf h
    let outn := ps.foldl (fun a p => a + (s.port p).fillOut) 0
    let cand := ps.filter s.fillWants
    let after := cand.filter (fun p => (s.hall h).fillNext < p)
    match (if outn ≥ 64 then none else (after ++ cand).head?) with
    | none => s
    | some p =>
      let v := s.port p
      let s1 := (s.modTree p (fun t => { t with nextLeaf := t.nextLeaf + 1 })).modHall h (fun x => { x with fillNext := p })
      fillLoop n h (s1.startJob p (.fill v.tree.nextLeaf) (readReqs v (v.tree.nextLeaf * 4096) 4096))

def State.fillIssue (s : State) (h : Nat) : State := fillLoop 64 h s

/-- A fill starts again from leaf 0 (05 R169, R172). -/
def State.startFill (s : State) (p : Nat) : State :=
  let s1 := s.modTree p (fun t => { t with
    filling := true, nextLeaf := 0, found := [], fillFail := false, fillDone := false, refetch := [], healed := false,
    retried := false, leafCyc := 0, resident := false })
  (s1.modGln p (fun g => { g with healQueue := [], healWait := [] })).fillIssue (hallOf p)

/-- A port that failed its fill decision: VER_RESULT, FILL_FAIL and the quarantine, scheduled for an ADOPTED port (R202). -/
def State.failFill (s : State) (p cause ver : Nat) : State :=
  let h := hallOf p
  let s1 := (s.modTree p (fun t => { t with verResult := ver, filling := false, fillDone := false })).raiseP (pgGln h) 7 p
  if (s1.port p).st = .adopted then (s1.raiseP (pgRls h) 3 p).request p (.quarantine cause false)
  else s1.quarantine p cause

/-- The root over the span is computed when SPAN_STATE is PRISTINE or the port is being enrolled (05 R169); else the one of an earlier
fill stays. -/
def State.noteSpan (s : State) (p : Nat) : State :=
  s.when ((s.enrolRec p).isNone || (s.ledgerKept p).2 == 1) (fun t =>
    t.modTree p (fun x => { x with spanRoot := treeRoot (leafList x.found x.span) }))

/-- The page buffers of ACCEPTED and HELD entries are rebuilt on the filled slice, in sequence order (04 R151). -/
def State.rebuildBufs (s : State) (p : Nat) : State :=
  if (s.port p).ring.rebuild then
    each ((s.port p).ring.seqs (fun e => e.kind == .program && (e.state == .accepted || e.state == .held))) (fun q t =>
      t.modRing p (fun r => match r.entry q with
        | some e =>
          let under := { r with entries := r.entries.filter (fun x => x.seq < q) }
          let page := (List.range 256).map (fun k => match under.newest (e.off + k) with
            | some x => x.byteAt (e.off + k)
            | none => memGet (t.slice p) (e.off + k))
          r.mod q (fun x => { x with buf := (page.zip x.placed).map (fun y => y.1 &&& y.2) })
        | none => r)) (s.modRing p (fun r => { r with rebuild := false }))
  else s

/-- A changed port that the open activation still drains: its fill is checked against the old manifest, and only the fill of the
copied image makes it releasable (08 R256, R257). -/
def State.drainsOld (s : State) (p : Nat) : Bool := (s.port p).upd.changed && s.act.opened && s.act.stage == 1

/-- A verified outcome (05 R171): the port goes to HELD, or is ready for its switch; a tree copy is written (R166), and the gleaner's
first cycle is to start (R178). -/
def State.verifiedFill (s : State) (p ver : Nat) (lv : Tab Bytes) : State :=
  let v := s.port p
  let l := leafList lv v.leafCount
  let s1 := s.modTree p (fun t => { t with
    verResult := ver, filling := false, fillDone := false, leaves := lv, nodes := nodeTab l, root := treeRoot l,
    kept := treeRoot l, resident := true, refetch := [] })
  let s1 := s1.unitsWritten (hallOf p) (inTree (p % 256))
  let s1 := s1.modGln p (fun g => { g with t0 := none, cursor := 0, read := 0, late := false, divs := 0, rereads := [] })
  let s2 := if v.st = .verifying then s1.setSt p .held else s1
  let s3 := s2.when (v.tree.kept != treeRoot l) (fun t => t.reportRoot p)
  ((s3.modRls p (fun r => { r with verified := !s.drainsOld p, verifiedAt := s.hnow })).rebuildBufs p).writeCopy p

/-- The heal source of a diverged leaf at fill (05 Table 5.3 row 8): an unfinished heal's copy, else the staged image leaf
while PRISTINE, which must match the expected digest. -/
def State.healSource (s : State) (p i : Nat) (expect : Bytes) : Option Bytes :=
  let v := s.port p
  let copy := (s.healStarts p).findSome? (fun r =>
    let f := num r.body 0 2
    if f ≤ i && i < f + num r.body 2 1 then
      (tabFind s.healCopies p).map (fun c => sub c.2 ((i - f) * 4096) 4096) else none)
  match copy with
  | some c => some c
  | none =>
    if i < v.tree.span && v.tree.spanState = 1 then
      ((s.images.map (·.2)).find? (fun g => g.kind == 1 && g.st ≠ 5 && g.imageId == v.tree.imageId && g.version == v.tree.version)).bind (fun g =>
        let b := tabGet [] g.blocks i
        let c := b ++ List.replicate (4096 - b.length) 0xFF
        if leafDigest i c = expect then some c else none)
    else none

/-- An armed injection on the block CRC acts on the staged image that a heal reads: the image is DAMAGED (13 R407, 08 R247). -/
def State.healRead (s : State) (p : Nat) (expect : Tab Bytes) (bad : List Nat) : State :=
  let v := s.port p
  if s.injection 0x20 0 none ≠ 0 && bad.any (fun i => (s.healSource p i (tabGet [] expect i)).isSome &&
      ({ s with healCopies := [] }.healSource p i (tabGet [] expect i)).isSome) then
    let gs : Tab Image := s.images.map (fun e =>
      if e.2.kind = 1 ∧ e.2.imageId = v.tree.imageId ∧ e.2.version = v.tree.version then (e.1, { e.2 with st := 5 }) else e)
    let s1 : State := { s with images := gs }
    (s1.raiseE { page := 0x20, bit := 7, inj := true }).disarm 0x20
  else s

/-- The leaves whose found digest is not the expected one. -/
def diffLeaves (v : Port) (expect : Tab Bytes) : List Nat :=
  (List.range v.leafCount).filter (fun i => tabGet [] v.tree.found i ≠ tabGet [] expect i)

/-- Start a heal of the unit that holds a leaf, from given content and to given digests (05 R182, R171). The heal copy's block in the
barn is numbered as its port (DESIGN CHOICE, log 98: neither Table 5.2 nor 08 Table 8.1 numbers the blocks of the heal area). -/
def State.beginHeal (s : State) (p leaf : Nat) (content : Bytes) (want : Tab Bytes) (atFill : Bool) : State :=
  let k := (smallestErase (s.port p)).size / 4096
  let first := leaf / k * k
  let s1 := s.modGln p (fun g => { g with
    heal := some { first := first, count := k, content := content, durable := atFill, atFill := atFill,
                   want := want.filter (fun e => first ≤ e.1 && e.1 < first + k) } })
  if atFill then s1
  else
    let s2 := { s1 with healCopies := tabSet s1.healCopies p (first, content), barnQ := s1.barnQ ++ [BarnWrite.healStart p] }
    s2.ledgerPut 0x26 p (le 2 first ++ le 1 k ++ le 4 p ++ sha384 content)

/-- The next unit to heal at fill: content of the unit with every differing leaf replaced by its source. -/
def State.healUnitAtFill (s : State) (p leaf : Nat) (expect : Tab Bytes) (bad : List Nat) : State :=
  let k := (smallestErase (s.port p)).size / 4096
  let first := leaf / k * k
  let content := (List.range k).flatMap (fun j =>
    let i := first + j
    if bad.contains i then (s.healSource p i (tabGet [] expect i)).getD [] else memRead (s.slice p) (i * 4096) 4096)
  s.beginHeal p leaf content expect true

/-- Read again the next leaf that differed at fill, on another lane (05 Table 5.3 row 8). -/
def State.refetchNext (s : State) (p : Nat) : State :=
  let v := s.port p
  match v.tree.refetch with
  | i :: t =>
    if v.ring.jobs.isEmpty && s.flAllowed p then
      (s.modTree p (fun x => { x with refetch := t })).startJob p (.refetch i) (readReqs v (i * 4096) 4096)
    else s
  | [] => s

/-- The fill decision of Table 5.3, made when the found root and the signature result are both known (05 R171). A re-read of row 8 that
clears every difference decides once more with no heal, so VER_RESULT is 1 (DESIGN CHOICE, log 98). An ADOPTED port is sent only reads
(06 R200), so its leaves have no way to be healed and row 8 quarantines it (DEDUCED, log 99). -/
def State.decideFill (s : State) (p : Nat) : State :=
  let v := s.port p
  let t := v.tree
  let n := v.leafCount
  if !t.filling then s
  else if t.fillFail then s.failFill p 2 8
  else if !t.fillDone || t.sig = 0 then s
  else if t.sig = 2 then s.failFill p 3 4
  else
    let inForce := (s.enrolRec p).isSome
    let expect := s.expectedLeaves p
    let kept := (s.ledgerKept p).1
    let ss := (s.ledgerKept p).2
    let foundRoot := treeRoot (leafList t.found n)
    let s0 := s.noteSpan p
    let spanRoot := (s0.port p).tree.spanRoot
    if inForce && (!s.macsGood p || treeRoot (leafList expect n) ≠ kept) then s0.failFill p 4 6
    else if !inForce then
      (if spanRoot = t.manRoot then
        let s1 := (s0.verifiedFill p 2 t.found).modTree p (fun x => { x with spanState := 1 })
        s1.ledgerPut 0x21 p (enrolBody (s1.port p) (n > t.span))
      else s0.failFill p 5 5)
    else if foundRoot = kept then
      (if ss = 2 || spanRoot = t.manRoot then
        (s0.modTree p (fun x => { x with spanState := ss })).verifiedFill p (if t.healed then 3 else 1) t.found
      else s0.failFill p 4 6)
    else
      let bad := diffLeaves v expect
      if !t.retried && !t.healed then
        (s0.modTree p (fun x => { x with refetch := bad, retried := true })).refetchNext p
      else if t.healed then s0.failFill p 6 7
      else
        let s1 := s0.healRead p expect bad
        if !v.readsOnly && bad.all (fun i => (s1.healSource p i (tabGet [] expect i)).isSome) then
          match bad with
          | i :: _ => s1.healUnitAtFill p i expect bad
          | [] => s1
        else s1.failFill p 6 7

/-- A leaf of a fill has arrived (05 R169); a running port's is hashed at priority 3 (05 R175, 06 R202). -/
def State.fillLeaf (s : State) (p leaf : Nat) (content : Bytes) (cycles : Nat) : State :=
  let s1 := (s.writeSlice p (leaf * 4096) content).modTree p (fun t => { t with
    found := tabSet t.found leaf (leafDigest leaf content), leafCyc := max t.leafCyc (cycles + ceilDiv cycles 4) })
  let s2 := s1.modHall (hallOf p) (fun h =>
    if (s.port p).st = .adopted then { h with hshRb := satAdd 32 h.hshRb 1 } else { h with hshFill := satAdd 32 h.hshFill 1 })
  let v := s2.port p
  if v.tree.found.length = v.leafCount && v.fillOut = 0 then
    ((s2.modTree p (fun t => { t with fillDone := true })).noteSpan p).decideFill p
  else s2

/-! ### Read-back (04 R152, R153; 05 R173) -/

def isReadback (j : VcJob) : Bool := match j.kind with
  | .readback _ _ => true
  | .reissue _ => true
  | _ => false

/-- The range read back: the entry's range, or its whole leaves when classified by digest. -/
def rbRange (v : Port) (e : Entry) : Nat × Nat :=
  if v.tree.resident then (e.off, e.size) else (e.off / 4096 * 4096, (unitsOf e.off e.size).length * 4096)

/-- Read back the first entry not yet classified. -/
def State.readbackNext (s : State) (p : Nat) : State :=
  let v := s.port p
  match v.ring.entries.find? (fun e => e.readback && e.state == .committing) with
  | some e => s.startJob p (.readback e.seq false) (readReqs v (rbRange v e).1 (rbRange v e).2)
  | none => s

/-- READBACK record (04 Table 4.11) and the detail of RING_DETAIL. -/
def State.readbackRec (s : State) (p q cls : Nat) (found : Bytes) : State :=
  let d := sha384 found
  let s1 := s.modRing p (fun r => r.mod q (fun e => { e with rbClass := cls, found := true, foundDig := d }))
  s1.journal 4 p q (le 1 cls ++ le 1 1 ++ le 2 (ceilDiv found.length 256) ++ d) (hallOf p)

/-- A page program found page F AND placed data D (05 Table 5.4). -/
def andPage (f d : Bytes) : Bytes := (f.zip d).map (fun x => x.1 &&& x.2)

/-- The found content with the page of an entry replaced. -/
def withPage (f : Bytes) (at_ : Nat) (pg : Bytes) : Bytes := f.take at_ ++ pg ++ f.drop (at_ + pg.length)

/-- Class of found bytes by comparison with P and E (04 Table 4.12): 1 to 5. -/
def classifyBytes (kind : EKind) (f p e : Bytes) : Nat :=
  if f = e then 1
  else if f = p then 2
  else if kind ≠ .program then 3
  else if andPage f p = f && andPage f e = e then 4
  else 5

/-- Class by digest (05 Table 5.4). -/
def classifyDigests (r : LRec) (e : Entry) (f : Bytes) : Nat :=
  let ls := intentLeaves r
  let dig := fun i => leafDigest i (sub f ((i - num r.body 8 2) * 4096) 4096)
  let rel := e.off % 4096
  let g := withPage f rel (andPage (sub f rel 256) e.placed)
  if ls.all (fun i => dig i == intentPost r i) then 1
  else if ls.all (fun i => dig i == intentPre r i) then 2
  else if e.kind ≠ .program then 3
  else if ls.all (fun i => leafDigest i g == intentPost r i) then 4
  else 5

/-- A PARTIAL entry (04 R154): recorded, and its leaves are reported as diverged. -/
def State.markPartial (s : State) (p q cause : Nat) (e : Entry) : State :=
  ((s.entryTo p q .partial_ cause).modRing p (fun r => { r with notice := true })).modGln p (fun g => { g with
    healWait := g.healWait ++ (unitsOf e.off e.size).filter (fun i => !g.healWait.contains i) })

/-! ### Heals (05 R182 to R184) -/

/-- The case of Table 5.5 is recorded in GLN_LAST_DIV. -/
def State.lastDiv (s : State) (p leaf row : Nat) : State :=
  s.modHall (hallOf p) (fun h => { h with lastDivPort := p % 256, lastDivLeaf := leaf, lastDivCase := row })

/-- A leaf of a QUARANTINED port cannot be healed: the release of the quarantine does not go on (05 Table 5.6, 14 R434). -/
def State.stayQuarantined (s : State) (p cause leaf : Nat) : State :=
  s.modPort p (fun v => { v with
    qcause := cause, rls := { v.rls with qrel := false },
    gln := { v.gln with healWait := if v.gln.healWait.contains leaf then v.gln.healWait else v.gln.healWait ++ [leaf] } })

/-- A quarantine that 05 causes while the port runs is scheduled (R181). -/
def State.quarantine05 (s : State) (p cause : Nat) : State :=
  if (s.port p).served then s.request p (.quarantine cause false) else s.quarantine p cause

/-- BOTH_DIVERGED (05 Table 5.5 row 8). -/
def State.bothDiverged (s : State) (p leaf : Nat) : State :=
  let s1 := (s.lastDiv p leaf 8).raiseP (pgGln (hallOf p)) 5 p true
  if (s.port p).st = .quarantined then s1.stayQuarantined p 8 leaf else s1.quarantine05 p 8

/-- A 64-byte DRAM unit of a leaf of the mirror slice that holds uncorrectable data. -/
def State.leafBad (s : State) (p leaf : Nat) : Option Nat :=
  let u := sliceUnit p + leaf * 64
  (s.hall (hallOf p)).dramBad.find? (fun x => u ≤ x && x < u + 64)

/-- A read of the mirror slice meets its ECC checker (13 R407): an armed injection acts on it and disarms; whether the data is lost. -/
def State.mirrorCheck (s : State) (p : Nat) : State × Bool :=
  let pg := pgMir (hallOf p)
  let dry := (s.hdr pg).injDry
  match s.injection pg 0 (some p) with
  | 0 => (s, false)
  | 1 => ((s.disarm pg).corrected (hallOf p) true dry, false)
  | _ => ((s.disarm pg).drcUncorrectable (hallOf p) (sliceUnit p) 0 true dry, true)

/-- Steps 1 to 3 of R182: the unit, the check of its mirror leaves, the heal copy and HEAL_START. -/
def State.startHeal (s : State) (p leaf : Nat) : State :=
  let v := s.port p
  let k := (smallestErase v).size / 4096
  let first := leaf / k * k
  let leaves := (List.range k).map (· + first)
  let (s0, lost) := s.mirrorCheck p
  let s0 := s0.modHall (hallOf p) (fun h => { h with hshRb := satAdd 32 h.hshRb k })
  if lost || leaves.any (fun i => (s.leafBad p i).isSome || s.digestBad p i ||
      leafDigest i (memRead (s.slice p) (i * 4096) 4096) ≠ tabGet [] v.tree.leaves i) then
    s0.bothDiverged p leaf
  else s0.beginHeal p leaf (memRead (s.slice p) (first * 4096) (k * 4096)) v.tree.leaves false

/-- The divergences that wait are healed one after the other, while none is being healed and a lane is free (05 R182). -/
def healLoop : Nat → Nat → State → State
  | 0, _, s => s
  | n + 1, p, s =>
    match (s.port p).gln.healQueue with
    | i :: rest =>
      if (s.port p).gln.heal.isSome || !s.laneFree (hallOf p) then s
      else healLoop n p ((s.modGln p (fun g => { g with healQueue := rest })).startHeal p i)
    | [] => s

def State.healNext (s : State) (p : Nat) : State := healLoop (s.port p).gln.healQueue.length p s

/-- A confirmed divergence waits for the port's heal job and a lane, or starts a heal. -/
def State.queueHeal (s : State) (p leaf : Nat) : State :=
  if (s.port p).gln.heal.isSome || !s.laneFree (hallOf p) then
    s.modGln p (fun g => { g with healQueue := if g.healQueue.contains leaf then g.healQueue else g.healQueue ++ [leaf] })
  else s.startHeal p leaf

/-- Erase and program the heal unit (05 R182 step 5). -/
def State.healWrite (s : State) (p : Nat) (h : Heal) : State :=
  let v := s.port p
  let k := smallestErase v
  s.startJob p .healWrite (eraseReq v k (h.first * 4096) :: progReqs v (h.first * 4096) h.content)

/-- The heal ended with a result: HEAL_END, counters, and the next waiting divergence, whatever the result (05 R182). -/
def State.endHeal (s : State) (p : Nat) (ok : Bool) : State :=
  match (s.port p).gln.heal with
  | none => s
  | some h =>
    let s1 := s.ledgerPut 0x27 p (le 2 h.first ++ le 1 h.count ++ le 1 (if ok then 0 else 1))
    let s2 := { s1 with healCopies := tabDel s1.healCopies p }
    let s3 := s2.modGln p (fun g => { g with
      heal := none, healQueue := g.healQueue.filter (fun i => !(h.first ≤ i && i < h.first + h.count)),
      healedN := if ok then satAdd 16 g.healedN 1 else g.healedN,
      healFail := if ok then g.healFail else satAdd 16 g.healFail 1 })
    if !ok then
      let s4 := s3.raiseP (pgGln (hallOf p)) 6 p true
      if h.atFill then s4.failFill p 10 7
      else (if (s4.port p).st = .quarantined then s4.stayQuarantined p 10 h.first else s4.quarantine05 p 10).healNext p
    else if h.atFill then
      let bad := diffLeaves (s3.port p) (s3.expectedLeaves p)
      match bad with
      | i :: _ => s3.healUnitAtFill p i (s3.expectedLeaves p) bad
      | [] => (s3.modTree p (fun t => { t with healed := true })).decideFill p
    else s3.healNext p

/-- A leaf of a healed unit was read back (05 R182 step 6). -/
def State.healChecked (s : State) (p leaf : Nat) (content : Bytes) : State :=
  match (s.port p).gln.heal with
  | none => s
  | some h =>
    let v := s.port p
    let want := tabGet [] h.want leaf
    let s0 := s.modHall (hallOf p) (fun x => { x with hshRb := satAdd 32 x.hshRb 1 })
    if leafDigest leaf content = want then
      let s1 := if h.atFill then (s0.writeSlice p (leaf * 4096) content).modTree p (fun t => { t with
          found := tabSet t.found leaf want }) else s0
      if leaf + 1 < h.first + h.count then s1.startJob p (.healCheck (leaf + 1)) (readReqs v ((leaf + 1) * 4096) 4096)
      else s1.endHeal p true
    else if h.attempt < 2 then
      (s0.modGln p (fun g => { g with heal := some { h with attempt := 2 } })).healWrite p h
    else s0.endHeal p false

/-! ### The end of a read-back -/

/-- A confirmed divergence is recorded under the DIV_ACTION and HEAL_LIMIT in force: GLN_LAST_DIV, DIVERGED, ERR_STAT [0], and the alarm
when the action or more than HEAL_LIMIT in the cycle asks for it (05 R181, R184). -/
def State.noteDivergence (s : State) (p leaf action limit : Nat) : State :=
  let n := (s.port p).gln.divs + 1
  ((s.lastDiv p leaf 3).modGln p (fun g => { g with diverged := satAdd 16 g.diverged 1, divs := n })).raiseP (pgGln (hallOf p)) 0 p
    (n > limit || action = 1 || action = 3)

/-- All READBACK_PENDING entries are classified (04 R154, 06 R201): the leaves of PARTIAL entries are reported as diverged; without a
resident tree the fill heals them (05 R173). -/
def State.readbackEnd (s : State) (p : Nat) : State :=
  let v := s.port p
  let s1 := s.when (v.st == .adopted) (fun t =>
    let qs := (t.port p).ring.seqs (fun e => e.state == .refused && e.holds)
    if qs.isEmpty then t else t.sendAttn p 0x20 qs)
  if v.gln.healWait.isEmpty then s1
  else
    let s2 := each v.gln.healWait (fun i t => t.noteDivergence p i v.gln.action v.gln.limit) s1
    let s2 := if v.st = .adopted then (s2.raiseP (pgRls (hallOf p)) 3 p).request p (.quarantine 12 false)
      else s2.quarantine p 12
    if v.tree.resident && v.gln.action < 2 then
      each v.gln.healWait (fun i t => t.queueHeal p i) (s2.modGln p (fun g => { g with healWait := [] }))
    else if v.tree.resident then s2
    else s2.modGln p (fun g => { g with healWait := [] })

/-- Outcome of a classification (04 Table 4.12, 05 Table 5.4, 06 R201); again: after a reissued operation. -/
def State.classify (s : State) (p q : Nat) (again : Bool) (f : Bytes) : State :=
  match (s.port p).ring.entry q with
  | none => s
  | some e =>
    let v := s.port p
    let byDig := !v.tree.resident
    let rec_ := s.intentOf p q
    let pBytes := memRead (s.slice p) e.off e.size
    let cls := if byDig then (match rec_ with
        | some r => classifyDigests r e f
        | none => 5)
      else classifyBytes e.kind f pBytes e.content
    let adopted := v.st == .adopted && byDig
    let s0 := s.modHall (hallOf p) (fun h => { h with hshRb := satAdd 32 h.hshRb (ceilDiv f.length 4096) })
    let s1 :=
      if cls = 1 then (s0.readbackRec p q (if again then 2 else 0) f).commitEntry p q 8
      else if again then (s0.readbackRec p q 3 f).markPartial p q 9 e
      else if cls = 2 then
        let t := s0.readbackRec p q 1 f
        if adopted then t.adoptRefuse p q
        else
          let pg := andPage (sub f (e.off % 4096) 256) e.placed
          (t.entryTo p q .accepted 8).modRing p (fun r => r.mod q (fun x =>
            if byDig && e.kind == .program then { x with buf := pg } else x))
      else if v.readsOnly || cls = 5 then (s0.readbackRec p q 3 f).markPartial p q 8 e
      else
        let pg := andPage (sub f (e.off % 4096) 256) e.placed
        let t := if byDig && e.kind = .program then s0.modRing p (fun r => r.mod q (fun x => { x with buf := pg })) else s0
        match (t.port p).ring.entry q with
        | some e2 => t.startJob p (.reissue q) (commitReqs v e2)
        | none => t
    if (s1.port p).ring.jobs.any isReadback then s1
    else if (s1.port p).ring.readbackPending then s1.readbackNext p
    else s1.readbackEnd p

/-! ### The commit queue (04 R140) -/

/-- The entry that may start: the first of the queue behind at most one COMMITTING entry, SHADOW entries skipped. -/
def RingPort.head (r : RingPort) : Option Entry :=
  let q := r.entries.filter (fun e => !e.final && !e.shadow)
  let busy := q.takeWhile (fun e => e.state == .committing)
  match q.drop busy.length with
  | e :: _ => if e.state == .accepted && busy.length < 2 then some e else none
  | [] => none

/-- A heal job stands at the head of the queue (05 R182). -/
def GlnPort.healing (g : GlnPort) : Bool := match g.heal with
  | some h => h.durable
  | none => false

/-- A commit may start on the port (04 R140, R152); its INTENT takes a hash lane first (05 R174). -/
def State.commitReady (s : State) (p : Nat) : Bool :=
  let v := s.port p
  s.alive && s.flAllowed p && (s.hall (hallOf p)).commitEn && v.commitState && !v.ring.readbackPending && !v.gln.healing &&
    !v.ring.series && s.laneFree (hallOf p)

/-! ### The gleaner (05 R176 to R181) -/

/-- The rate of a port's bucket: a departing port's final sweep runs at 5 % (06 R206). -/
def State.glnPct (s : State) (p : Nat) : Nat :=
  if (s.port p).rls.depPhase = .sweep then 5 else (s.hall (hallOf p)).ratePct

/-- The bytes in a port's rate bucket now (05 R178). -/
def bucketNow (g : GlnPort) (pct now : Nat) : Nat := min 16384 (g.bucket + (now - g.bucketAt) * pct / 800)

/-- The due count of a cycle (05 R178). -/
def dueCount (n t0 now cycleS : Nat) : Nat := min n (ceilDiv (n * (now - t0)) (cycleS * 800000000))

/-- The port can be gleaned (05 R176). -/
def State.gleanable (s : State) (p : Nat) : Bool :=
  let v := s.port p
  (s.hall (hallOf p)).glnEn && (s.modState == .serving || s.modState == .departing) && v.served && v.gln.heal.isNone &&
    v.tree.resident && s.flAllowed p && !v.ring.readbackPending

/-- A leaf read that starts now is due to complete inside the window (05 R177). -/
def State.fitsGap (s : State) (p : Nat) (g : HallGap) : Bool := s.hnow - g.at_ + (s.port p).tree.leafCyc ≤ g.guar

/-- Inside a gap window in which a read is due to complete (05 R177). -/
def State.inGapFor (s : State) (p : Nat) : Bool :=
  let v := s.port p
  match v.tie with
  | none => true
  | some t => ((s.hall (hallOf p)).gapsOf t).any (s.fitsGap p)

def isGlean (j : VcJob) : Bool := match j.kind with
  | .glean _ _ _ _ => true
  | _ => false

/-- The GAP_NO of the window the port is in, of two the one in which a read fits; none when it is tied to no transport or no window is
open. -/
def State.winOf (s : State) (p : Nat) : Option Nat := match (s.port p).tie with
  | some t =>
    let gs := (s.hall (hallOf p)).gapsOf t
    ((gs.find? (s.fitsGap p)).or gs.head?).map (·.no)
  | none => none

/-- A leaf to read again may be read in this window: not the one of its last read (01 R30, 05 R179, R180). -/
def Reread.due (x : Reread) (win : Option Nat) : Bool := x.win == none || x.win != win

/-- The leaves read in the cycle are fewer than the due count plus one (05 R178); a final sweep has no such limit (06 R206). -/
def State.dueNow (s : State) (p : Nat) : Bool :=
  let v := s.port p
  v.rls.depPhase == .sweep || (match v.gln.t0 with
    | some t => v.gln.read < dueCount v.leafCount t s.hnow (s.hall (hallOf p)).cycleS + 1
    | none => true)

/-- The leaf a port reads next: one that is due to be read again, else the cursor. -/
def State.nextRead (s : State) (p : Nat) : Option Reread :=
  let v := s.port p
  if !s.dueNow p then none
  else match v.gln.rereads.find? (fun x => x.due (s.winOf p)) with
    | some x => some x
    | none => if v.gln.cursor < v.leafCount then some { leaf := v.gln.cursor } else none

/-- A commit of the port may start, or the next operation of one that has begun may follow: the gleaner yields (01 R30). -/
def State.commitWaits (s : State) (p : Nat) : Bool :=
  let r := (s.port p).ring
  (s.commitReady p && r.head.isSome) || (r.series && !r.jobs.any (·.paused))

/-- A gleaner read may start on the port now (01 R30, 05 R176 to R178). -/
def State.gleanReady (s : State) (p : Nat) : Bool :=
  let v := s.port p
  s.gleanable p && s.inGapFor p && !(v.ring.jobs.any isGlean) && !s.commitWaits p && s.laneFree (hallOf p) &&
    bucketNow v.gln (s.glnPct p) s.hnow ≥ 4096 && (s.nextRead p).isSome

/-- When a port's next leaf became due in its cycle, be it read for the first time or again (05 R178). -/
def State.dueAt (s : State) (p : Nat) : Nat :=
  let v := s.port p
  let t := v.gln.t0.getD s.hnow
  let n := match s.nextRead p with
    | some x => x.leaf
    | none => v.gln.cursor
  t + n * ((s.hall (hallOf p)).cycleS * 800000000) / max 1 v.leafCount

/-- Start the gleaner read of a hall's port whose next leaf has been due longest (05 R178). -/
def State.gleanStart (s : State) (h : Nat) : State :=
  let inFlight := (s.portsOf h).foldl (fun a p => a + ((s.port p).ring.jobs.filter isGlean).length) 0
  let cand := (s.portsOf h).filter s.gleanReady
  let best := cand.foldl (fun a p => match a with
    | none => some p
    | some q => if s.dueAt p < s.dueAt q then some p else some q) none
  match (if inFlight ≥ 2 then none else best.bind (fun p => (s.nextRead p).map (fun x => (p, x)))) with
  | none => s
  | some (p, x) =>
    let v := s.port p
    let now := s.hnow
    let first := v.gln.t0.isNone
    let b0 := if first then 16384 else bucketNow v.gln (s.glnPct p) now
    let s1 := s.modGln p (fun g => { g with
      t0 := if first then some now else g.t0, bucket := b0 - 4096, bucketAt := now, overGap := false,
      actNow := g.action, limNow := g.limit,
      cursor := if g.rereads.contains x then g.cursor else g.cursor + 1,
      rereads := g.rereads.erase x })
    s1.startJob p (.glean x.leaf x.conf x.failed (s.winOf p)) (readReqs v (x.leaf * 4096) 4096)

/-- A stored digest, node or root of a port's tree cannot be read. -/
def State.treeBad (s : State) (p : Nat) : Bool :=
  (s.hall (hallOf p)).dramBad.any (fun u =>
    let o := u * 64 - treeBase (p % 256)
    inTree (p % 256) u && o < 0xCCD20 && (0xC0000 ≤ o || o / 48 < (s.port p).leafCount))

/-- The cycle-end audit of the tree (05 R179): a mismatch is TREE_FAULT. -/
def State.treeAudit (s : State) (p : Nat) : State :=
  let v := s.port p
  let l := leafList v.tree.leaves v.leafCount
  if !s.treeBad p && nodeTab l = v.tree.nodes && treeRoot l = v.tree.kept then s
  else (s.raiseP (pgGln (hallOf p)) 4 p true).quarantine05 p 7

/-- The next cycle of a port starts (05 R178). -/
def State.nextCycle (s : State) (p now : Nat) : State :=
  s.modGln p (fun g => { g with t0 := some now, cursor := 0, read := 0, late := false, divs := 0 })

/-- A leaf of a cycle is done; the last one ends the cycle. -/
def State.leafDone (s : State) (p : Nat) : State :=
  let s1 := s.modGln p (fun g => { g with read := g.read + 1 })
  let v := s1.port p
  if v.gln.read < v.leafCount then s1
  else
    let s2 := (s1.modGln p (fun g => { g with cycles := satAdd 16 g.cycles 1 })).treeAudit p
    let s3 := s2.modRls p (fun r => { r with lastGlean := s.cyc, swept := r.depPhase == .sweep })
    let due := v.gln.t0.getD 0 + (s.hall (hallOf p)).cycleS * 800000000
    if s.hnow ≥ due && v.rls.depPhase != .sweep then s3.nextCycle p s.hnow else s3

/-- A confirmed divergence and its reaction under the DIV_ACTION and HEAL_LIMIT in force (05 R181, R184, Table 5.6). -/
def State.confirmedDivergence (s : State) (p leaf action limit : Nat) : State :=
  let s1 := s.noteDivergence p leaf action limit
  if (s1.port p).gln.divs > limit || action ≥ 2 then
    (s1.modGln p (fun g => { g with healWait := if g.healWait.contains leaf then g.healWait else g.healWait ++ [leaf] })).quarantine05 p 9
  else s1.queueHeal p leaf

/-- A leaf with an entry in ACCEPTED, HELD or COMMITTING at any time during its read (01 R30). -/
def Port.leafTouched (v : Port) (leaf since : Nat) : Bool :=
  v.ring.entries.any (fun e => e.overlaps (leaf * 4096) 4096 && (e.pend || e.finTime ≥ since))

/-- The comparison of Table 5.5 for a leaf read in a window; a mirror leaf with an uncorrectable unit differs, and a stored digest that
cannot be read matches neither (DEDUCED, log 99). The mirror is hashed again to confirm: an injected error is gone by then. -/
def State.gleanCompare (s : State) (p leaf : Nat) (conf : Bool) (win : Option Nat) (content : Bytes) (startCyc : Nat) : State :=
  let h := hallOf p
  let v := s.port p
  let bad := s.leafBad p leaf
  let (s0, lost) := s.mirrorCheck p
  let s0 := s0.modHall h (fun x => { x with hshGlean := satAdd 32 x.hshGlean 2, glnBytes := x.glnBytes + content.length })
  let s0 := match bad with
    | some u => s0.drcUncorrectable h u 0
    | none => s0
  let wait := fun (c : Bool) => s0.modGln p (fun g => { g with rereads := g.rereads ++ [{ leaf := leaf, conf := c, win := win }] })
  if v.leafTouched leaf startCyc then wait false
  else
    let want := tabGet [] v.tree.leaves leaf
    let fd := leafDigest leaf content
    let mbytes := memRead (s.slice p) (leaf * 4096) 4096
    let readable := !s.digestBad p leaf
    let rehash := bad.isNone && readable && leafDigest leaf mbytes = want
    let mirrorOk := rehash && !lost
    let physOk := readable && fd = want
    let fin := fun (t : State) => t.leafDone p
    if physOk && mirrorOk then
      (if conf then fin (((s0.modGln p (fun g => { g with transient := satAdd 16 g.transient 1 })).lastDiv p leaf 2).raiseP (pgGln h) 1 p)
      else fin s0)
    else if mirrorOk then
      (if conf then fin (s0.confirmedDivergence p leaf v.gln.actNow v.gln.limNow) else wait true)
    else if physOk && rehash then
      fin (((s0.modGln p (fun g => { g with transient := satAdd 16 g.transient 1 })).lastDiv p leaf 4).raiseP (pgGln h) 1 p)
    else if physOk then
      let s1 := s0.modHall h (fun x => { x with hshGlean := satAdd 32 x.hshGlean 1 })
      fin (((s1.writeSlice p (leaf * 4096) content).lastDiv p leaf 5).raiseP (pgGln h) 2 p)
    else if bad.isNone && !lost && content = mbytes then
      (if treeRoot (leafList (tabSet v.tree.leaves leaf fd) v.leafCount) = v.tree.kept then
        fin (((s0.storeLeaves p [(leaf, fd)]).lastDiv p leaf 6).raiseP (pgGln h) 3 p)
      else fin (((s0.lastDiv p leaf 7).raiseP (pgGln h) 4 p true).quarantine05 p 7))
    else fin (s0.bothDiverged p leaf)

/-! ### Refill (03 R120, 05 R175) -/

/-- A leaf whose refill does not match its digest is a confirmed divergence (03 R120, 05 R181, R184). -/
def State.refillDiverged (s : State) (p leaf : Nat) : State :=
  let g := (s.port p).gln
  (s.modMir p (fun m => { m with refill := m.refill.filter (· ≠ leaf) })).confirmedDivergence p leaf g.action g.limit

def State.refillLeaf (s : State) (p leaf : Nat) (content : Bytes) : State :=
  let v := s.port p
  let pri := v.st == .verifying || v.st == .held
  let s0 := s.modHall (hallOf p) (fun x => if pri then { x with hshFill := satAdd 32 x.hshFill 1 }
                                           else { x with hshRb := satAdd 32 x.hshRb 1 })
  if leafDigest leaf content = tabGet [] v.tree.leaves leaf then
    (s0.writeSlice p (leaf * 4096) content).modMir p (fun m => { m with refill := m.refill.filter (· ≠ leaf) })
  else s0.refillDiverged p leaf

/-! ### FL_DONE (04 R142) -/

def State.dropJob (s : State) (p : Nat) (op : BitVec 16) : State :=
  s.modRing p (fun r => { r with jobs := r.jobs.filter (fun j => j.op != op) })

/-- The next operation of a job. -/
def State.nextOp (s : State) (p : Nat) (j : VcJob) (acc : Bytes) : State :=
  match j.todo with
  | [] => s
  | r :: t => s.placeJob p (some j.op) { j with req := r, todo := t, got := [], all := acc, retry := false }

/-- A read that failed is issued once more (04 R153, 05 R172, R175, R179). -/
def State.again (s : State) (p : Nat) (j : VcJob) : State := s.placeJob p (some j.op) { j with got := [], retry := true }

/-- The job that an FL_OP belongs to fails for good. -/
def State.jobFailed (s : State) (p : Nat) (j : VcJob) : State :=
  let s1 := s.dropJob p j.op
  match j.kind with
  | .commit q =>
    let s2 := s1.modRing p (fun r => r.mod q (fun e => { e with readback := true }))
    s2.quarantine p 11
  | .readback _ _ => s1.quarantine p 2
  | .reissue q => s1.startJob p (.readback q true) (match (s1.port p).ring.entry q with
      | some e => readReqs (s1.port p) (rbRange (s1.port p) e).1 (rbRange (s1.port p) e).2
      | none => [])
  | .fill _ => (s1.modTree p (fun t => { t with fillFail := true })).decideFill p
  | .refetch _ => (s1.modTree p (fun t => { t with fillFail := true })).decideFill p
  | .refill _ => s1.quarantine05 p 2
  | .glean leaf c failed win =>
    if failed then s1.quarantine05 p 2
    else s1.modGln p (fun g => { g with rereads := g.rereads ++ [{ leaf := leaf, conf := c, failed := true, win := win }] })
  | .healWrite => (match (s1.port p).gln.heal with
      | some h => if h.attempt < 2 then (s1.modGln p (fun g => { g with heal := some { h with attempt := 2 } })).healWrite p h
                  else s1.endHeal p false
      | none => s1)
  | .healCheck leaf => s1.healChecked p leaf []
  | .copyWrite => s1
  | .copyCheck _ => s1

/-- The job that an FL_OP belongs to has all its operations done. -/
def State.jobEnded (s : State) (p : Nat) (j : VcJob) (all : Bytes) : State :=
  let s1 := s.dropJob p j.op
  match j.kind with
  | .commit q => s1.commitEntry p q 0
  | .readback q ag => s1.classify p q ag all
  | .reissue q => s1.startJob p (.readback q true) (match (s1.port p).ring.entry q with
      | some e => readReqs (s1.port p) (rbRange (s1.port p) e).1 (rbRange (s1.port p) e).2
      | none => [])
  | .fill leaf => (s1.fillLeaf p leaf all (s.hnow - j.start)).fillIssue (hallOf p)
  | .refetch leaf =>
    let s2 := (s1.writeSlice p (leaf * 4096) all).modTree p (fun t => { t with found := tabSet t.found leaf (leafDigest leaf all) })
    if (s2.port p).tree.refetch.isEmpty then s2.decideFill p else s2.refetchNext p
  | .refill leaf => s1.refillLeaf p leaf all
  | .glean leaf c _ win => s1.gleanCompare p leaf c win all ((3 * j.start - s.loftAt) / 24)
  | .healWrite => (match (s1.port p).gln.heal with
      | some h => s1.startJob p (.healCheck h.first) (readReqs (s1.port p) (h.first * 4096) 4096)
      | none => s1)
  | .healCheck leaf => s1.healChecked p leaf all
  | .copyWrite => s1
  | .copyCheck _ => s1

/-- The bytes a job reads are hashed on a lane (01 R34). -/
def needsLane (j : VcJob) : Bool := match j.kind with
  | .commit _ => false
  | .reissue _ => false
  | .healWrite => false
  | .copyWrite => false
  | _ => true

/-- The job reads flash: a failed read is repeated once. -/
def repeats (j : VcJob) : Bool := match j.kind with
  | .readback _ _ => true
  | .fill _ => true
  | .refetch _ => true
  | .refill _ => true
  | _ => false

end Sys2Proof.Machine
end

