-- ==== Sys2Proof/Machine/LineOps.lean ====
section
/-! DEFINITION. The line-position block (07 R218 to R231) and the seal engine (07 R232 to R240). -/

namespace Sys2Proof.Machine

def posMod : Nat := 2 ^ 48

/-- Position q is at or after position p (07 R218). -/
def atOrAfter (q p : Nat) : Bool := (q + posMod - p % posMod) % posMod < 2 ^ 47

def posAfter (q p : Nat) : Bool := q ≠ p && atOrAfter q p

def posAdd (p n : Nat) : Nat := (p + n) % posMod

def trCode : TrState → Nat
  | .off => 0
  | .idle => 1
  | .moving => 2
  | .faulted => 3

/-- The ports tied to a transport, in ascending order. -/
def State.tied (s : State) (t : Nat) : List Nat := (s.ports.filter (fun x => x.2.tie == some t)).map (·.1)

/-! ### Seal records (07 R232) -/

def sealHeader (type flags len t no time : Nat) : Bytes :=
  le 1 type ++ le 1 flags ++ le 2 len ++ le 2 t ++ le 6 no ++ le 4 0 ++ le 8 time

/-- Bytes of the barn's 64 GiB seal area in use by a transport. -/
def trBytes (x : Transport) : Nat :=
  x.kept.foldl (fun a r => a + r.bytes.length) 0 + 248 * x.sheaves.length

def sealArea : Nat := 0x1000000000

/-- Discard a transport's oldest sheaf with the records it covers (07 R236). -/
def State.sealEvict (s : State) (t : Nat) : State :=
  match (s.tr t).sheaves with
  | [] => s
  | h :: rest =>
    let s1 := s.modTr t (fun x => { x with sheaves := rest, kept := x.kept.filter (fun r => h.last < r.no) })
    ({ s1 with dropSheaf := satAdd 16 s1.dropSheaf 1,
               sealUsed := s1.sealUsed - (trBytes (s.tr t) - trBytes (s1.tr t)) }).raise 0x1F 2

/-- The transport whose oldest sheaf is the oldest of the seal area. -/
def oldestSheafTr (s : State) : Option Nat :=
  (s.trs.foldl (fun (a : Option (Nat × Nat)) x => match x.2.sheaves with
    | [] => a
    | h :: _ =>
      match a with
      | none => some (x.1, h.ord)
      | some b => if h.ord < b.2 then some (x.1, h.ord) else a) none).map (·.1)

/-- Sheaves of the seal area. -/
def State.sheafCount (s : State) : Nat := s.trs.foldl (fun a x => a + x.2.sheaves.length) 0

/-- The place in the order of signing of the next sheaf. -/
def State.nextOrd (s : State) : Nat := 1 + s.trs.foldl (fun a x => x.2.sheaves.foldl (fun b h => max b h.ord) a) 0

/-- Oldest sheaves are discarded until the seal area holds what is kept, n of them at most. -/
def State.sealFit : Nat → State → State
  | 0, s => s
  | n + 1, s =>
    if s.sealUsed > sealArea then (match oldestSheafTr s with
      | some t => State.sealFit n (s.sealEvict t)
      | none => s)
    else s

/-- Account for n bytes more in the seal area. -/
def State.sealGrow (s : State) (n : Nat) : State :=
  let s1 := { s with sealUsed := s.sealUsed + n }
  let s2 := State.sealFit s1.sheafCount s1
  let high := s2.sealUsed * 10 ≥ sealArea * 9
  if high && !s2.areaHigh then ({ s2 with areaHigh := true }).raise 0x1F 1 else { s2 with areaHigh := high }

/-- A new record of a transport's chain: CHAIN(k) = SHA-384(CHAIN(k - 1), header, body). -/
def State.sealPut (s : State) (t type flags : Nat) (body : Bytes) (docNo : Nat := 0) : State :=
  let x := s.tr t
  let b := sealHeader type flags body.length t x.recNo s.cyc ++ body
  let c := sha384 (x.chain ++ b)
  (s.modTr t (fun y => { y with
    chain := c, everMade := true, recNo := y.recNo + 1,
    kept := y.kept ++ [{ no := y.recNo, bytes := b, chain := c, docNo := docNo }],
    firstAt := match y.firstAt with
      | some a => some a
      | none => some s.lnow })).sealGrow b.length

/-- The entry of a port in a STATE record (07 Table 7.7). -/
def stateEntry (p : Nat) (v : Port) : Bytes :=
  le 2 p ++ le 1 (stCode v.st) ++ le 1 (v.tree.spanState + 4 * b2n v.mir.active + 8 * b2n (v.st == .adopted && v.rls.switched)) ++
    le 2 (bankTag (v.mir.bank v.mir.active)) ++ le 8 v.tree.imageId ++ le 8 v.tree.version ++
    (v.tree.kept ++ zeros (48 - v.tree.kept.length)) ++ le 2 0

/-- STATE record (07 Table 7.6). -/
def State.stateRec (s : State) (t cause gapNo : Nat) : State :=
  let ps := s.tied t
  let no := (s.tr t).recNo
  let s1 := s.sealPut t 2 0 (le 1 cause ++ le 1 0 ++ le 2 ps.length ++ le 4 gapNo ++ ps.flatMap (fun p => stateEntry p (s.port p)))
  s1.modTr t (fun x => { x with lastState := no, eventSince := false, rootSince := false, chgSince := false, gapPend := none })

/-! ### Sheaves (07 R237, R238) -/

/-- Jobs of a class that the arbiter holds. -/
def State.queued (s : State) (cls : Nat) : Nat := (s.pkeQ.filter (fun j => j.cls == cls && !j.held)).length

/-- Queue a public-key job (10 R313); a hardware requester keeps its job while its class has no room. -/
def State.queueJob (s : State) (j : PkeJob) : State :=
  { s with pkeQ := s.pkeQ ++ [{ j with
      at_ := s.lnow, held := queueMax j.cls ≤ s.queued j.cls || s.pkeQ.any (fun x => x.cls == j.cls && x.held) }] }

/-- Queue a transport's sheaf job of a kind over its uncovered records; while one is queued or running the request waits
for the next sheaf, the one over a CLOSE record first (07 R239). -/
def State.queueSheaf (s : State) (t kind : Nat) : State :=
  let x := s.tr t
  let more := if x.wants.contains kind then x.wants else if kind = 4 ∨ kind = 6 then kind :: x.wants else x.wants ++ [kind]
  if x.job then s.modTr t (fun y => { y with wants := more })
  else if x.recNo ≤ x.signed + 1 then s
  else
    let first := x.signed + 1
    let last := x.recNo - 1
    let b := le 1 0x10 ++ le 1 kind ++ le 2 t ++ le 6 first ++ le 6 last ++ le 6 x.sheafNo ++ le 2 0 ++ le 8 s.cyc ++
      x.signedChain ++ x.chain ++ s.moduleId ++ le 4 s.epoch ++ le 4 0
    (s.modTr t (fun y => { y with
      job := true, jobAt := s.lnow, jobLate := false, jobFirst := first, jobLast := last, jobBytes := b,
      docsSince := 0, firstAt := none })).queueJob (signJob 1 (.sheaf t) 5 b)

/-- A sheaf job ended with a signature: the sheaf is kept; a trigger that came meanwhile queues the next (07 R237). -/
def State.sheafDone (s : State) (t : Nat) (sig : Bytes) : State :=
  let x := s.tr t
  if !x.job then s
  else
    let s1 := (s.modTr t (fun y => { y with
      job := false, signed := y.jobLast, signedChain := sub y.jobBytes 80 48, sheafNo := y.sheafNo + 1, wants := [],
      sheaves := y.sheaves ++ [{ no := y.sheafNo, first := y.jobFirst, last := y.jobLast, bytes := y.jobBytes ++ sig, ord := s.nextOrd }],
      recovering := false })).sealGrow 248
    let s2 := { s1 with signCnt := satAdd 32 s1.signCnt 1 }
    match x.wants with
    | k :: _ => s2.queueSheaf t k
    | [] => if (s2.tr t).docsSince ≥ s2.sheafDocs then s2.queueSheaf t 1 else s2

/-- Records made before the present module start await their recovery sheaf (07 R240). -/
def Transport.needsRec (x : Transport) : Bool := x.signed < x.recLast

/-- REASON of the next OPEN record (07 Table 7.6). -/
def Transport.openReason (x : Transport) : Nat := if x.recovered then 2 else b2n x.everMade

/-- OPEN record, then STATE with CAUSE 0 (07 R240, 17 R496). -/
def State.openChain (s : State) (t reason : Nat) : State :=
  let last := (s.tr t).sheafNo - 1
  ((s.sealPut t 1 0 (le 1 reason ++ le 6 last ++ le 1 0)).stateRec t 0 0).modTr t (fun x => { x with opened := true, recovered := false })

/-- CLOSE record and its sheaf (07 R238, R239). -/
def State.closeChain (s : State) (t reason kind : Nat) : State :=
  ((s.sealPut t 6 0 (le 1 reason)).modTr t (fun x => { x with opened := false })).queueSheaf t kind

/-- EVENT record of an unscheduled change (07 Table 7.6): the document in progress is flagged STATE_BREAK. -/
def State.eventRec (s : State) (t : Nat) (r : HReport) : State :=
  let s1 := s.sealPut t 5 0 (le 2 r.port ++ le 1 (stCode r.old) ++ le 1 (stCode r.new) ++ le 1 r.cause ++ le 1 0 ++ le 8 r.evTime)
  (s1.modTr t (fun x => { x with
    eventSince := true, doc := x.doc.map (fun d => { d with flags := d.flags ||| 1 }) })).queueSheaf t 2

/-- DOCUMENT record, SB_REPLY 0x51 to NOTIFY ports, and the count trigger (07 R232, R234, R238). -/
def State.documentRec (s : State) (t trail : Nat) (d : Doc) (extra : Nat) : State :=
  let x := s.tr t
  let body := le 6 x.docNo ++ le 6 d.lead ++ le 6 trail ++ le 8 d.leadTime ++ le 6 d.stateRef ++ le 2 d.tag ++ le 2 0
  let s1 := (s.sealPut t 3 (d.flags ||| extra) body x.docNo).modTr t (fun y => { y with
    docNo := y.docNo + 1, doc := none, docsSince := y.docsSince + 1 })
  if !x.opened then s.modTr t (fun y => { y with doc := none })
  else
  let msg := le 1 0x51 ++ le 1 0 ++ le 2 t ++ le 6 x.docNo ++ le 6 x.recNo ++ le 6 trail
  let s2 := each ((s.tied t).filter (fun p => (s.port p).notify)) (fun p u => u.sbReply p msg) s1
  if (s2.tr t).docsSince ≥ s2.sheafDocs then s2.queueSheaf t 1 else s2

/-! ### Gaps (07 R224 to R226) -/

/-- The signed distance q - p on the position axis (07 R218). -/
def posDiff (q p : Nat) : Int :=
  let d := (q + posMod - p % posMod) % posMod
  if d < 2 ^ 47 then (d : Int) else (d : Int) - (posMod : Int)

/-- GUARANTEE in hall cycles (07 R226), as an integer. -/
def guarantee (x : Transport) (t : Nat) (idle : Bool) (opn pos : Nat) : Int :=
  let l : Int := if t < 16 then 800 else 32000
  if idle then min 40000000 ((x.blk.startCounts * 800000000 / x.blk.maxRate : Nat) - l)
  else
    let d : Int := posDiff opn pos + (x.blk.gapLen : Int)
    d * 800000000 / x.blk.maxRate - l

/-- The STATE record at a gap-open, when one is due (07 Table 7.6): CAUSE 3 when an EVENT was made since the last STATE (R233). -/
def State.gapStateNow (s : State) (t no : Nat) : State :=
  let x := s.tr t
  if x.opened && (x.chgSince || x.eventSince || x.rootSince) then
    (if x.eventSince then (s.stateRec t 3 no).queueSheaf t 2
     else if x.chgSince then s.stateRec t 1 no
     else s.stateRec t 2 no)
  else s.modTr t (fun y => { y with gapPend := none })

/-- Open a gap: it takes its GAP_NO; when its guarantee is above 0 a notice goes to all four halls, else it is counted as
GAP_LATE, and its STATE record, if one is due, is made at once, since no hall applies a change in it. P is the transport's position, for a
reported transport the POSITION of its GAP_OPEN. -/
def State.openGap (s : State) (t : Nat) (idle : Bool) (opn : Nat) (p : Option Nat := none) : State :=
  let x := s.tr t
  let no := (x.gapNo + 1) % 2 ^ 32
  let g := guarantee x t idle opn (p.getD x.pos)
  let said := g > 0
  let w : Gap := { no := no, idle := idle, opn := opn, dlPos := posAdd opn (x.blk.gapLen - 1),
                   dlCyc := if idle then s.lnow + 29999999 else s.hnow + g.toNat, said := said }
  let s1 := s.modTr t (fun y =>
    if idle then { y with gapNo := no, gapPend := some no, idleGap := some w }
    else { y with gapNo := no, gapPend := some no, ahead := none, lastDl := some w.dlPos, gap := some w })
  if said then
    each [0, 1, 2, 3] (fun h u => u.modHall h (fun y => { y with
      inq := y.inq ++ [.opened ⟨t, no, idle, opn, s.cyc, g.toNat⟩] })) s1
  else
    (({ s1 with lpLate := satAdd 16 s1.lpLate 1 }).raise pgLp 2).gapStateNow t no

/-- Close the open document or idle gap for a reason; an announced gap sends the gap-close notice to the halls. -/
def State.closeGap (s : State) (t reason : Nat) (idle : Bool := false) : State :=
  match (if idle then (s.tr t).idleGap else (s.tr t).gap) with
  | none => s
  | some g =>
    let s1 := s.modTr t (fun x => if idle then { x with idleGap := none } else { x with gap := none })
    if g.said then each [0, 1, 2, 3] (fun h u => u.modHall h (fun y => { y with inq := y.inq ++ [.closed ⟨t, g.no, reason⟩] })) s1
    else s1

/-- A transport becomes FAULTED (07 R223): its open gap closes at once, the document is flagged POSITION_FAULT. -/
def State.faultTr (s : State) (t cause : Nat) : State :=
  let x := s.tr t
  if x.st = .off ∨ x.st = .faulted then s
  else
    ((s.closeGap t 3).closeGap t 3 true).modTr t (fun y => { y with
      st := .faulted, faultCause := cause, ahead := none, idleNext := none,
      doc := y.doc.map (fun d => { d with flags := d.flags ||| 4 }) })

/-- The position changes: an IDLE transport becomes MOVING and its idle gap closes (07 R223, R225). -/
def State.moveTo (s : State) (t pos : Nat) : State :=
  let x := s.tr t
  if x.pos = pos then s
  else
    (s.closeGap t 2 true).modTr t (fun y => { y with
      pos := pos, changedAt := s.lnow, st := if y.st = .idle then .moving else y.st,
      idleNext := if y.st = .idle then none else y.idleNext })

/-- A leading edge at a position (07 R224): it closes the window; at or before the deadline of the last document window,
open, ended by its guarantee or still ahead, the document is GAP_SHORT (log 92). -/
def State.leadEdge (s : State) (t pos tag : Nat) (errPage errBit : Nat) : State :=
  let x := s.tr t
  let late := match x.gap with
    | some g => posAfter pos g.dlPos
    | none => false
  let short := (match x.lastDl with
    | some d => !posAfter pos d
    | none => false) || (match x.ahead with
    | some a => !posAfter pos a.dl
    | none => false)
  let s1 := s.closeGap t (if late then 0 else 1)
  let s2 := s1.modTr t (fun y => { y with
    ahead := none, lastDl := none,
    doc := some { lead := pos, leadTime := s.cyc, flags := (if short then 8 else 0) + (if y.st = .faulted then 4 else 0),
                  stateRef := y.lastState, tag := tag } })
  s2.when short (fun u => u.raise errPage errBit)

/-- The document in progress, or one whose leading edge was not seen (its lead is the trailing edge; DESIGN CHOICE, log 14). -/
def Transport.docAt (x : Transport) (pos cyc : Nat) : Doc :=
  match x.doc with
  | some d => d
  | none => { lead := pos, leadTime := cyc, stateRef := x.lastState }

/-- A trailing edge of a hard transport: DOCUMENT record, and the window ahead (07 R224, R232). -/
def State.trailEdge (s : State) (t pos : Nat) : State :=
  let x := s.tr t
  let s1 := s.documentRec t pos (x.docAt pos s.cyc) 0
  if x.st = .faulted then s1
  else s1.modTr t (fun y => { y with
    ahead := some ⟨posAdd pos y.blk.openOfs, posAdd pos (y.blk.openOfs + y.blk.gapLen - 1)⟩ })

/-- The window ahead opens when the position reaches it. -/
def State.reachGap (s : State) (t : Nat) : State :=
  let x := s.tr t
  match x.ahead with
  | some a => if x.st == .moving && atOrAfter x.pos a.opn && x.gap.isNone then s.openGap t false a.opn else s
  | none => s

/-- The transport enters IDLE and opens an idle gap; an open document window stays open (07 R223 to R225). -/
def State.enterIdle (s : State) (t : Nat) : State :=
  (s.modTr t (fun x => { x with st := .idle, idleNext := some (s.lnow + 60000000) })).openGap t true (s.tr t).pos

/-- The STATE record of a gap is made once every hall has applied and reported its changes (07 Table 7.6, R231). -/
def State.gapState (s : State) (t : Nat) : State :=
  let x := s.tr t
  match x.gapPend with
  | none => s
  | some no =>
    let busy := [0, 1, 2, 3].any (fun h =>
      (s.hall h).notes.any (fun n => n.t == t && n.no == no) ||
      (s.hall h).reports.any (fun r => (s.port r.port).tie == some t))
    if busy then s else s.gapStateNow t no

/-- A hall receives a gap-open notice: it applies the changes bound to it, each port's in the order of Table 7.4 (07 R228,
R229). -/
def Bound.due (b : Bound) (no now : Nat) : Bool :=
  (match b.gapNo with
    | some g => g ≤ no
    | none => true) && (match b.win with
    | some w => now ≤ w.dl
    | none => true)

/-- A RELEASE or TAKEOVER member whose ATTN_DONE has not come waits for the next gap (06 R197). -/
def Port.waitsNotice (v : Port) (k : ChgKind) : Bool :=
  (match k with
    | .release => true
    | .takeover => true
    | _ => false) && (v.rls.awaitNotice || v.link.attns.any (fun a => a.cause == 0x21))

def State.applyBounds (s : State) (p no : Nat) : State :=
  let v := s.port p
  let now := s.hnow
  let take := v.bounds.filter (fun b => b.due no now && !v.waitsNotice b.kind)
  let s1 := s.modPort p (fun u => { u with bounds := u.bounds.filter (fun b => !(b.due no now && !v.waitsNotice b.kind)) })
  each [1, 2, 3, 4, 5, 6] (fun o t =>
    each (take.filter (fun b => chgOrder b.kind = o)) (fun b u => u.applyChange p b.kind true) t) s1

def State.gapOpenAt (s : State) (h : Nat) (n : GapNote) : State :=
  let s1 := s.modHall h (fun x => { x with gaps := tabSet x.gaps (gapKey n.t n.idle) { no := n.no, idle := n.idle, at_ := s.hnow, guar := n.guar } })
  let ps := (s1.portsOf h).filter (fun p => (s1.port p).tie == some n.t)
  (each ps (fun p t => t.applyBounds p n.no) s1).gapState n.t

/-- A gleaner read that started in the window of a GAP_NO. -/
def gleanIn (no : Nat) (j : VcJob) : Bool := match j.kind with
  | .glean _ _ _ win => win == some no
  | _ => false

/-- A hall receives a gap-close notice: a gleaner read still running overruns (05 R177). -/
def State.gapCloseAt (s : State) (h : Nat) (n : GapEnd) : State :=
  let s1 := s.modHall h (fun x => { x with gaps := x.gaps.filter (fun e => !(e.1 % 256 == n.t && e.2.no == n.no)) })
  let ps := (s1.portsOf h).filter (fun p => (s1.port p).tie == some n.t && (s1.port p).ring.jobs.any (gleanIn n.no) && !(s1.port p).gln.overGap)
  each ps (fun p t => ((t.modGln p (fun g => { g with overGap := true })).modHall h (fun x => { x with overrun := satAdd 32 x.overrun 1 })).raiseP
    (pgGln h) 9 p) s1

/-- A hall's report reaches the Loft (07 R231 to R233, 13 R400). -/
def State.takeReport (s : State) (r : HReport) : State :=
  if r.pwd then s.modPwd r.port (fun w => { w with resets := satAdd 16 w.resets 1 }) else
  -- R400: a reported transport's report port left service unscheduled or lost its link
  let serves := fun (x : PortState) => x == .released || x == .adopted
  let s0 := if !r.isRoot && !r.sched && (serves r.old || r.new == .absent) && !serves r.new then
      each ((s.trs.filter (fun x => x.1 ≥ 16 && x.2.blk.enabled && x.2.blk.report == r.port)).map (·.1))
        (fun t u =>
          let x := u.tr t
          let u1 := match x.doc with
            | some d => u.documentRec t x.lastPos d 32
            | none => u
          u1.modTr t (fun y => { y with orderPos := none, afterTrail := false, doc := none })) s
    else s
  match (s0.port r.port).tie with
  | none => s0
  | some t =>
    if !(s0.tr t).opened then s0
    else if r.isRoot then
      (s0.modTr t (fun x => { x with
        rootSince := true, doc := x.doc.map (fun d => { d with flags := d.flags ||| 2 }) })).gapState t
    else if r.sched then
      (s0.modTr t (fun x => { x with
        chgSince := true,
        doc := if (match r.gap with
          | some g => g.2
          | none => false) then x.doc.map (fun d => { d with flags := d.flags ||| 1 }) else x.doc })).gapState t
    else (s0.eventRec t r).gapState t

/-! ### Reported positions (07 R221, R222) -/

structure PosReport where
  kind  : Nat
  flags : Nat
  tag   : Nat
  pos   : Nat
  aux   : Nat

def parseReport (b : Bytes) (k : Nat) : PosReport :=
  let o := 4 + 16 * k
  ⟨num b o 1, num b (o + 1) 1, num b (o + 2) 2, num b (o + 4) 6, num b (o + 10) 6⟩

/-- The order rules of R222 for one report. -/
def reportOk (x : Transport) (r : PosReport) : Bool :=
  if r.kind = 1 then true
  else if r.kind < 1 ∨ r.kind > 4 then false
  else
    let mono := match x.orderPos with
      | some q => atOrAfter r.pos q
      | none => true
    !bit r.flags 1 && mono &&
    (if r.kind = 2 then x.doc.isNone
     else if r.kind = 3 then (match x.doc with
       | some d => r.aux == d.lead
       | none => false)
     else x.doc.isNone && x.afterTrail && atOrAfter r.aux x.lastTrail && atOrAfter r.pos r.aux)

/-- An accepted report (07 R222, R224): a POS sets the position; an edge that lies behind it does not take it back (log 92). -/
def State.takePos (s : State) (t : Nat) (r : PosReport) : State :=
  let x0 := s.tr t
  let s0 := if (match x0.gap with
      | some g => posAfter r.pos g.dlPos && r.kind ≠ 4
      | none => false) then s.closeGap t 0 else s
  let s1 := (if r.kind = 1 ∨ atOrAfter r.pos x0.pos = true then s0.moveTo t r.pos else s0).modTr t (fun x => { x with lastPos := r.pos })
  if r.kind = 1 then
    s1.modTr t (fun x => { x with
      doc := if bit r.flags 1 then x.doc.map (fun d => { d with flags := d.flags ||| 16 }) else x.doc })
  else
    let s2 := s1.modTr t (fun x => { x with orderPos := some r.pos })
    if r.kind = 2 then (s2.leadEdge t r.pos r.tag pgLp 4).modTr t (fun x => { x with afterTrail := false })
    else if r.kind = 3 then
      (s2.documentRec t r.pos { (x0.docAt r.pos s.cyc) with tag := r.tag } 0).modTr t (fun x => { x with
        afterTrail := true, lastTrail := r.pos })
    else
      let s3 := s2.modTr t (fun x => { x with afterTrail := false })
      if (s3.tr t).st = .moving then (s3.closeGap t 0).openGap t false r.aux (some r.pos) else s3

/-- The reports of one message in order; one that breaks a rule faults the transport and refuses the rest. -/
def takeReports (t : Nat) : List PosReport → State → State
  | [], s => s
  | r :: rest, s =>
    if reportOk (s.tr t) r then takeReports t rest (s.takePos t r)
    else (s.raise pgLp 1).faultTr t 5

end Sys2Proof.Machine
end

