-- ==== Sys2Proof/Machine/GranOps.lean ====
section
/-! DEFINITION. The granary: derivation, key slots, the use checks, stale keys, key operations and their journal, the epoch and
its certificate, attestation reports (09). -/

namespace Sys2Proof.Machine

def State.modGran (s : State) (f : Granary → Granary) : State := { s with gran := f s.gran }
def pgGran : Nat := 0x14
def pgAtt : Nat := 0x21

/-! ### Derivation (09 R280, R282) -/

def ascii (s : String) : Bytes := s.toList.map (fun c => BitVec.ofNat 8 c.toNat)

/-- The KDF in counter mode with HMAC-SHA-384 (09 R280): the first l bits. -/
def kdf (key : Bytes) (label : String) (ctx : Bytes) (l : Nat) : Bytes :=
  (((List.range (ceilDiv l 384)).map (fun i =>
    hmacSha384 key (beBytes 4 (i + 1) ++ ascii label ++ [0] ++ ctx ++ beBytes 4 l))).flatten).take (l / 8)

/-- A P-384 private scalar from 448 derived bits (09 R280). -/
def p384scalar (c : Bytes) : Bytes := beBytes 48 (beNat c % (p384n - 1) + 1)

/-! ### Slots (09 R283 to R289) -/

def State.slot (s : State) (k : Nat) : KeySlot := tabGet {} s.gran.slots k
def State.setSlot (s : State) (k : Nat) (v : KeySlot) : State := s.modGran (fun g => { g with slots := tabSet g.slots k v })

/-- The attribute word (09 Table 9.3); of an empty slot it shows GEN alone, as its register does at reset (09 Table 9.12, log 84). -/
def KeySlot.attr (v : KeySlot) : Nat :=
  if v.alg = 0 then v.gen * 2 ^ 32 else
  v.alg + v.usage * 16 + b2n v.persist * 2 ^ 12 + b2n v.fixed * 2 ^ 13 + b2n v.stale * 2 ^ 14 + b2n v.rederiv * 2 ^ 15 +
    v.parent * 2 ^ 16 + v.gen * 2 ^ 32 + v.pgen * 2 ^ 48

/-- The slots of the granary (09 R283): no chain of parents is longer. -/
def keySlots : Nat := 256

/-- Check 2 of Table 9.4: the slot and every ancestor are filled, current and not being derived again. -/
def chainOk (t : Tab KeySlot) : Nat → Nat → Bool
  | 0, _ => false
  | n + 1, k =>
    let v := tabGet ({} : KeySlot) t k
    v.alg ≠ 0 && !v.stale && !v.rederiv &&
      (v.parent == 0xFF || ((tabGet ({} : KeySlot) t v.parent).gen == v.pgen && chainOk t n v.parent))

/-- a is an ancestor of k. -/
def isAncestor (t : Tab KeySlot) (a : Nat) : Nat → Nat → Bool
  | 0, _ => false
  | n + 1, k =>
    let v := tabGet ({} : KeySlot) t k
    v.alg ≠ 0 && v.parent ≠ 0xFF && (v.parent == a || isAncestor t a n v.parent)

/-- The slot that an attribute word and a key describe. -/
def slotOf (attr : Nat) (key : Bytes) (limit : Nat) : KeySlot :=
  { alg := bits attr 3 0, usage := bits attr 9 4, persist := bit attr 12, fixed := bit attr 13, stale := bit attr 14, rederiv := bit attr 15,
    parent := bits attr 23 16, gen := bits attr 47 32, pgen := bits attr 63 48, limit := limit, key := key }

/-- The usage bits: attribute bits 4 to 9. -/
inductive KeyUse where
  | derive
  | sign
  | mac
  | cipher
  | ecdh
  | wrap
  deriving DecidableEq, Repr

def KeyUse.num : KeyUse → Nat
  | .derive => 0
  | .sign => 1
  | .mac => 2
  | .cipher => 3
  | .ecdh => 4
  | .wrap => 5

/-- The use checks of Table 9.4: own is a function of the Loft itself, otherwise the warden asks. -/
def State.useCode (s : State) (k : Nat) (u : KeyUse) (own : Bool) (alg : Option Nat := none) : Nat :=
  let v := s.slot k
  if v.alg = 0 then 1
  else if !chainOk s.gran.slots keySlots k then 2
  else if v.limit ≠ 0 ∧ v.uses ≥ v.limit then 3
  else if !bit v.usage u.num || (match alg with
    | some a => a != v.alg
    | none => false) then 4
  else if (!own && (k = 3 || k = 5 || k = 6)) || (own && 32 ≤ k) then 5
  else 0

/-- A KEY_STALE failure is counted (09 R302). -/
def State.staleUse (s : State) : State := (s.modGran (fun g => { g with staleCnt := satAdd 16 g.staleCnt 1 })).raise pgGran 0

/-- A use of slot k by the Loft's own functions fails check 2: counted as KEY_STALE where the slot is not empty. -/
def State.staleOf (s : State) (k : Nat) : State := if (s.slot k).alg ≠ 0 && !chainOk s.gran.slots keySlots k then s.staleUse else s

/-- A use of a slot (09 R285): admitted and counted, or failed with its code. -/
def State.useKey (s : State) (k : Nat) (u : KeyUse) (own : Bool) (alg : Option Nat := none) : Nat × State :=
  let c := s.useCode k u own alg
  if c = 0 then (0, s.countUse k)
  else if c = 2 then (2, s.staleUse)
  else if c = 3 then (3, (s.modGran (fun g => { g with exhCnt := satAdd 16 g.exhCnt 1 })).raise pgGran 1)
  else (c, s)

/-- An invalidation of slot k (09 R287): running jobs whose key descends from it are tagged; it takes effect at the end of the cycle, so
that the next use is admitted in a later one. A persistent WARDEN slot that descends from it is stale in the key store too (09 R288). -/
def State.invalidated (s : State) (k : Nat) : State :=
  { s with
    kstore := s.kstore.map (fun e => if 32 ≤ e.1 && isAncestor s.gran.slots k keySlots e.1 then (e.1, { e.2 with stale := true }) else e)
    gran := { s.gran with nextUse := max s.gran.nextUse (s.lnow + 1) }
    engines := s.engines.map (fun e => (e.1, match e.2.job with
      | some j => if isAncestor s.gran.slots k keySlots j.keySlot then { e.2 with stale := true } else e.2
      | none => e.2)) }

def nextGen (g : Nat) : Nat := if g = 0 then 1 else (g + 1) % 2 ^ 16

/-- Fill a slot (a rewrite under R287). -/
def State.fillSlot (s : State) (k alg usage : Nat) (persist fixed : Bool) (parent : Nat) (key : Bytes) (limit : Nat := 0) :
    State :=
  (s.invalidated k).setSlot k { alg := alg, usage := usage, persist := persist, fixed := fixed, parent := parent,
                                gen := nextGen (s.slot k).gen, pgen := if parent = 0xFF then 0 else (s.slot parent).gen,
                                key := key, limit := limit }

/-- Empty a slot; its GEN advances. -/
def State.clearSlot (s : State) (k : Nat) : State :=
  (s.invalidated k).setSlot k { gen := nextGen (s.slot k).gen, fixed := (s.slot k).fixed }

/-! ### Fixed keys (09 R282, R286) -/

/-- EPOCH_BASE, SEAL and QUOTE of the current epoch (09 Table 9.1). -/
def State.deriveEpoch (s : State) (rederiv : Bool) : State :=
  let id := s.moduleId
  let base := kdf (s.slot 0).key "SKW-EPOCH" (id ++ le 4 s.epoch) 384
  let s1 := s.fillSlot 4 12 1 false true 0 base
  let s2 := s1.fillSlot 5 5 2 false true 4 (p384scalar (kdf base "SKW-SEAL" id 448))
  let s3 := s2.fillSlot 6 5 2 false true 4 (p384scalar (kdf base "SKW-QUOTE" id 448))
  let s4 := (s3.setSlot 5 { s3.slot 5 with rederiv := rederiv }).setSlot 6 { s3.slot 6 with rederiv := rederiv }
  ((s4.countUse 0).countUse 4).countUse 4

/-- A KEYGEN job that computes the public key of a fixed slot. -/
def State.pubJob (s : State) (k : Nat) : State :=
  s.queueJob (publicJob (.keygen k) k)

/-! ### The key journal (09 R293 to R295) -/

/-- A part of a record's body: bytes, and a key to be wrapped after them with its nonce. -/
structure KPart where
  plain : Bytes
  wrap  : Option (Bytes × Bytes) := none

/-- The bytes that a body of parts has. -/
def partsLen (l : List KPart) : Nat := l.foldl (fun a x => a + x.plain.length + (match x.wrap with
  | some w => w.2.length + 16
  | none => 0)) 0

/-- A body with its keys wrapped under KWK: AES-256-GCM, the additional data the header and the body bytes before the ciphertext (09 R294). -/
def wrapParts (kwk hdr : Bytes) (l : List KPart) : Bytes :=
  l.foldl (fun b x =>
    let b1 := b ++ x.plain
    match x.wrap with
    | some w => b1 ++ gcmSeal kwk w.1 (hdr ++ b1) w.2
    | none => b1) []

/-- One record of the key journal; its MAC is a use of LEDGER, each wrapping a use of KWK (09 R285, R294). -/
def State.kput1 (s : State) (type : Nat) (parts : List KPart) : State :=
  let body := wrapParts (s.slot 1).key (kHeader type s.gran.opNo s.kRecNo s.cyc (partsLen parts)) parts
  let r : KRec := { type := type, op := s.gran.opNo, no := s.kRecNo, time := s.cyc, body := body }
  let s1 : State := { s with kjournal := s.kjournal ++ [{ r with mac := r.macUnder (s.slot 2).key }], kRecNo := s.kRecNo + 1 }
  each (parts.filter (fun x => x.wrap.any (fun w => w.2 ≠ []))) (fun _ t => t.countUse 1) (s1.countUse 2)

/-- The body of a PREPARE record (09 Table 9.5). -/
def prepPart (op slot port attr limit epoch : Nat) (nonce key : Bytes) : KPart :=
  { plain := le 1 op ++ le 1 slot ++ le 2 port ++ le 8 attr ++ le 4 limit ++ le 4 epoch ++ nonce ++ le 2 key.length, wrap := some (nonce, key) }

/-- A SNAPSHOT: an entry per persistent key and tap secret in force (09 Table 9.5); each nonce is a draw. -/
def State.snapshotParts (s : State) : List KPart × State :=
  let keys := s.kstore.map (fun e => (1, e.1, 0xFFFF, e.2.attr, e.2.limit, e.2.key))
  let taps := s.ports.flatMap (fun e =>
    (e.2.key.current.map (fun k => (4, 0, e.1, 0, 0, k))).toList ++ (e.2.key.pending.map (fun k => (4, 128, e.1, 0, 0, k))).toList)
  let all := keys ++ taps
  let r := all.foldl (fun a x =>
    let d := a.2.draw 12
    (a.1 ++ [prepPart x.1 x.2.1 x.2.2.1 x.2.2.2.1 x.2.2.2.2.1 s.epoch d.1 x.2.2.2.2.2], d.2)) (([] : List KPart), s)
  ({ plain := le 2 all.length } :: r.1, r.2)

/-- Place a record; every 4,096 records a SNAPSHOT follows, and older records but CERT are reclaimed. -/
def State.kput (s : State) (type : Nat) (parts : List KPart) : State :=
  let s1 := s.kput1 type parts
  if s1.kRecNo % 4096 = 0 then
    let snap := s1.snapshotParts.2.kput1 0x64 s1.snapshotParts.1
    { snap with kjournal := snap.kjournal.filter (fun r => r.type == 0x65 || snap.kRecNo - 1 ≤ r.no) }
  else s1

/-- PREPARE of a key operation: it takes the next OP_NO. -/
def State.prepare (s : State) (op slot port attr limit : Nat) (key : Bytes) : State :=
  let s1 := s.modGran (fun g => { g with opNo := g.opNo + 1, lastOp := op })
  let (nonce, s2) := s1.draw 12
  s2.kput 0x61 [prepPart op slot port attr limit s.epoch nonce key]

/-- COMMIT of the open operation. -/
def State.commitOp (s : State) (op : Nat) (rolled : Bool := false) : State :=
  (s.kput 0x62 [{ plain := le 1 op ++ le 1 (b2n rolled) }]).modGran (fun g => { g with opOpen := none, lastOut := if rolled then 3 else 1 })

/-- ABORT of the open operation with a code. -/
def State.abortOp (s : State) (op code : Nat) : State :=
  (s.kput 0x63 [{ plain := le 1 op ++ le 1 code }]).modGran (fun g => { g with opOpen := none, lastOut := 2 })

/-! ### Replay of the key journal (09 R295) -/

/-- What replay has found: the key store, the tap secrets (CURRENT, PENDING) by port, the open operation (OP, its PREPARE). -/
structure KReplay where
  keys : Tab KeySlot := []
  taps : Tab (Option Bytes × Option Bytes) := []
  open_ : Option (Nat × Nat × Nat × Nat × KeySlot) := none

/-- The fields of a PREPARE body at offset o: OP, slot, port, epoch before, the slot's content, and the offset after it. -/
def prepAt (kwk : Bytes) (r : KRec) (o : Nat) : (Nat × Nat × Nat × Nat × KeySlot) × Nat :=
  let b := r.body
  let k := num b (o + 32) 2
  let key := (gcmOpen kwk (sub b (o + 20) 12) (r.header ++ b.take (o + 34)) (sub b (o + 34) (k + 16))).getD []
  ((num b o 1, num b (o + 1) 1, num b (o + 2) 2, num b (o + 16) 4, slotOf (num b (o + 4) 8) key (num b (o + 12) 4)), o + 50 + k)

def KReplay.tap (x : KReplay) (p : Nat) : Option Bytes × Option Bytes := tabGet (none, none) x.taps p

/-- A committed operation takes effect. -/
def KReplay.apply (x : KReplay) (f : Nat × Nat × Nat × Nat × KeySlot) : KReplay :=
  let (op, slot, port, _, v) := f
  match op with
  | 1 => { x with keys := tabSet x.keys slot v }
  | 2 => { x with keys := tabDel x.keys slot }
  | 4 => { x with taps := tabSet x.taps port ((x.tap port).1, some v.key) }
  | 5 => { x with taps := tabSet x.taps port ((x.tap port).2, none) }
  | 6 => { x with taps := tabDel x.taps port }
  | _ => x

/-- The entries of a SNAPSHOT: keys, and secrets that are PENDING by bit 7 of byte 1, else CURRENT. -/
def snapEntries (kwk : Bytes) (r : KRec) : Nat → Nat → KReplay → KReplay
  | 0, _, x => x
  | n + 1, o, x =>
    let f := prepAt kwk r o
    let (op, slot, port, _, v) := f.1
    let y := if op = 1 then { x with keys := tabSet x.keys slot v }
      else if bit slot 7 then { x with taps := tabSet x.taps port ((x.tap port).1, some v.key) }
      else { x with taps := tabSet x.taps port (some v.key, (x.tap port).2) }
    snapEntries kwk r n f.2 y

/-- A record in its turn. -/
def KReplay.record (kwk : Bytes) (x : KReplay) (r : KRec) : KReplay :=
  if r.type = 0x61 then { x with open_ := some (prepAt kwk r 0).1 }
  else if r.type = 0x62 then (match x.open_ with
    | some f => { x.apply f with open_ := none }
    | none => x)
  else if r.type = 0x63 then { x with open_ := none }
  else if r.type = 0x64 then snapEntries kwk r (num r.body 0 2) 2 {}
  else x

/-- A record's MAC holds. -/
def KRec.valid (r : KRec) (ledger : Bytes) : Bool := r.mac == r.macUnder ledger

/-- The records from the latest valid SNAPSHOT on. -/
def fromSnapshot (ledger : Bytes) (l : List KRec) : List KRec :=
  match (l.zipIdx.filter (fun x => x.1.type == 0x64 && x.1.valid ledger)).getLast? with
  | some x => l.drop x.2
  | none => l

/-- Replay (09 R295): a record whose MAC fails is ignored with every record after it; an open EPOCH_ROLL is kept for Table 9.6, any other
open operation is aborted with 0xFE. -/
def State.kReplayed (s : State) : State :=
  let kwk := (s.slot 1).key
  let led := (s.slot 2).key
  let l := fromSnapshot led s.kjournal
  let good := l.takeWhile (fun r => r.valid led)
  let bad := good.length < l.length
  let x := good.foldl (fun a r => KReplay.record kwk a r) {}
  let certs := s.kjournal.filter (fun r => r.type == 0x65 && r.valid led)
  let s1 : State := { s with
    kstore := x.keys
    certs := certs.foldl (fun a r => tabSet a (num r.body 4 4) r.body) []
    kjournal := if bad then s.kjournal.take (s.kjournal.length - (l.length - good.length)) else s.kjournal
    kOpen := match x.open_ with
      | some (3, _, _, before, _) => some before
      | _ => none }
  let s2 := each (s1.ports.map (·.1)) (fun p t => t.modKey p (fun k => { k with current := (x.tap p).1, pending := (x.tap p).2 })) s1
  let s3 := s2.when bad (fun t => t.raise pgGran 3)
  match x.open_ with
  | some (op, _) => if op = 3 then s3 else (s3.abortOp op 0xFE).raise pgGran 2
  | none => s3

/-- Fill slots 0 to 11 and the persistent WARDEN slots after the root secret is known (09 R286); a WARDEN slot
that was stale stays so (09 R288); without a certificate of the
epoch CERT_MISSING is set (09 R298, R303). -/
def State.granFill (s : State) (root : Bytes) : State :=
  let id := s.moduleId
  let s0 := { s with gran := { opNo := s.gran.opNo, lastOut := s.gran.lastOut, lastOp := s.gran.lastOp } }
  let s1 := s0.fillSlot 0 12 1 false true 0xFF root
  let s2 := s1.fillSlot 1 1 32 false true 0 (kdf root "SKW-KWK" id 256)
  let led := kdf root "SKW-LEDGER" id 384
  let s3 := s2.fillSlot 2 2 4 false true 0 led
  let s4 := s3.fillSlot 3 5 2 false true 0 (p384scalar (kdf root "SKW-DEVID" id 448))
  let s5 := ({ ((((s4.countUse 0).countUse 0).countUse 0).deriveEpoch false) with ledgerKey := led } : State).kReplayed
  let s6 := s5.kstore.foldl (fun t e => t.setSlot e.1 { e.2 with
    gen := 1, uses := 0,
    pgen := if e.2.parent = 0xFF then 0 else if (tabFind s5.kstore e.2.parent).isSome then 1 else (t.slot e.2.parent).gen }) s5
  let due := (tabFind s6.certs s6.epoch).isNone
  (((s6.modGran (fun g => { g with ready := true, certDue := due, fresh := [] })).when due (fun t => t.raise pgAtt 1)).pubJob 3).pubJob
    5 |>.pubJob 6

/-- A key operation may not start: BUSY while one is open, STATE in SHUTTER or while the reserve is not READY (09 R293,
15 R453). -/
def State.keyOpBar (s : State) : Nat :=
  if s.modState = .shutter ∨ !s.pwr.ready then 8 else if s.gran.opOpen.isSome then 6 else 0

/-- A tap secret change reaches the hall's pairing key store in the cycle of its COMMIT (09 R292). -/
def State.pksSync (s : State) (p : Nat) : State :=
  if (s.hall (hallOf p)).pksFilled then s.modKey p (fun k => { k with pksCur := k.current, pksPend := k.pending }) else s

/-- TAP_PROMOTE of a port with a PENDING secret (09 R291). -/
def State.promote (s : State) (p : Nat) : State :=
  let pend := (s.port p).key.pending
  let s1 := s.prepare 5 0 p 0 0 (pend.getD [])
  let s2 := (s1.modKey p (fun k => { k with current := pend, pending := none })).pksSync p
  (s2.commitOp 5).modLink p (fun l => { l with newMatch := false })

/-- Promotions that the Loft starts run when no operation is open (09 R291); one whose PENDING secret is gone places no COMMIT, and its port
waits in PAIRING. -/
def State.runPromotes (s : State) : State :=
  if s.keyOpBar ≠ 0 ∨ s.gran.promotes = [] then s
  else each s.gran.promotes (fun p t => if (t.port p).key.pending.isSome then t.promote p
      else t.modLink p (fun l => { l with newMatch := false }))
    (s.modGran (fun g => { g with promotes := [] }))

/-! ### The certificate (09 R297, R298, Table 9.9) -/

def State.certBody (s : State) : Bytes :=
  le 1 0x32 ++ zeros 3 ++ le 4 s.epoch ++ s.moduleId ++ tabGet (zeros 97) s.gran.pubs 5 ++ tabGet (zeros 97) s.gran.pubs 6 ++
    zeros 6 ++ le 8 s.cyc

/-- The DEVID signature job over the epoch certificate, once both public keys are known and the warden has started. -/
def State.certStep (s : State) : State :=
  if s.gran.certDue && s.gran.fresh.contains 5 && s.gran.fresh.contains 6 &&
     (s.loft.landA == 1 || s.loft.landB == 1 || s.gran.rolling) &&
     !s.pkeQ.any (fun j => match j.tag with
       | .cert _ => true
       | _ => false) then
    (s.modGran (fun g => { g with certDue := false })).queueJob (signJob 3 (.cert s.certBody) 3 s.certBody)
  else s

/-- The body of a KEY_OP response (09 Table 9.10). -/
def State.keyResp (s : State) (code : Nat) (stale : Bool := false) : Bytes :=
  le 1 code ++ le 1 (b2n stale) ++ le 4 s.gran.opNo ++ le 4 s.epoch

/-- The epoch bit of a roll reads back (09 R297): COMMIT, EPOCH_BASE rewritten, SEAL and QUOTE derived again. -/
def State.rollCommit (s : State) (rolled : Bool) : State :=
  let s1 := { (s.commitOp 3 rolled) with kOpen := none }
  let s2 := s1.deriveEpoch true
  ((s2.modGran (fun g => { g with certDue := true, rolling := true, fresh := g.fresh.filter (· = 3) })).pubJob 5).pubJob 6

/-! ### Attestation (09 R299, R303) -/

/-- A report of Table 9.8. -/
def State.report9 (s : State) (type : Nat) (chal : Bytes) (first n : Nat) : Bytes :=
  le 1 type ++ le 1 (modCode s.modState) ++ le 2 n ++ le 4 s.epoch ++ s.moduleId ++ chal ++ le 8 s.cyc ++ le 2 first ++ le 2 0 ++
    le 8 s.loft.wdnId ++ le 8 s.loft.wdnVer ++ le 4 s.retained.serial ++
    (List.range n).flatMap (fun i => stateEntry (first + i) (s.port (first + i)))

/-- A refused attestation request (09 R303). -/
def State.attRefused (s : State) : State :=
  { s with att := { s.att with refused := satAdd 16 s.att.refused 1 } }.raise pgAtt 0

end Sys2Proof.Machine
end

