-- ==== Sys2Proof/Machine/PkeOps.lean ====
section
/-! DEFINITION. The public-key engines: arbitration and abort (10 R313, R322 to R328). -/

namespace Sys2Proof.Machine

def State.eng (s : State) (e : Nat) : Engine := tabGet {} s.engines e
def State.modEng (s : State) (e : Nat) (f : Engine → Engine) : State := { s with engines := tabSet s.engines e (f (s.eng e)) }

/-! ### Queues and arbitration (01 R35, 10 R313, R326) -/

/-- The first n held jobs of a class enter the arbiter. -/
def enterHeld (cls now : Nat) : Nat → List PkeJob → List PkeJob
  | _, [] => []
  | 0, l => l
  | n + 1, j :: l =>
    if j.held && j.cls == cls then { j with held := false, at_ := now } :: enterHeld cls now n l else j :: enterHeld cls now (n + 1) l

/-- Held jobs enter the classes that have room (10 R313). -/
def State.admitHeld (s : State) : State :=
  if s.pkeQ.any (fun j => j.held) then
    each [1, 2, 3, 4] (fun c t => { t with pkeQ := enterHeld c t.lnow (queueMax c - t.queued c) t.pkeQ }) s
  else s

/-- Long jobs in LOAD to WIPE. -/
def State.longRunning (s : State) : Nat := (s.engines.filter (fun e => match e.2.job with
  | some j => j.long
  | none => false)).length

/-- A job queued for more than 200 ms is aged. -/
def PkeJob.aged (j : PkeJob) (now : Nat) : Bool := j.at_ + 120000000 < now

/-- The first of two jobs in grant order; the queue is in order of submission. -/
def jobBefore (now : Nat) (a b : PkeJob) : Bool :=
  if a.aged now then true else if b.aged now then false else a.cls ≤ b.cls

/-- The job that engine e takes next, by its place in the queue. -/
def State.nextJob (s : State) (e : Nat) : Option (Nat × PkeJob) :=
  let now := s.lnow
  let ok := fun (x : PkeJob × Nat) => !x.1.held && (x.1.pin == none || x.1.pin == some e) && x.1.avoid != some e &&
    (!x.1.long || s.longRunning < 2)
  (s.pkeQ.zipIdx.filter ok).foldl (fun a x => match a with
    | none => some (x.2, x.1)
    | some y => if jobBefore now y.2 x.1 then some y else some (x.2, x.1)) none

/-- An engine that may take a job, once its freeAt has come. -/
def Engine.free (g : Engine) : Bool := g.enable && g.job.isNone && g.zeroing.isNone && !g.kat

/-- A queued job leaves the queue; a full UPDATE queue that gets room tells the warden (10 R313). -/
def State.dequeue (s : State) (i : Nat) : State := { s with pkeQ := s.pkeQ.eraseIdx i }

/-- The use that a job makes of its key slot (log 33 for KEYGEN). -/
def PkeJob.use (j : PkeJob) : KeyUse :=
  if j.cmd = 4 then .ecdh else if j.cmd = 3 ∧ (j.alg = 9 ∨ j.alg = 10) then .ecdh else .sign

def PkeJob.own (j : PkeJob) : Bool := match j.tag with
  | .warden _ => false
  | _ => true

/-! ### Results (10 R318, R321, R322) -/

/-- A descriptor of the warden receives RESULT, STATUS and ENGINE (10 Table 10.3). -/
def State.writeDesc (s : State) (j : PkeJob) (res engine : Nat) (stale : Bool) : State :=
  match j.tag with
  | .warden a => { s with descs := tabSet s.descs a (res, 1 + 2 * b2n stale, engine) }
  | _ => s

/-- An aborted or reset job's engine zeroes its memory (10 R323). -/
def State.abortEngine (s : State) (e res : Nat) : State :=
  s.modEng e (fun g => { g with zeroing := some (res, s.lnow + 2047) })

/-- A PINNED job for a disabled engine ends DROPPED (10 R327). -/
def State.dropPinned (s : State) (e : Nat) : State :=
  let gone := s.pkeQ.filter (fun j => j.pin == some e)
  each gone (fun j t => t.writeDesc j 24 0xFF false) { s with pkeQ := s.pkeQ.filter (fun j => j.pin != some e) }

/-- UPDATE had been full and has room: IRQ_STAT [1] of every page that was refused FULL (10 R313). -/
def State.queueSpace (s0 : State) : State :=
  let s := s0.admitHeld
  if s.queued 3 < 64 then
    each (s.engines.filter (fun e => e.2.wantRoom)) (fun e t => (t.modEng e.1 (fun g => { g with wantRoom := false })).irq (pgPke e.1) 1) s
  else s

/-! ### CHECK and RELEASE (10 R312, R315, R318, R321) -/

/-- Verify-before-release runs on every operation but VERIFY (Table 10.6). -/
def PkeJob.checked (j : PkeJob) : Bool := j.cmd ≠ 2

/-- DEST_SLOT takes the new key in the cycle of RELEASE (R312); a persistent key that it held leaves the key journal by a key operation of
OP CLEAR (09 R293). -/
def State.fillDest (s : State) (j : PkeJob) (secret : Bytes) : State :=
  if j.dest = 0xFF then s
  else
    let s := if (s.slot j.dest).persist then
        ({ s.prepare 2 j.dest 0xFFFF (s.slot j.dest).attr 0 [] with kstore := tabDel s.kstore j.dest }).commitOp 2
      else s
    s.fillSlot j.dest (if j.cmd = 4 then 12 else j.alg) j.usage false (j.dest < 32) (if j.cmd = 4 then j.keySlot else 0xFF) secret

/-- RELEASE: DEST_SLOT and, for the warden, the output block take what the operation made (R306, R309). -/
def State.release10 (s : State) (j : PkeJob) (o : PkeOut) : State :=
  let s1 := s.fillDest j o.secret
  if j.own ∨ o.outs = [] then s1 else { s1 with outBlocks := tabSet s1.outBlocks j.outAddr (j.outBlock o.outs) }

/-- The result is that of a failed validation: COMPUTE, CHECK and RELEASE do not run (R316). -/
def PkeOut.invalid (o : PkeOut) : Bool := o.code == 17 || o.code == 18 || o.code == 19

/-- An uncorrectable word of the operand memory: the job ends FAULT, its memory is zeroed (R321). -/
def State.opmemUnc (s : State) (e : Nat) (inj dry : Bool) : State :=
  (s.raiseE { page := pgPke e, bit := 2, inj := inj, dry := dry }).abortEngine e 21

/-- An armed injection on the operand memory acts on the job that runs (13 Table 13.16): a word corrected and counted, or uncorrectable. -/
def State.opmemRead (s : State) (e : Nat) : State :=
  let pg := pgPke e
  let dry := (s.hdr pg).injDry
  let m := s.injection pg 0 none
  if m = 0 then s
  else if m = 1 then (s.disarm pg).modEng e (fun g => { g with corr := satAdd 32 g.corr 1 })
  else (s.disarm pg).opmemUnc e true dry

/-- CHECK of a validated job and, when it passes, RELEASE; bad: the checking datapath found a difference (R318). An armed injection on
the compare makes one. -/
def State.pkeCheck (s : State) (e : Nat) (bad : Bool) : State :=
  let g := s.eng e
  match g.job with
  | none => s
  | some j =>
    let o := g.outcome j
    if g.released.isSome || g.zeroing.isSome || o.invalid then s
    else
      let pg := pgPke e
      let inj := s.injection pg 1 none ≠ 0 && j.checked && o.code == 0
      let fails := o.code == 21 || inj || (bad && j.checked && o.code == 0)
      let dry := (s.hdr pg).injDry
      if fails then
        ((s.when inj (fun t => t.disarm pg)).modEng e (fun y => { y with released := some false })).raiseE
          { page := pg, bit := 1, inj := inj, dry := dry }
      else if o.code = 0 then (s.modEng e (fun y => { y with released := some true })).release10 j o
      else s

/-- Jobs whose RELEASE has come. -/
def State.pkeMonitor (s : State) : State :=
  each [0, 1, 2, 3, 4, 5, 6, 7] (fun e t => match (t.eng e).job with
    | some j => t.when ((t.eng e).released.isNone && (t.eng e).releaseAt j ≤ t.lnow) (fun u => (u.opmemRead e).pkeCheck e false)
    | none => t) s

/-- On entry to SHUTTER jobs of other classes than SEAL are dropped or aborted (07 R239). -/
def State.shutterJobs (s : State) : State :=
  let gone := s.pkeQ.filter (fun j => j.cls ≠ 1)
  let s1 := each gone (fun j t => t.writeDesc j 24 0xFF false) { s with pkeQ := s.pkeQ.filter (fun j => j.cls == 1) }
  each (s1.engines.filter (fun e => match e.2.job with
      | some j => j.cls ≠ 1
      | none => false)) (fun e t => t.abortEngine e.1 22) s1

end Sys2Proof.Machine
end

