-- ==== Sys2Proof/Machine/UpdOps.lean ====
section
/-! DEFINITION. The barn's staging area, manifests and their checks, guarded and warden activations, reverts and the update log
(08). -/

namespace Sys2Proof.Machine

def State.modAct (s : State) (f : Act → Act) : State := { s with act := f s.act }
def pgBarn : Nat := 0x20

/-! ### Staged images (08 R246 to R249) -/

def State.image (s : State) (k : Nat) : Option Image := tabFind s.images k
def State.modImage (s : State) (k : Nat) (f : Image → Image) : State :=
  { s with images := s.images.map (fun e => if e.1 = k then (k, f e.2) else e) }
def Image.blockCount (g : Image) : Nat := ceilDiv g.length 4096
def Image.blockLen (g : Image) (b : Nat) : Nat := min 4096 (g.length - b * 4096)
/-- A leaf of the image, the last one padded with 0xFF (08 R249). -/
def Image.leaf (g : Image) (i : Nat) : Bytes := let b := tabGet [] g.blocks i; b ++ List.replicate (4096 - b.length) 0xFF
def Image.bytes (g : Image) : Bytes := (List.range g.blockCount).flatMap (fun i => tabGet [] g.blocks i)
def Image.firstMissing (g : Image) : Nat :=
  ((List.range g.blockCount).find? (fun i => (tabFind g.blocks i).isNone)).getD 0xFFFFFFFF

/-- The staged image of an identity. -/
def State.findImage (s : State) (kind id ver : Nat) : Option (Nat × Image) :=
  s.images.find? (fun e => e.2.kind == kind && e.2.imageId == id && e.2.version == ver)

def stagingArea : Nat := 112 * 2 ^ 30

/-- Staging blocks of 64 KiB and the room for an image's tree. -/
def imageSpace (len : Nat) : Nat := ceilDiv len 65536 * 65536 + ceilDiv len 4096 * 52 + 4096

def State.stagingUsed (s : State) : Nat :=
  s.images.foldl (fun a e => a + imageSpace e.2.length) 0 +
  (((s.revCopies.map (fun e => (e.2.digs, e.2.content.length))).eraseDups).foldl (fun a e => a + e.2 * 4096) 0) + s.kept.foldl (fun a e => a + e.2.bytes.length) 0

/-- Staging is refused (08 R248). -/
def State.stagingBarred (s : State) : Bool := s.modState == .departing || s.modState == .shutter || !s.stageEn

/-! ### The update log (08 R271, Table 8.12) -/

def URec.size (r : URec) : Nat := 28 + r.body.length
def updLogArea : Nat := 2 ^ 30

/-- Records that are never reclaimed: those of an open activation, and the CLOSE record of an image held (08 R271). -/
def State.ulogHolds (s : State) (r : URec) : Bool :=
  (s.act.opened && r.act == s.act.no) || (r.type == 0x40 && s.images.any (fun e =>
    e.2.kind == num r.body 1 1 && e.2.imageId == num r.body 2 8 && e.2.version == num r.body 10 8 && e.2.st != 1))

/-- Reclaim space oldest first until an excess is gone (08 R271). -/
def ulogReclaim (holds : URec → Bool) : Nat → List URec → List URec
  | _, [] => []
  | 0, l => l
  | n, r :: l => if holds r then r :: ulogReclaim holds n l else ulogReclaim holds (n - r.size) l

def State.ulogPut (s : State) (type : Nat) (body : Bytes) : State :=
  let excess := s.ulog.foldl (fun a r => a + r.size) (28 + body.length) - updLogArea
  { s with ulog := ulogReclaim s.ulogHolds excess s.ulog ++ [⟨type, s.act.no, s.uRecNo, s.cyc, body⟩],
           uRecNo := s.uRecNo + 1 }

def URec.bytes (r : URec) : Bytes :=
  let b := le 1 r.type ++ le 1 0 ++ le 2 r.body.length ++ le 4 r.act ++ le 8 r.no ++ le 8 r.time ++ r.body
  b ++ le 4 (crc32c b).toNat

/-! ### The manifest (08 R250, R251) -/

def mCount (b : Bytes) : Nat := num b 6 2
def mMode (b : Bytes) : Nat := num b 12 1
def mSerial (b : Bytes) : Nat := num b 16 4
def mSigner (b : Bytes) : Bytes := sub b 48 97

/-- The verification of a manifest's signature (08 R251), in a class and for a requester. -/
def manifestJob (cls : Nat) (tag : JobTag) (b : Bytes) : PkeJob :=
  verifyJob cls tag (b.take (b.length - 96)) (b.drop (b.length - 96)) (mSigner b)
def mPart (b : Bytes) (i : Nat) : Bytes := sub b (152 + 400 * i) 400
def mParts (b : Bytes) : List Bytes := (List.range (mCount b)).map (mPart b)
def pKind (b : Bytes) : Nat := num b 0 1
def pConfirm (b : Bytes) : Nat := num b 2 2
def pImage (b : Bytes) : Nat := num b 4 8
def pVersion (b : Bytes) : Nat := num b 12 8
def pLength (b : Bytes) : Nat := num b 20 4
def pRate (b : Bytes) : Nat := num b 24 2
def pCompat (b : Bytes) : Nat := num b 26 1
def pRoot (b : Bytes) : Bytes := sub b 28 48
def pListed (b : Bytes) (p : Nat) : Bool := bit (num b (76 + p / 8) 1) (p % 8)
def pPorts (b : Bytes) : List Nat := (List.range 1024).filter (pListed b)
/-- Compatibility entry n: identifier, least and greatest version. -/
def pEntry (b : Bytes) (n : Nat) : Nat × Nat × Nat := (num b (204 + 24 * n) 8, num b (212 + 24 * n) 8, num b (220 + 24 * n) 8)

def allZero (b : Bytes) : Bool := b.all (· == 0)

/-- Check 1: the form of the manifest. -/
def mFormat (b : Bytes) : Bool :=
  sub b 0 4 == ascii "MLBR" && num b 4 2 == 1 && 1 ≤ mCount b && mCount b ≤ 64 &&
  num b 8 4 == 152 + 400 * mCount b + 96 && b.length == num b 8 4 && num b 13 1 ≤ 1 && allZero (sub b 14 2) &&
  allZero (sub b 20 4) && allZero (sub b 145 7) && (mParts b).all (fun p => allZero (sub p 27 1) && allZero (sub p 396 4))

/-- The part of a manifest that lists a port. -/
def mPartOf (b : Bytes) (p : Nat) : Option Bytes := (mParts b).find? (fun x => pKind x == 1 && pListed x p)

/-- The port's active part differs from the part that lists it (08 R252). -/
def Port.changedBy (v : Port) (x : Bytes) : Bool :=
  v.tree.imageId ≠ pImage x || v.tree.version ≠ pVersion x || v.tree.manRoot ≠ pRoot x

def State.enrolled (s : State) : List Nat :=
  (s.ports.filter (fun e => e.2.enr.enrolled && e.2.st != .retired)).map (·.1)

/-- The changed ports of a manifest, in ascending order. -/
def State.changedPorts (s : State) (b : Bytes) : List Nat :=
  s.enrolled.filter (fun p => match mPartOf b p with
    | some x => (s.port p).changedBy x
    | none => false)

/-- The KIND 1 parts of a manifest together list exactly the enrolled ports (08 R254). -/
def State.listsExactly (s : State) (b : Bytes) : Bool :=
  let all := s.enrolled
  all.all (fun p => (mPartOf b p).isSome) && (mParts b).all (fun x => (pPorts x).all (fun p => all.contains p))

/-- A warden manifest: one KIND 2 part (08 R254). -/
def mWarden (b : Bytes) : Bool := (mParts b).length == 1 && (mParts b).all (fun x => pKind x == 2)

/-- A manifest whose mode asks for the exact list of the enrolled ports. -/
def mListsAll (b : Bytes) : Bool := mMode b == 0 && !mWarden b

/-- Check 6: the mode rule (08 R254). At an activation the list of ports is left to check 7, since only a port enrolled or
retired after the check can break it there. -/
def State.modeOk (s : State) (b : Bytes) (atAct : Bool) : Bool :=
  let ps := mParts b
  if mMode b = 0 then mWarden b || atAct || s.listsExactly b
  else mMode b == 1 && ps.length == 1 && ps.all (fun x => pKind x == 1) && s.enrolled.length ≤ 64

/-- Check 7 for one part: field ranges of Table 8.3 and the ports it lists. -/
def State.partOk (s : State) (b : Bytes) (x : Bytes) : Bool :=
  let k := pKind x
  let conf := pConfirm x
  (conf == 0 || (10 ≤ conf && conf ≤ 3600)) && pCompat x ≤ 8 &&
  (List.range 8).all (fun n => if n < pCompat x then (pEntry x n).2.1 ≤ (pEntry x n).2.2
    else allZero (sub x (204 + 24 * n) 24)) &&
  (if k = 1 then
    1 ≤ pLength x && pLength x ≤ 67108864 && 1 ≤ pRate x && pRate x ≤ 23040 &&
    (pPorts x).all (fun p => (s.port p).enr.enrolled && (s.port p).st != .retired && pLength x ≤ (s.port p).mir.len &&
      ((mParts b).filter (fun y => pKind y == 1 && pListed y p)).length == 1)
  else k == 2 && 4096 ≤ pLength x && pLength x ≤ 33554432 && pRate x == 0 && allZero (sub x 76 128) && mCount b == 1)

/-- The slot header of a warden image (08 R264); its signature is the job's result. -/
def State.hdrFields (s : State) (hdr code : Bytes) : Bool :=
  sub hdr 0 4 == ascii "WDN1" && num hdr 4 4 == code.length && 1 ≤ code.length && num hdr 24 4 < code.length &&
  allZero (sub hdr 28 4) && sub hdr 32 48 == sha384 code && sha384 (sub hdr 80 97) == s.otp.wardenSigner &&
  allZero (sub hdr 177 7) && (hdr.drop 280).all (· == 0xFF)

/-- Check 8 for one part. -/
def State.imageOk (s : State) (x : Bytes) (hdrOk : Bool) : Bool :=
  match s.findImage (pKind x) (pImage x) (pVersion x) with
  | none => false
  | some e =>
    e.2.st == 2 && e.2.length == pLength x && e.2.root == pRoot x &&
    (if pKind x = 2 then
      let all := e.2.bytes
      hdrOk && s.hdrFields (all.take 4096) (all.drop 4096) && num all 8 8 == pImage x && num all 16 8 == pVersion x
    else (s.enrolled.filter (fun p => pListed x p && (s.port p).changedBy x)).all (fun p =>
      match s.findImage 1 (s.port p).tree.imageId (s.port p).tree.version with
      | some o => o.2.st ≠ 5 && o.2.st ≠ 1
      | none => false))

/-- A part takes part in the activation: some port is changed by it, or it names another warden. -/
def State.partChanged (s : State) (x : Bytes) : Bool :=
  if pKind x = 2 then s.loft.wdnId ≠ pImage x || s.loft.wdnVer ≠ pVersion x
  else s.enrolled.any (fun p => pListed x p && (s.port p).changedBy x)

/-- Check 9 for one part. -/
def State.versionOk (s : State) (b x : Bytes) : Bool :=
  bit (num b 13 1) 0 ||
  (if pKind x = 2 then s.loft.wdnId ≠ pImage x || s.loft.wdnVer ≤ pVersion x
   else s.enrolled.all (fun p => !pListed x p || (s.port p).tree.imageId ≠ pImage x || (s.port p).tree.version ≤ pVersion x))

def State.keptMan (s : State) (n : Nat) : Bytes := match tabFind s.kept n with
  | some k => k.bytes
  | none => []

/-- The compatibility rule over the parts active after the activation (08 R253). -/
def State.compatOk (s : State) (b : Bytes) : Bool :=
  let wdn := (mParts b).find? (fun x => pKind x == 2)
  let after := s.enrolled.map (fun p => match mPartOf b p with
    | some x => (pImage x, pVersion x)
    | none => ((s.port p).tree.imageId, (s.port p).tree.version))
  let all := after ++ [match wdn with
    | some x => (pImage x, pVersion x)
    | none => (s.loft.wdnId, s.loft.wdnVer)]
  let others := (s.enrolled.filter (fun p => (mPartOf b p).isNone)).filterMap (fun p => mPartOf (s.keptMan (s.port p).tree.manNo) p)
  let wparts := match wdn with
    | some _ => []
    | none => ((mParts (s.keptMan s.wdnMan)).filter (fun x => pKind x == 2))
  (mParts b ++ others ++ wparts).all (fun x => (List.range (pCompat x)).all (fun n =>
    let e := pEntry x n
    let members := all.filter (fun a => a.1 == e.1)
    members.all (fun a => e.2.1 ≤ a.2 && a.2 ≤ e.2.2) && (!bit (num x 1 1) n || !members.isEmpty)))

/-- Check 11: the worst case of the revert copies of R257. -/
def State.spaceOk (s : State) (b : Bytes) : Bool :=
  let ps := s.changedPorts b
  let span := fun p => max (s.port p).tree.span (match mPartOf b p with
    | some x => ceilDiv (pLength x) 4096
    | none => 0)
  let idOf := fun p => ((s.port p).tree.imageId, (s.port p).tree.version)
  let ids := (ps.map idOf).eraseDups
  let shared := ids.foldl (fun a i => a + (ps.filter (fun p => idOf p == i)).foldl (fun m p => max m (span p)) 0) 0
  let amended := (ps.filter (fun p => (s.port p).tree.spanState == 2)).foldl (fun a p => a + span p) 0
  s.stagingUsed + (shared + amended) * 4096 ≤ stagingArea

/-- Checks 5 to 11 of Table 8.4, for a check or at an activation: the result and the index of the failing part. -/
def State.checkLate (s : State) (b : Bytes) (hdrOk : Bool) (atAct : Bool := false) : Nat × Nat :=
  let ps := (mParts b).zipIdx
  let bad := fun (f : Bytes → Bool) => ps.find? (fun x => !f x.1)
  if mSerial b ≤ s.retained.serial then (5, 0xFF)
  else if !s.modeOk b atAct then (6, 0xFF)
  else match bad (s.partOk b) with
    | some x => (7, x.2)
    | none =>
      if atAct && mListsAll b && !s.listsExactly b then (7, 0xFF) else
      match bad (fun x => !s.partChanged x || s.imageOk x hdrOk) with
      | some x => (8, x.2)
      | none =>
        match bad (fun x => !s.partChanged x || s.versionOk b x) with
        | some x => (9, x.2)
        | none => if !s.compatOk b then (10, 0xFF) else if !s.spaceOk b then (11, 0xFF) else (0, 0xFF)

/-- Checks 1 to 3. -/
def State.checkEarly (s : State) (b : Bytes) : Nat :=
  if !mFormat b then 1
  else if !(sub b 24 16).all (· == 0xFF) && sub b 24 16 ≠ s.moduleId then 2
  else if !s.otp.signer (sha384 (mSigner b)) then 3 else 0

def State.manSlot (s : State) (k : Nat) : ManSlot := tabGet {} s.manSlots k
def State.modMan (s : State) (k : Nat) (f : ManSlot → ManSlot) : State :=
  { s with manSlots := tabSet s.manSlots k (f (s.manSlot k)) }

/-- A manifest kept in the barn, its signature result of this start not known; one already kept keeps its number and its result. -/
def State.keepMan (s : State) (b : Bytes) : Nat × State :=
  match s.kept.find? (fun e => e.2.bytes == b) with
  | some e => (e.1, s)
  | none => (s.keptNo, { s with kept := tabSet s.kept s.keptNo ⟨b, 0⟩, keptNo := s.keptNo + 1 })

/-- The barn keeps the manifests that a port or the warden names, or that a revert would name again (08 R249). -/
def State.pruneKept (s : State) : State :=
  let used := fun (n : Nat) => n == s.wdnMan || s.ports.any (fun e => e.2.tree.manNo == n || (e.2.upd.changed && e.2.upd.oldManNo == n))
  { s with kept := s.kept.filter (fun e => used e.1) }

/-- The signature results of the kept manifests end with an activation (05 R170); a check under way goes on. -/
def State.resultsEnd (s : State) : State :=
  { s with kept := s.kept.map (fun e => (e.1, if e.2.sig = 1 then e.2 else { e.2 with sig := 0 })) }

/-! ### Guarded activations (08 R255 to R263) -/

/-- HOLD_LOCK of a port is set, or restored, by a CTRL of its own (08 R256, R261). -/
def State.ctrlLock (s : State) (p b5 : Nat) : State :=
  if (s.port p).link.up then s.sendCtl p 0 .other ((s.port p).ctrlBytes 0 0 b5) else s

def State.restoreLock (s : State) (p : Nat) : State := s.ctrlLock p (2 + b2n (s.port p).upd.priorLock)

/-- ACT_END (08 Table 8.12); the activation is closed. -/
def State.actEnd (s : State) (outcome reason left : Nat) : State :=
  let s1 := (s.ulogPut 0x46 (le 1 outcome ++ le 1 reason ++ le 2 left)).modAct (fun a =>
    { a with opened := false, stage := 0, outcome := outcome, reason := reason, readyDl := none, trialWin := none, resume := false })
  s1.when (outcome == 2) (fun t => t.raise pgBarn 4)

/-- The leaves that an activation writes on a port: 0 to max(S_old, S_new) - 1. -/
def UpdPort.span (u : UpdPort) : Nat := max u.oldSpan u.newSpan

/-- A changed port at ACT_BEGIN (08 R256). -/
def State.beginPort (s : State) (p : Nat) (x : Bytes) : State :=
  let v := s.port p
  let conf := if pConfirm x = 0 then s.defConf else pConfirm x
  let u2 : UpdPort := {
    changed := true, confS := conf, priorLock := v.link.holdLock, dropped := v.upd.dropped,
    newSpan := ceilDiv (pLength x) 4096, newMan := pRoot x, newImage := pImage x, newVersion := pVersion x, newRate := pRate x,
    oldState := v.tree.spanState, oldKept := v.tree.kept, oldSpan := v.tree.span, oldMan := v.tree.manRoot,
    oldImage := v.tree.imageId, oldVersion := v.tree.version, oldRate := v.rls.declared, oldManNo := v.tree.manNo }
  let s1 := s.modUpd p (fun _ => u2)
  let s2 := s1.modRls p (fun r => { r with verified := false, inFlight := false })
  let s3 := s2.modHall (hallOf p) (fun h => { h with flight := h.flight.filter (· ≠ p) })
  if v.st = .released ∨ v.st = .adopted then s3.resetPort p 0
  else s3.ctrlLock p 3

/-- ACT_BEGIN of a guarded manifest (08 R255, R256). -/
def State.beginGuarded (s : State) (slot : Nat) (b : Bytes) : State :=
  let ps := s.changedPorts b
  let s1 := s.resultsEnd.modAct (fun a => {
                                 opened := true, kind := 0, mode := mMode b, stage := 1, no := a.no + 1, slot := slot, man := b,
                                 outcome := a.outcome, reason := a.reason, changed := ps })
  let s2 := s1.ulogPut 0x41 (le 1 1 ++ le 1 (mMode b) ++ le 2 ps.length ++ le 4 (mSerial b) ++ sha384 b ++
    ps.flatMap (fun p => le 2 (p + 1024 * b2n (s.port p).link.holdLock)))
  each ps (fun p t => match mPartOf b p with
    | some x => t.beginPort p x
    | none => t) s2

/-- A changed port has drained: HELD, no entry pending, no heal job (08 R256). -/
def Port.drained (v : Port) : Bool := v.st == .held && !v.ring.entries.any (fun e => e.pend) && v.gln.heal.isNone

/-- Save a port's revert copy from its mirror slice and tree (08 R257); what a revert restores is what is in force now (log 93). -/
def State.saveCopy (s : State) (p : Nat) : State :=
  let v := s.port p
  let ls := List.range v.upd.span
  let c : RevCopy := {
    content := ls.map (fun i => (i, memRead (s.slice p) (i * 4096) 4096)),
    digs := ls.map (fun i => (i, tabGet (zeros 48) v.tree.leaves i)) }
  ({ s with revCopies := tabSet s.revCopies p c }).modUpd p (fun u => { u with oldState := v.tree.spanState, oldKept := v.tree.kept })

/-- Copies saved, ports with the same leaf digests counted once. -/
def State.copiesSaved (s : State) : Nat := ((s.revCopies.map (fun e => e.2.digs)).eraseDups).length

/-- The content and digest that the copy aims at for leaf i of a port (08 R258, R262). -/
def State.targetLeaf (s : State) (p i : Nat) : Bytes :=
  let u := (s.port p).upd
  if u.span ≤ i then memRead (s.slice p) (i * 4096) 4096
  else if s.act.stage = 5 ∨ u.revertPend then tabGet [] (tabGet ({} : RevCopy) s.revCopies p).content i
  else if i < u.newSpan then (match s.findImage 1 u.newImage u.newVersion with
    | some e => e.2.leaf i
    | none => [])
  else List.replicate 4096 0xFF

/-- The units of a copy, as first leaf and count (08 R258 step 1). -/
def copyUnits (v : Port) : List (Nat × Nat) :=
  let n := v.upd.span
  let big := (largestErase v).size / 4096
  let small := (smallestErase v).size / 4096
  let whole := n / big
  (List.range whole).map (fun k => (k * big, big)) ++
  (List.range (ceilDiv (n - whole * big) small)).map (fun k => (whole * big + k * small, small))

/-- The leaves that the units of a copy cover. -/
def copyEnd (v : Port) : Nat := (copyUnits v).foldl (fun a x => max a (x.1 + x.2)) v.upd.span

/-- A revert begins (08 R262): ACT_REVERT, RESETs of released ports, copies under way are dropped. -/
def State.beginRevert (s : State) (reason : Nat) (cause : Nat) : State :=
  let s1 := (s.ulogPut 0x45 (le 1 reason ++ le 1 0 ++ le 2 cause)).modAct (fun a => { a with stage := 5, revReason := reason })
  each s.act.changed (fun p t =>
    let v := t.port p
    let t1 := t.modUpd p (fun u => { u with
      copying := false, copied := false, units := [], checks := [], confWin := none, confirmed := false })
    let t2 := (t1.modRls p (fun r => { r with verified := false, inFlight := false })).modHall (hallOf p)
      (fun h => { h with flight := h.flight.filter (· ≠ p) })
    let t3 := t2.modRing p (fun r => { r with jobs := r.jobs.filter (fun j => match j.kind with
      | .copyWrite => false
      | .copyCheck _ => false
      | _ => true) })
    if v.st = .absent ∨ v.st = .quarantined then t3.modUpd p (fun u => { u with revertPend := true })
    else if v.st = .released ∨ v.st = .adopted then t3.resetPort p 0
    else if v.st = .verifying then t3.setSt p .held
    else t3) s1

/-- An activation ends ABANDONED: the ports start on old content after a normal fill (08 Table 8.6). -/
def State.abandonAct (s : State) (reason : Nat) : State :=
  let s1 := each s.act.changed (fun p t => (t.restoreLock p).modUpd p (fun u => { dropped := u.dropped })) s
  { (s1.actEnd 3 reason 0) with revCopies := [] }

/-- The event of Table 8.6 that ends an activation badly on a port: abandon or revert. -/
def State.actFails (s : State) (reason cause : Nat) : State :=
  if s.act.stage = 1 then s.abandonAct reason
  else if s.act.stage = 2 ∨ s.act.stage = 3 ∨ s.act.stage = 4 then s.beginRevert reason cause
  else s

/-- Identifier and version of the warden in a Loft flash slot (08 Table 8.8). -/
def State.slotIdent (s : State) (k : Nat) : Nat × Nat :=
  let b := match tabFind s.wslots k with
    | some b => b
    | none => (List.range 24).map (fun i => Config.flash k i)
  (num b 8 8, num b 16 8)

/-- An image is active on a port, or in the active warden slot (08 R249). -/
def State.imageUsed (s : State) (g : Image) : Bool :=
  if g.kind = 2 then s.slotIdent s.retained.actSlot == (g.imageId, g.version)
  else s.ports.any (fun v => v.2.enr.enrolled && v.2.tree.imageId == g.imageId && v.2.tree.version == g.version)

/-- Images no port runs any more become CLOSED (08 R261). -/
def State.settleImages (s : State) : State :=
  { s with images := s.images.map (fun e =>
      let used := s.imageUsed e.2
      if e.2.st = 3 ∨ e.2.st = 4 then (e.1, { e.2 with st := if used then 3 else 2 })
      else if e.2.st = 2 ∧ used then (e.1, { e.2 with st := 3 }) else e) }

/-- An image becomes ACTIVE with the first port that runs it, CLOSED with the last that left it, outside an activation too
(08 R249). -/
def State.useImages (s : State) : State :=
  { s with images := s.images.map (fun e =>
      let used := s.imageUsed e.2
      if e.2.st = 3 ∧ !used then (e.1, { e.2 with st := 2 })
      else if e.2.st = 2 ∧ used then (e.1, { e.2 with st := 3 }) else e) }

/-- ACTIVATE record of a port (05 Table 5.2, 08 R259, R262). -/
def State.activateRec (s : State) (p : Nat) : State := s.ledgerPut 0x22 p (enrolBody (s.port p) false)

/-- ACT_COMMIT (08 R259): every changed port is verified on its new part and HELD; its manifest is the activation's (05 R170). -/
def State.actCommit (s : State) : State :=
  let (no, s0) := s.keepMan s.act.man
  let s1 := (s0.ulogPut 0x44 []).modAct (fun a => { a with stage := 4 })
  let s2 := each s.act.changed (fun p t =>
    let t1 := t.modPort p (fun v => { v with
      tree := { v.tree with span := v.upd.newSpan, spanState := 1, manRoot := v.upd.newMan, imageId := v.upd.newImage,
                            version := v.upd.newVersion, kept := v.tree.root, resident := true, manNo := no },
      rls := { v.rls with declared := v.upd.newRate } })
    let t2 := (t1.activateRec p).writeCopy p
    (((t2.reportRoot p).setSt p .held).modRls p (fun r => { r with verified := true, verifiedAt := t2.hnow })).modUpd p
      (fun u => { u with copying := false, copied := false })) s1
  let old := s.act.changed.map (fun p => ((s.port p).tree.imageId, (s.port p).tree.version))
  { s2 with images := s2.images.map (fun e =>
      if e.2.kind = 1 ∧ e.2.st = 3 ∧ old.contains (e.2.imageId, e.2.version) then (e.1, { e.2 with st := 4 })
      else if e.2.kind = 1 ∧ e.2.st = 2 ∧ s.act.changed.any (fun p => (s.port p).upd.newImage = e.2.imageId ∧
        (s.port p).upd.newVersion = e.2.version) then (e.1, { e.2 with st := 3 }) else e) }

/-- A port passed its revert (08 R262): the old part is in force again. -/
def State.portReverted (s : State) (p : Nat) : State :=
  let s1 := s.modPort p (fun v => { v with
    tree := { v.tree with span := v.upd.oldSpan, spanState := v.upd.oldState, manRoot := v.upd.oldMan, imageId := v.upd.oldImage,
                          version := v.upd.oldVersion, kept := v.upd.oldKept, resident := true, manNo := v.upd.oldManNo },
    rls := { v.rls with declared := v.upd.oldRate } })
  let s2 := (((s1.activateRec p).writeCopy p).reportRoot p).setSt p .held
  let s3 := s2.modRls p (fun r => { r with verified := true, verifiedAt := s2.hnow })
  (s3.restoreLock p).modUpd p (fun u => { dropped := u.dropped })

/-- Changed ports that a revert still waits for: not those REVERT_PENDING or failed. -/
def State.revertOpen (s : State) : List Nat :=
  s.act.changed.filter (fun p => let u := (s.port p).upd; u.changed && !u.revertPend && !u.failed)

/-- The last port has passed its revert: ACT_END with outcome REVERTED. -/
def State.revertDone (s : State) : State :=
  let ps := s.revertOpen
  let left := (s.act.changed.filter (fun p => (s.port p).upd.revertPend || (s.port p).upd.failed)).length
  let s1 := each ps (fun p t => t.portReverted p) s
  let s2 := (s1.settleImages.pruneKept).actEnd 2 s.act.revReason left
  { s2 with revCopies := s2.revCopies.filter (fun e => (s2.port e.1).upd.revertPend || (s2.port e.1).upd.failed) }

/-- The source of a port's copy is read: its image, or its revert copy while reverting. An armed injection on the block CRC, or a
source that is DAMAGED or gone, fails the read (08 R247, 13 R407). -/
def State.sourceRead (s : State) (p : Nat) : Bool × State :=
  let u := (s.port p).upd
  let rev := s.act.stage = 5 || u.revertPend
  if s.injection pgBarn 0 none ≠ 0 then
    let mine := (tabGet ({} : RevCopy) s.revCopies p).digs
    let cs : Tab RevCopy := s.revCopies.map (fun e => if e.2.digs = mine then (e.1, { e.2 with bad := true }) else e)
    let gs : Tab Image := s.images.map (fun e =>
      if e.2.kind = 1 ∧ e.2.imageId = u.newImage ∧ e.2.version = u.newVersion then (e.1, { e.2 with st := 5 }) else e)
    let s1 : State := if rev then { s with revCopies := cs } else { s with images := gs }
    (false, (s1.raiseE { page := pgBarn, bit := 7, inj := true }).disarm pgBarn)
  else if rev then ((match tabFind s.revCopies p with
    | some c => !c.bad
    | none => false), s)
  else ((match s.findImage 1 u.newImage u.newVersion with
    | some e => e.2.st ≠ 5
    | none => false), s)

/-- A port has passed its copy and check: slice and tree take the target, PORT_DONE, and the stage ends with the last
port (08 R259, R262). -/
def State.portPassed (s : State) (p : Nat) : State :=
  let u := (s.port p).upd
  let ls := List.range u.span
  let conts := ls.map (fun i => (i, s.targetLeaf p i))
  let s1 := conts.foldl (fun t x => t.writeSlice p (x.1 * 4096) x.2) s
  let s2 := s1.storeLeaves p (conts.map (fun x => (x.1, leafDigest x.1 x.2)))
  let rev := s.act.stage = 5 || u.revertPend
  let s3 := s2.ulogPut 0x43 (le 2 p ++ le 1 (b2n rev) ++ le 1 0 ++ (if rev then u.oldKept else (s2.port p).tree.root))
  if u.revertPend then { (s3.portReverted p) with revCopies := tabDel s3.revCopies p }
  else if s3.act.stage = 5 then
    (if s3.revertOpen.all (fun q => (s3.port q).upd.copied) then s3.revertDone else s3)
  else if s3.act.changed.all (fun q => (s3.port q).upd.copied) then s3.actCommit else s3

/-- The copy of a port failed for good (08 Table 8.6). -/
def State.portCopyFailed (s : State) (p : Nat) : State :=
  let s1 := s.raise pgBarn 2
  if s.act.stage = 5 ∨ (s.port p).upd.revertPend then
    let s2 := (s1.modUpd p (fun u => { u with copying := false, failed := true, revertPend := false })).quarantine p 15
    if s2.act.stage = 5 && s2.revertOpen.all (fun q => (s2.port q).upd.copied) then s2.revertDone else s2
  else s1.actFails 3 p

/-- The next step of a port's copy: a unit to write, then leaves to check; passed when none is left. -/
def State.copyNext (s : State) (p : Nat) : State :=
  let v := s.port p
  match v.upd.units with
  | x :: _ =>
    let (good, s) := s.sourceRead p
    if !good then s.portCopyFailed p else
    let k := if x.2 * 4096 = (largestErase v).size then largestErase v else smallestErase v
    let content := (List.range x.2).flatMap (fun j => s.targetLeaf p (x.1 + j))
    s.startJob p .copyWrite (eraseReq v k (x.1 * 4096) :: progReqs v (x.1 * 4096) content)
  | [] =>
    let s1 := if s.act.stage = 2 then s.modAct (fun a => { a with stage := 3 }) else s
    match v.upd.checks with
    | i :: _ => s1.startJob p (.copyCheck i) (readReqs v (i * 4096) 4096)
    | [] => s1.modUpd p (fun u => { u with copying := false, copied := true })

/-- Begin the copy of a port: it enters VERIFYING with its units and leaves to check; full copies after a reset. -/
def State.startCopy (s : State) (p : Nat) (full : Bool) : State :=
  let v := s.port p
  let skip := fun (x : Nat × Nat) => s.diffCopy && !full && v.tree.resident &&
    (List.range x.2).all (fun j => tabGet [] v.tree.leaves (x.1 + j) == leafDigest (x.1 + j) (s.targetLeaf p (x.1 + j)))
  let us := (copyUnits v).filter (fun x => !skip x)
  ((s.setSt p .verifying).modUpd p (fun u => { u with
    copying := true, copied := false, units := us, checks := List.range (copyEnd v), retried := [], again := false })).copyNext p

/-- A unit was written, or a leaf was checked: the copy goes on; a unit that differs is copied once more. -/
def State.copyWrote (s : State) (p : Nat) (ok : Bool) : State :=
  let u := (s.port p).upd
  match u.units with
  | x :: rest =>
    if ok then (s.modUpd p (fun w => { w with units := rest })).copyNext p
    else if u.retried.contains x.1 then s.portCopyFailed p
    else (s.modUpd p (fun w => { w with retried := w.retried ++ [x.1] })).copyNext p
  | [] => s

def State.copyChecked (s : State) (p leaf : Nat) (content : Bytes) : State :=
  let v := s.port p
  let s0 := s.modHall (hallOf p) (fun h => { h with hshFill := satAdd 32 h.hshFill 1 })
  if !v.upd.copying then s
  else if content = s.targetLeaf p leaf then
    let s1 := (s0.modUpd p (fun u => { u with checks := u.checks.filter (· ≠ leaf) })).copyNext p
    if (s1.port p).upd.copied then
      let (good, s2) := s1.sourceRead p
      if good then s2.portPassed p else s2.portCopyFailed p
    else s1
  else
    match (copyUnits v).find? (fun x => x.1 ≤ leaf && leaf < x.1 + x.2) with
    | some x =>
      if v.upd.retried.contains x.1 then s0.portCopyFailed p
      else (s0.modUpd p (fun u => { u with
        units := [x], retried := u.retried ++ [x.1],
        checks := u.checks ++ ((List.range x.2).map (· + x.1)).filter (fun i => !u.checks.contains i) })).copyNext p
    | none => s0.portCopyFailed p

/-- Every changed port confirmed (08 R261). -/
def State.actConfirmed (s : State) : State :=
  let (no, s1) := s.keepMan s.act.man
  let s2 := each s.act.changed (fun p t => (t.ulogPut 0x43 (le 2 p ++ le 1 2 ++ le 1 0 ++ (t.port p).tree.kept)).restoreLock p) s1
  let s3 := each s.act.changed (fun p t => t.modUpd p (fun u => { dropped := u.dropped })) s2
  let s4 := each (s3.enrolled.filter (fun p => (mPartOf s.act.man p).isSome)) (fun p t =>
    t.modTree p (fun x => { x with manNo := no })) s3
  let s5 := { s4.settleImages.pruneKept with retained := { s4.retained with serial := mSerial s.act.man }, revCopies := [] }
  s5.actEnd 1 0 0

/-- A confirm window ends without a confirmation (08 R260, Table 8.6): all windows that end in that cycle give one revert. -/
def State.confirmExpires (s : State) (p : Nat) : State :=
  match (s.port p).upd.confWin with
  | some w =>
    if s.alive && s.act.opened && s.act.stage == 4 then
      ((s.toLoft (w.dl + 1)).raiseP pgBarn 3 p).actFails 4 p
    else s
  | none => s

/-- A changed port whose confirm window is past: its expiry has come, or comes in this cycle. -/
def State.confPast (s : State) : Option Nat :=
  s.act.changed.find? (fun p => match (s.port p).upd.confWin with
    | some w => w.dl < s.lnow
    | none => false)

/-- The expiry that is due takes effect before a confirmation that comes after it, and with one of the same cycle gives one revert, for
the lower reason (00 R7, 08 R263). -/
def State.confDue (s : State) : State :=
  match s.confPast with
  | some p => s.confirmExpires p
  | none => s

/-- The port's own confirm window is past. -/
def State.confLate (s : State) (p : Nat) : Bool :=
  match (s.port p).upd.confWin with
  | some w => w.dl < s.lnow
  | none => false

/-- An SB_MSG 0x60 at the Loft (08 R260): the result byte and the effect. -/
def State.confirmation (s : State) (p : Nat) (health id ver : Nat) : Nat × State :=
  let own := s.confLate p
  let s := s.confDue
  let v := s.port p
  let u := v.upd
  let drop := fun (r : Nat) (t : State) => (r, t.modUpd p (fun w => { w with dropped := w.dropped + 1 }))
  if own then drop 3 s
  else if !u.changed || s.act.stage ≠ 4 || u.confirmed || v.st != .released then drop 1 s
  else match u.confWin with
    | none => drop 1 s
    | some _ =>
      if id ≠ u.newImage ∨ ver ≠ u.newVersion then drop 2 s
      else if health ≠ 0 then (0, s.actFails 5 p)
      else
        let s1 := s.modUpd p (fun x => { x with confirmed := true, confWin := none })
        (0, if s1.act.changed.all (fun q => (s1.port q).upd.confirmed) then s1.actConfirmed else s1)

/-- A reset or watchdog fault of a platform that has not confirmed (08 Table 8.6, 12 R374). -/
def State.platformReset08 (s : State) (p : Nat) : State :=
  if s.act.opened && s.act.stage = 4 && (s.port p).upd.changed && !(s.port p).upd.confirmed then s.actFails 6 p else s

/-- The release of a changed port reaches the Loft: its confirm window opens (08 R260). -/
def State.confOpen (s : State) (r : HReport) : State :=
  let u := (s.port r.port).upd
  if s.act.opened && s.act.stage = 4 && u.changed && !u.confirmed && r.new == .released && r.old != .released then
    s.modUpd r.port (fun x => { x with confWin := some (mkWin s.lnow (x.confS * 600000000)) })
  else s

/-- What the open activation sees of its ports after every command (08 R262, R263, R269). -/
def State.watchPort (s : State) (p : Nat) : State :=
  let v := s.port p
  if v.upd.again && v.st != .quarantined then
    (if v.st = .held ∧ !v.ring.readbackPending ∧ v.link.up then
      (if s.act.stage = 2 ∨ s.act.stage = 3 ∨ s.act.stage = 5 then
        (if v.drained then s.startCopy p true else s)
      else s.modUpd p (fun u => { u with again := false }))
     else s)
  else if v.upd.failed then s
  else if v.st = .absent ∨ v.st = .quarantined then
    (if s.act.stage = 5 then
      let s1 := if v.upd.revertPend then s else s.modUpd p (fun u => { u with revertPend := true, copying := false, copied := false })
      if s1.revertOpen.all (fun q => (s1.port q).upd.copied) then s1.revertDone else s1
     else s.actFails 3 p)
  else s

/-- A port that was REVERT_PENDING is back and HELD: its revert copy runs (08 R262). -/
def State.pendRevert (s : State) (p : Nat) : State :=
  let v := s.port p
  if v.upd.revertPend && !v.upd.copying && v.drained && v.link.up && !v.ring.readbackPending then s.startCopy p true else s

def State.watchAct (s : State) : State :=
  let s1 := if s.act.opened && s.act.kind = 0 then each s.act.changed (fun p t => if t.act.opened then t.watchPort p else t) s
    else s
  each ((s1.ports.filter (fun e => e.2.upd.revertPend)).map (·.1)) (fun p t => t.pendRevert p) s1

/-! ### Warden activations (08 R265 to R268) -/

/-- Byte content of a Loft flash slot. -/
def State.wslot (s : State) (k : Nat) : Bytes := match tabFind s.wslots k with
  | some b => b
  | none =>
    let hdr := (List.range 4096).map (fun i => Config.flash k i)
    hdr ++ (List.range (min 33550336 (num hdr 4 4))).map (fun i => Config.flash k (4096 + i))

/-- The checks of a slot at boot (08 R264, R265): header with its signature, code, floor. -/
def State.slotPasses (s : State) (k : Nat) : Bool :=
  let b := s.wslot k
  p384Verifies (b.take 184) (sub b 184 96) (sub b 80 97) && s.hdrFields (b.take 4096) (b.drop 4096) && s.otp.floor ≤ num b 16 8

def State.modRet (s : State) (f : Retained → Retained) : State := { s with retained := f s.retained }
def State.modLoft (s : State) (f : Loft → Loft) : State := { s with loft := f s.loft }
def State.modWwd (s : State) (f : Wwd → Wwd) : State := { s with wwd := f s.wwd }

/-- Set a landing's state code. -/
def Loft.land (l : Loft) (n code : Nat) : Loft := if n = 0 then { l with landA := code } else { l with landB := code }
def Loft.landing (l : Loft) (n : Nat) : Nat := if n = 0 then l.landA else l.landB

/-- ACT_BEGIN of a warden manifest (08 R266 step 1). -/
def State.beginWarden (s : State) (slot : Nat) (b : Bytes) : State :=
  let s1 := s.resultsEnd.modAct (fun a => {
                                 opened := true, kind := 1, mode := 0, stage := 6, no := a.no + 1, slot := slot, man := b,
                                 outcome := a.outcome, reason := a.reason, newSlot := 1 - s.retained.actSlot,
                                 oldLanding := s.loft.active })
  (s1.ulogPut 0x41 (le 1 2 ++ le 1 0 ++ le 2 0 ++ le 4 (mSerial b) ++ sha384 b)).modRet (fun r => r.putSlot (fun x => { x with otherOk := false }))

def State.wdnStep (s : State) (step landing slot : Nat) : State := s.ulogPut 0x47 (le 1 step ++ le 1 landing ++ le 1 slot)

/-- A warden activation ends ABANDONED; a standby landing returns to reset (08 R266). -/
def State.wdnAbandon (s : State) (reason : Nat) : State :=
  let other := 1 - s.loft.active
  ((s.modLoft (fun l => if l.landing other = 2 then l.land other 0 else l)).modAct (fun a => { a with
    standbyReady := false })).actEnd 3 reason 0

/-- The warden watchdog of the active landing starts a first period (12 R362). -/
def State.wwdStart (s : State) : State :=
  s.modWwd (fun w => { w with running := true, first := true, start := s.lnow, curMs := w.periodMs, curEn := w.slotEn, checked := 0 })

/-- The new warden's confirm time in seconds (08 R268). -/
def Act.confS (a : Act) (dflt : Nat) : Nat :=
  match (mParts a.man).head? with
  | some x => if pConfirm x = 0 then dflt else pConfirm x
  | none => dflt

end Sys2Proof.Machine
end

