-- ==== Sys2Proof/Machine/PwrOps.lean ====
section
/-! DEFINITION. Power domains (15 R454 to R456, 17 Table 17.13) and the commit reserve (15 R449 to R453). -/

namespace Sys2Proof.Machine

def pgPwr : Nat := 0xF0
def pgEnv : Nat := 0xF1

def State.modPwr (s : State) (f : Pwr → Pwr) : State := { s with pwr := f s.pwr }
def State.dom (s : State) (n : Nat) : Dom := tabGet {} s.pwr.doms n
def State.modDom (s : State) (n : Nat) (f : Dom → Dom) : State :=
  s.modPwr (fun w => { w with doms := tabSet w.doms n (f (tabGet {} w.doms n)) })
def State.domSet (s : State) (n : Nat) (on : Bool) : State := 
  s.modDom n (fun d => { d with on := on, tripped := d.tripped && (on || !d.on) })

/-- A domain is on (15 Table 15.5): the Loft's domains by hardware, the others by their switch. -/
def State.domOn (s : State) (n : Nat) : Bool :=
  if 1044 ≤ n ∧ n < 1050 then s.modState != .cold
  else if n = 1050 then s.puf.retryAt.isNone && s.modState == .loftBoot && !s.puf.rootOk
  else if n = 1051 then s.modState != .cold || s.pwr.mainsOk
  else (s.dom n).on

/-- A tap PHY domain goes off: the port has no link any more and is ABSENT (01 Table 1.9). -/
def State.phyOff (s : State) (p evCause evTime : Nat) (sched : Bool := false) : State :=
  let s1 := s.domSet p false
  if (s.port p).st = .absent && (s.port p).link.phase = .off && (s.port p).link.idleEnd.isNone then s1
  else s1.toAbsent p evCause evTime none sched

/-- Tap PHY domains on in a gallery. -/
def State.phyOnCount (s : State) (g : Nat) : Nat := ((List.range 64).filter (fun k => (s.dom (64 * g + k)).on)).length

/-- A tap PHY domain may be switched on (15 R455, 06 R206). -/
def State.phyMayOn (s : State) (p : Nat) : Bool :=
  (s.hall (hallOf p)).phase != .faulted && !(s.port p).rls.departed &&
    ((s.port p).st == .retired || (s.port p).st == .absent)

/-- The tap PHY domains of a gallery that its hall switches on at bring-up or after a hall reset: those of ports not
retired, departed or locked off. -/
def State.galleryOn (s : State) (g : Nat) : State :=
  each ((List.range 64).map (· + 64 * g)) (fun p t =>
    if t.phyMayOn p && (t.port p).st != .retired && !(t.dom p).locked then t.domSet p true else t) s

/-- The energy the reserve can deliver reaches 20 J, or is below it (15 R450). -/
def State.setReady (s : State) (r : Bool) : State := s.modPwr (fun w => { w with ready := r })

/-- The charger stops (15 R448). -/
def State.chargerStop (s : State) : State := s.modPwr (fun w => { w with charging := false, readyDl := none })

/-- The charger starts: READY is due within 5 s (15 R452). -/
def State.chargerStart (s : State) : State :=
  s.modPwr (fun w => { w with charging := true, readyDl := if w.ready then none else some (s.lnow + 2999999999) })

end Sys2Proof.Machine
end

