-- ==== Sys2Proof/Machine/ReleaseOps.lean ====
section
/-! DEFINITION. The release sequencer: counted rates, groups, flights, and departure (06 R190 to R208). -/

namespace Sys2Proof.Machine

/-! ### Counted rates (06 R193) -/

/-- The declared boot read rate; 100 MB/s when the active part has none. -/
def Port.declaredRate (v : Port) : Nat := if v.rls.declared = 0 then 100 else v.rls.declared

/-- The counted rate of a port in MB/s. -/
def Port.counted (v : Port) : Nat :=
  if v.served then (if v.rls.booted then v.rls.rates.foldl max 0 else v.declaredRate)
  else if v.rls.inFlight then v.declaredRate
  else 0

def flightLimit : Nat := 23040

/-- RLS_COUNT COUNTED_MBS of a hall. -/
def State.countedSum (s : State) (h : Nat) : Nat := (s.portsOf h).foldl (fun a p => a + (s.port p).counted) 0

/-- OVER_LIMIT is raised when the sum comes to exceed the limit (06 R217). -/
def State.checkLimit (s : State) (h : Nat) : State :=
  let tooMany := s.countedSum h > flightLimit
  let s1 := s.modHall h (fun x => { x with overLimit := tooMany })
  s1.when (tooMany && !(s.hall h).overLimit) (fun t => t.raise (pgRls h) 1)

/-- A 100 ms sample of a served port, rounded up to a whole MB/s; the ten most recent are kept. -/
def State.sampleRate (s : State) (p : Nat) : State :=
  s.modRls p (fun r => { r with rates := (ceilDiv r.bytes 100000 :: r.rates).take 10, bytes := 0 })

/-! ### Verification (06 R190) -/

/-- A changed port of the open activation enters VERIFYING under R190 while it drains without a resident slice, and in CONFIRMING after a
hall reset (08 R256, Table 8.6); the activation's own copy takes it through VERIFYING otherwise (08 R269). -/
def State.actLets (s : State) (p : Nat) : Bool :=
  let v := s.port p
  !v.upd.changed || (s.act.stage == 1 && !v.tree.resident) || s.act.stage == 4

/-- The conditions of R190 on a HELD port, with the open activation's hold on a changed port (08 R256). -/
def State.mayVerify (s : State) (p : Nat) : Bool :=
  let v := s.port p
  (s.modState == .verify || s.modState == .serving || s.modState == .departing) &&
  v.st == .held && v.enr.enrolled && (v.mir.bank0.valid || v.mir.bank1.valid) && !v.ring.readbackPending &&
  !v.rls.verified && s.actLets p && !v.upd.revertPend && !v.upd.again && (s.hall (hallOf p)).phase == .run

/-- The signature result of the manifest in force for a port (05 R170): 0 pending, 1 valid, 2 not. -/
def State.bootSig (s : State) (p : Nat) : Nat :=
  match tabFind s.kept (s.port p).tree.manNo with
  | none => 2
  | some k =>
    match mPartOf k.bytes p with
    | none => 2
    | some x =>
      if pImage x ≠ (s.port p).tree.imageId ∨ pVersion x ≠ (s.port p).tree.version then 2
      else if k.sig = 2 then 1 else if k.sig = 3 then 2 else 0

/-- A check of a kept manifest that is not known queues its job in the BOOT class (05 R170, 10 R313). -/
def State.bootCheck (s : State) (man : Nat) : State :=
  match tabFind s.kept man with
  | some k =>
    if k.sig ≠ 0 then s
    else if !s.otp.signer (sha384 (mSigner k.bytes)) then { s with kept := tabSet s.kept man { k with sig := 3 } }
    else
      ({ s with kept := tabSet s.kept man { k with sig := 1 } }).queueJob (manifestJob 2 (.boot man) k.bytes)
  | none => s

/-- A port enters VERIFYING: its manifest is checked and its fill starts (06 R190, 05 R169). -/
def State.enterVerifying (s : State) (p : Nat) : State :=
  let s1 := (s.setSt p .verifying).bootCheck (s.port p).tree.manNo
  (s1.modTree p (fun t => { t with sig := s1.bootSig p })).startFill p

/-- An ADOPTED port fills in place (06 R202). -/
def State.adoptFill (s : State) (p : Nat) : State :=
  let s1 := s.bootCheck (s.port p).tree.manNo
  (s1.modTree p (fun t => { t with sig := s1.bootSig p })).startFill p

/-- The manifest result of a start reaches the ports that wait for it. -/
def State.bootResult (s : State) (man : Nat) (ok : Bool) : State :=
  let s1 := match tabFind s.kept man with
    | some k => { s with kept := tabSet s.kept man { k with sig := if ok then 2 else 3 } }
    | none => s
  each ((s1.ports.filter (fun e => e.2.tree.filling && e.2.tree.manNo == man)).map (·.1))
    (fun p t => (t.modTree p (fun x => { x with sig := t.bootSig p })).decideFill p) s1

/-! ### Flights (06 R194 to R197) -/

/-- The port is a candidate for a flight: HELD and verified, or ADOPTED and ready. -/
def Port.ready (v : Port) : Bool :=
  v.rls.verified && v.bankOk && v.mir.refill.isEmpty && (v.st == .held || (v.st == .adopted && !v.rls.switched))

def Port.barred (v : Port) : Bool := v.rls.hold && !v.rls.given

/-- The members of a group that are not left out. -/
def State.groupAll (s : State) (g : Nat) : List Nat :=
  (s.ports.filter (fun e => e.2.rls.group == g && !e.2.rls.leftOut)).map (·.1)

/-- A group is eligible in a hall (06 R194). -/
def State.groupEligible (s : State) (h g : Nat) : Bool :=
  (s.groupAll g).all (fun p => (s.port p).ready) || (s.hall h).grpPartial.contains g

/-- The candidates of a hall in the order of R195, as group number and members. -/
def State.candidates (s : State) (h : Nat) : List (Nat × List Nat) :=
  let ps := (s.portsOf h).filter (fun p => (s.port p).ready && !(s.port p).barred)
  let grouped := fun (p : Nat) => (s.port p).rls.group ≠ 0 && !(s.port p).rls.leftOut
  let gs := ((List.range 256).filter (fun g => g ≠ 0 && s.groupEligible h g)).map (fun g =>
    (g, ps.filter (fun p => grouped p && (s.port p).rls.group == g)))
  gs.filter (fun c => !c.2.isEmpty) ++ (ps.filter (fun p => !grouped p)).map (fun p => (0, [p]))

/-- Take candidates in order up to the limits; the first that does not fit stops the flight. -/
def takeCands (s : State) (maxN : Nat) : List (Nat × List Nat) → Nat → List (Nat × List Nat) → List (Nat × List Nat)
  | [], _, acc => acc
  | c :: t, sum, acc =>
    let add := c.2.foldl (fun a p => a + (s.port p).declaredRate) 0
    let n := acc.foldl (fun a x => a + x.2.length) 0
    if sum + add > flightLimit ∨ n + c.2.length > maxN then acc
    else takeCands s maxN t (sum + add) (acc ++ [c])

/-- The halls that hold members of a group still to be released (log 40). -/
def State.groupHalls (s : State) (g : Nat) : List Nat :=
  ((s.groupAll g).filter (fun p => !(s.port p).served && (s.port p).st != .retired)).map hallOf |>.eraseDups

/-- The gap that a group's release or departure names: the next one of the port's transport (06 R196). -/
def State.namedGap (s : State) (p : Nat) : Option Nat := (s.port p).tie.map (fun t => ((s.tr t).gapNo + 1) % 2 ^ 32)

/-- Step 1 of R197: the ATTN 0x21 of a member with a notice outstanding. -/
def State.releaseNotice (s : State) (p : Nat) : State :=
  if (s.port p).ring.notice && (s.port p).link.up then
    (s.modRing p (fun r => { r with notice := false })).sendAttn p 0x21
  else s

/-- The release of one member (06 R197): its notice first, then the change, bound to a gap or, on a port tied to no
transport, applied at once; it waits for its ATTN_DONE. -/
def State.memberRelease (s : State) (p : Nat) (gap : Option Nat) : State :=
  let s1 := s.releaseNotice p
  let k := if (s1.port p).st = .adopted then ChgKind.takeover else ChgKind.release
  if (s1.port p).tie = none ∧ (s1.port p).waitsNotice k then
    s1.modPort p (fun v => { v with bounds := v.bounds ++ [⟨k, none, none⟩] })
  else s1.request p k gap

/-- A flight decision of a hall (06 R195). -/
def State.decideFlight (s : State) (h : Nat) : State :=
  let x := s.hall h
  if x.releaseEn && (s.modState == .verify || s.modState == .serving) && x.phase == .run && x.flight.isEmpty &&
      !(s.countedSum h > flightLimit) then
    let cs := takeCands s x.flightMax (s.candidates h) (s.countedSum h) []
    let members := cs.flatMap (·.2)
    if members.isEmpty then s
    else
      let span := fun (c : Nat × List Nat) => c.1 ≠ 0 && (s.groupHalls c.1).length > 1
      let taken := (cs.filter span).map (·.1)
      let s1 := s.modHall h (fun y => { y with
        flight := members, flights := satAdd 16 y.flights 1, lastPorts := members.length,
        grpTaken := taken, outq := y.outq ++ taken.map .group,
        grpPartial := y.grpPartial.filter (fun g => !(cs.map (·.1)).contains g) })
      let s2 := each members (fun p t => t.modRls p (fun r => { r with inFlight := true })) s1
      let s3 := each members (fun p t => t.releaseNotice p) s2
      each ((cs.filter (fun c => !span c)).flatMap (·.2)) (fun p t => t.memberRelease p none) s3
  else s

/-- A group's reports have come from every hall that holds members: the Loft issues the release (06 R196). -/
def State.groupRelease (s : State) (g : Nat) : State :=
  let hs := s.groupHalls g
  if hs.all (fun h => (s.hall h).grpKnown.contains g) then
    let ms := (s.groupAll g).filter (fun p => (s.port p).rls.inFlight)
    let s1 := each ms (fun p t => t.memberRelease p (s.namedGap p)) s
    each hs (fun h t => t.modHall h (fun x => { x with
      grpKnown := x.grpKnown.filter (· ≠ g), grpTaken := x.grpTaken.filter (· ≠ g) })) s1
  else s

/-- What a flight keeps: members not yet released that are still ready (06 R195). -/
def State.cleanFlight (s : State) (h : Nat) : State :=
  let x := s.hall h
  let stay := x.flight.filter (fun p => (s.port p).ready)
  if stay = x.flight then s
  else
    let s1 := each (x.flight.filter (fun p => !(s.port p).ready)) (fun p t => t.modPort p (fun v => { v with
      rls := { v.rls with inFlight := false },
      bounds := v.bounds.filter (fun b => match b.kind with
        | .release => false
        | .takeover => false
        | _ => true) })) s
    s1.modHall h (fun y => { y with
      flight := stay, grpTaken := if stay.isEmpty then [] else y.grpTaken })

/-- Flights stop (06 R205): pending members are no members any more. -/
def State.stopFlights (s : State) : State :=
  each [0, 1, 2, 3] (fun h t =>
    let ms := (t.hall h).flight
    let t1 := each ms (fun p u => u.modPort p (fun v => { v with
      rls := { v.rls with inFlight := false },
      bounds := v.bounds.filter (fun b => match b.kind with
        | .release => false
        | .takeover => false
        | _ => true) })) t
    t1.modHall h (fun x => { x with flight := [], grpTaken := [], outq := x.dropGroups, grpKnown := [] })) s

/-! ### Departure (06 R205 to R208) -/

/-- The port has a link to hand back. -/
def Port.linked (v : Port) : Bool := v.link.up && (match v.st with
  | .held => true
  | .verifying => true
  | .released => true
  | .adopted => true
  | .quarantined => true
  | _ => false)

/-- The place of a port in the order of R195. -/
def State.depKey (s : State) (p : Nat) : Nat :=
  let g := (s.port p).rls.group
  (if g = 0 then 256 else g) * 1024 + p

/-- A port recorded as departed without a link: its PHY domain is or goes off (06 R206). -/
def State.departNoLink (s : State) (p : Nat) : State :=
  let s1 := if (s.dom p).on then s.phyOff p 1 0 else s
  s1.modRls p (fun r => { r with departed := true, depPhase := .departed })

def hallPorts (h : Nat) : List Nat := (List.range 256).map (· + 256 * h)

/-- Ports of a hall whose turn has not come. -/
def State.depWaiting (s : State) (h : Nat) : List Nat :=
  (hallPorts h).filter (fun p => (s.port p).rls.depPhase == .none && !(s.port p).rls.departed)

/-- Ports of a hall that are departing now. -/
def State.departing (s : State) (h : Nat) : List Nat :=
  (hallPorts h).filter (fun p => (s.port p).rls.depPhase != .none && !(s.port p).rls.departed)

/-- Every port without a link whose turn has come is recorded: no linked port before it still waits. -/
def State.recordNoLink (s : State) (h : Nat) : State :=
  let wait := s.depWaiting h
  let lk := wait.filter (fun p => (s.port p).linked)
  let first := lk.foldl (fun a p => min a (s.depKey p)) (300 * 1024)
  each (wait.filter (fun p => !(s.port p).linked && s.depKey p < first)) (fun p t => t.departNoLink p) s

/-- The ports that start together with p: its group in the hall, or p alone. -/
def State.depUnit (s : State) (p : Nat) : List Nat :=
  let g := (s.port p).rls.group
  if g = 0 then [p]
  else (s.depWaiting (hallOf p)).filter (fun q => (s.port q).rls.group == g && (s.port q).linked)

/-- A group of more than 16 ports departs in the hall: no other port starts (06 R206). -/
def State.depBlocked (s : State) (h : Nat) : Bool := (s.departing h).any (fun p => (s.port p).rls.depBig)

/-- The turn of p has come and its group fits (06 R206). -/
def State.depTurn (s : State) (p : Nat) : Bool :=
  let h := hallOf p
  let lk := (s.depWaiting h).filter (fun q => (s.port q).linked)
  let k := (s.depUnit p).length
  let n := (s.departing h).length
  s.modState == .departing && lk.contains p && lk.all (fun q => (s.depUnit p).contains q || s.depKey p < s.depKey q) &&
    !s.depBlocked h && (n + k ≤ 16 || n = 0)

/-- Departure steps 1 and 2 begin on a port (06 R206); big tells that more than 16 ports depart with it in its hall. -/
def State.depStart (s : State) (p : Nat) (big : Bool) : State :=
  (s.ringDepart p).modRls p (fun r => { r with depPhase := .drain, depBig := big })

/-- Nothing of a departing port is pending any more. -/
def Port.depDrained (v : Port) : Bool :=
  !v.ring.entries.any (fun e => e.pend) && !v.link.attns.any (fun a => a.cause == 0x20) && v.st != .verifying &&
    v.gln.heal.isNone

/-- One step of a departing port after any command. -/
def State.depStep (s : State) (p : Nat) : State :=
  let v := s.port p
  if v.rls.departed ∨ v.rls.depPhase = .none then s
  else if !v.linked then s.departNoLink p
  else match v.rls.depPhase with
    | .drain =>
      let s1 := if v.ring.entries.any (fun e => (e.state == .held || e.shadow) && e.pend) then s.ringDepart p else s
      if (s1.port p).depDrained then
        (if (s1.hall (hallOf p)).finalSweep && (s1.port p).served && (s1.port p).tree.resident then
          (s1.modRls p (fun r => { r with depPhase := .sweep, swept := false })).nextCycle p s1.hnow
        else s1.modRls p (fun r => { r with depPhase := .ready }))
      else s1
    | .sweep =>
      if (v.rls.swept && v.gln.heal.isNone && v.gln.healQueue.isEmpty) || !v.served then
        s.modRls p (fun r => { r with depPhase := .ready }) else s
    | _ => s

/-- The ports that DEPART with p: all linked members of its group in every hall. -/
def State.depGroup (s : State) (p : Nat) : List Nat :=
  let g := (s.port p).rls.group
  if g = 0 then [p] else (s.ports.filter (fun e => e.2.rls.group == g && e.2.linked && !e.2.rls.departed)).map (·.1)

/-- Step 4 of R206: a group whose members are all ready binds its DEPARTs, in one gap of each transport when it spans
halls. -/
def State.depBind (s : State) (p : Nat) : State :=
  if (s.port p).rls.depPhase != .ready then s
  else
    let ms := s.depGroup p
    if ms.all (fun q => (s.port q).rls.depPhase == .ready) then
      let spans := ((ms.map hallOf).eraseDups).length > 1
      let s1 := each ms (fun q t => t.modRls q (fun r => { r with depPhase := .bound })) s
      each ms (fun q t => t.request q .depart (if spans then s.namedGap q else none)) s1
    else s

/-- The departure record of R208, once every port has departed. -/
def State.depRecord (s : State) : State :=
  if s.modState == .departing && s.depAsked && (List.range 1024).all (fun p => (s.port p).rls.departed) then
    { s with depAsked := false, depRecs := (List.range 1024).map (fun p =>
        let v := s.port p
        ⟨p, v.rls.depMode, v.rls.depRst, v.ring.next, v.rls.lastGlean⟩) }
  else s

/-- What departure does after any command. -/
def State.departMonitor (s : State) : State :=
  if s.modState == .departing then
    let act := (s.ports.filter (fun e => e.2.rls.depPhase != .none && !e.2.rls.departed)).map (·.1)
    let s1 := each act (fun p t => t.depStep p) s
    let s2 := each act (fun p t => t.depBind p) s1
    (each [0, 1, 2, 3] (fun h t => t.recordNoLink h) s2).depRecord
  else s

/-- CTRL_ACK of DEPART (06 R206 step 5, R207): LINK_DOWN, the PHY domain off, ABSENT with DEPARTED set. -/
def State.departAcked (s : State) (p : Nat) (rst : Bool) : State :=
  let v := s.port p
  let direct := v.rls.depMode && v.st != .quarantined && v.st != .held
  let s1 := s.when (direct && rst) (fun t => t.raiseP (pgRls (hallOf p)) 4 p)
  let s2 := (s1.sendLc p 8).phyOff p 0 0 true
  s2.modRls p (fun r => { r with departed := true, depPhase := .departed, depRst := rst })

/-- The module state changes (01 R41, 13 R408): a history entry of root collector source 4. -/
def State.toModState (s : State) (m : ModState) : State :=
  if s.modState = m then s
  else ({ s with modState := m, prevState := s.modState }).raise 0x11 4 (modCode m + 16 * modCode s.modState)

/-- Departure begins (06 R205). -/
def State.departBegin (s : State) : State := { (s.stopFlights.toModState .departing) with depAsked := true, depSent := false }

/-- The port as it was before the departure began. -/
def Port.undepart (v : Port) : Port :=
  let r : RlsPort := { v.rls with depPhase := .none, departed := false, swept := false, depBig := false }
  let g : RingPort := { v.ring with shut := false }
  { v with rls := r, ring := g }

/-- The Owner cancels before the first DEPART (06 R205): the module serves again and flights resume. -/
def State.departCancel (s : State) : State :=
  let ps : Tab Port := s.ports.map (fun e => (e.1, e.2.undepart))
  ({ s with ports := ps, depAsked := false }).toModState .serving

end Sys2Proof.Machine
end

