-- ==== Sys2Proof/Machine/Relmal.lean ====
section
/-! DEFINITION. Relmal records, crossing frames and serial frames as bytes (14 R412, R414, R415, R417, R418). -/

namespace Sys2Proof.Machine

/-! ### Records (R417, R418) -/

/-- FLAGS of a record (14 Table 14.3). -/
def recFlags (resp event secret : Bool) : Nat := b2n resp + 2 * b2n event + 4 * b2n secret

/-- The 24-byte header of a record (14 Table 14.3). -/
def recHeader (type flags len seq ref : Nat) : Bytes :=
  le 1 1 ++ le 1 type ++ le 1 flags ++ zeros 1 ++ le 4 len ++ le 8 seq ++ le 8 ref

/-- A plain record that the module sends: RESP, SEQ and REF 0 (R420). -/
def plainRecord (type : Nat) (body : Bytes) : Bytes := recHeader type (recFlags true false false) body.length 0 0 ++ body

/-- The direction word of the nonce: 1 partner to module, 2 module to partner. -/
def recNonce (dir seq : Nat) : Bytes := le 4 dir ++ le 8 seq

/-- A sealed record that the module sends under its key (R418): header, AES-256-GCM ciphertext, tag. -/
def sealedRecord (key : Bytes) (type seq ref : Nat) (event : Bool) (body : Bytes) : Bytes :=
  let h := recHeader type (recFlags (!event) event true) body.length seq ref
  h ++ gcmSeal key (recNonce 2 seq) h body

/-! ### Crossing frames (R414, R415) -/

/-- A crossing frame: header, payload, CRC-32C over both. -/
def xngFrame (type hp : Nat) (payload : Bytes) : Bytes :=
  let b := le 1 type ++ le 1 hp ++ le 2 payload.length ++ zeros 4 ++ payload
  b ++ le 4 (crc32c b).toNat

/-- The payload of a frame. -/
def xngPayload (frame : Bytes) : Bytes := (frame.drop 8).take (frame.length - 12)

/-- The types of a direction with the LEN each allows at most (14 Table 14.2). -/
def xngTypes (inward : Bool) : List (Nat × Nat) :=
  if inward then [(0x01, 160), (0x02, 4648), (0x03, 8), (0x04, 64)] else [(0x81, 160), (0x82, 4648), (0x83, 8), (0x84, 64)]

/-- The message types that the crossing lets through (R415). -/
def relmalType (t : Nat) : Bool :=
  (0x01 ≤ t && t ≤ 0x0B) || (0x10 ≤ t && t ≤ 0x15) || (0x18 ≤ t && t ≤ 0x1E) || (0x20 ≤ t && t ≤ 0x35) || (0x38 ≤ t && t ≤ 0x3B)

/-- Check 4 of R415 on the record in a frame. -/
def recOk (r : Bytes) : Bool :=
  num r 0 1 == 1 && relmalType (num r 1 1) && 24 + num r 4 4 + (if bit (num r 2 1) 2 then 16 else 0) == r.length

/-- Why the crossing drops a frame that arrives (R415): checks 1 to 4 in their order; a frame that passes all four is dropped only by its rate. -/
inductive XngCheck where
  | crc
  | type
  | len
  | rate
  deriving DecidableEq, Repr

/-- The HP field of a frame. -/
def xngPort (raw : Bytes) : Nat := num raw 1 1

def xngCheck (inward : Bool) (raw : Bytes) : XngCheck :=
  let n := raw.length - 4
  let t := num raw 0 1
  if raw.length < 12 ∨ num raw n 4 ≠ (crc32c (raw.take n)).toNat then .crc
  else match tabFind (xngTypes inward) t with
    | none => .type
    | some most =>
      if 5 < xngPort raw then .type
      else if most < num raw 2 2 ∨ num raw 2 2 ≠ raw.length - 12 then .len
      else if t % 128 ≤ 2 ∧ recOk (xngPayload raw) = false then .type
      else .rate

/-! ### Serial frames (R412) -/

/-- A serial frame on HP4 or HP5: the sync bytes, LEN, one record, CRC-32C over LEN and the record. -/
def serialFrame (record : Bytes) : Bytes :=
  let b := le 4 record.length ++ record
  [0x52, 0x4C] ++ b ++ le 4 (crc32c b).toNat

/-- A frame with LEN 0. -/
def serialPoll : Bytes := serialFrame []

/-- The gateway accepts a frame: its sync bytes, LEN and CRC are right. -/
def serialOk (raw : Bytes) : Bool :=
  10 ≤ raw.length && raw.take 2 == [0x52, 0x4C] && num raw 2 4 + 10 == raw.length &&
    num raw (raw.length - 4) 4 == (crc32c ((raw.drop 2).take (raw.length - 6))).toNat

/-- The record in a frame. -/
def serialRecord (raw : Bytes) : Bytes := (raw.drop 6).take (raw.length - 10)

end Sys2Proof.Machine
end

