-- ==== Sys2Proof/Machine/SesOps.lean ====
section
/-! DEFINITION. Host sessions: opening, requests and their ordered responses, events, closing (14 R417 to R437). -/

namespace Sys2Proof.Machine

def State.ses (s : State) (x : Nat) : Ses := tabGet {} s.sessions x
def State.setSes (s : State) (x : Nat) (v : Ses) : State := { s with sessions := tabSet s.sessions x v }
def State.modSes (s : State) (x : Nat) (f : Ses → Ses) : State := s.setSes x (f (s.ses x))

def allSes : List Nat := [0, 1, 2, 3, 4, 5]
def pgXng : Nat := 0xE0
def pgSvc : Nat := 0xE8

/-! ### History entries as bytes (13 Table 13.6) -/

def HEntry.bytes (e : HEntry) : Bytes :=
  le 4 e.no ++ le 8 e.time ++ le 6 e.pos ++ le 2 e.tr ++ le 2 e.page ++ le 1 e.bit ++ le 1 e.coll ++ le 2 e.port ++
    le 1 (e.react + 8 * b2n e.forced + 16 * b2n e.escal) ++
    le 1 (b2n e.conseq + 2 * b2n e.burst + 4 * b2n e.inj + 8 * b2n e.supp) ++
    le 4 e.parent ++ le 4 e.synd ++ le 4 e.merge ++ le 4 e.lost ++ zeros 4

/-- A queued event: entry number 0 stands for the MISSED event of the entries parent to merge. -/
def eventBody (e : HEntry) : Bytes :=
  if e.no = 0 then [1, 0, 0, 0] ++ le 4 e.parent ++ le 4 e.merge else [0, 0, 0, 0] ++ e.bytes

/-! ### Records to the gateway (14 R427 to R429) -/

/-- The gateway has a record for its partner: on HP4 it waits for a partner frame, on HP5 it goes out in a serial frame (R412). -/
def State.gwTake (s : State) (x : Nat) (record : Bytes) : State :=
  if x = 4 then s.modSes 4 (fun v => { v with gwq := v.gwq ++ [record] })
  else if x = 5 then { s with out := .serial 5 (serialFrame record) :: s.out }
  else s

/-- A partner frame on HP4 is answered by exactly one frame: the next queued record, or a poll (R412, log 102). -/
def State.serialIn (s : State) (x : Nat) : State :=
  if x = 4 then
    ({ s with out := .serial 4 (serialFrame ((s.ses 4).gwq.headD [])) :: s.out }).modSes 4 (fun v => { v with gwq := v.gwq.drop 1 })
  else s

/-- The n-th next sealed record of a session, under its sending key (R418). -/
def State.seal (s : State) (x n type ref : Nat) (event : Bool) (body : Bytes) : Bytes :=
  sealedRecord (s.slot (17 + 2 * x)).key type ((s.ses x).txSeq + 1 + n) ref event body

/-- A response as it leaves: its record in a SEALED_OUT frame. -/
def responseOut (x type : Nat) (body record : Bytes) : Output := .response x type body (xngFrame 0x82 x record)

/-- An event as it leaves. -/
def eventOut (x : Nat) (body record : Bytes) : Output := .event x body (xngFrame 0x82 x record)

/-- A record waits in the crossing until the gateway takes it. -/
def Ses.waits (v : Ses) (now : Nat) (record : Bytes) : Ses :=
  { v with recs := v.recs ++ [(now, record)], handed := some (v.handed.getD now) }

/-- The oldest record leaves the crossing. -/
def Ses.leaves (v : Ses) : Ses := { v with recs := v.recs.drop 1, handed := (v.recs.drop 1).head?.map (·.1) }

/-- Hand one record to the crossing; the next waits until the gateway has taken it (log 41). Sealing it is a use of the
session's sending key (09 R285). -/
def State.hand (s : State) (x : Nat) (o : Output) (record : Bytes) : State :=
  (({ s with out := o :: s.out }).countUse (17 + 2 * x)).modSes x (fun v => { v.waits s.lnow record with txSeq := v.txSeq + 1 })

/-- The window of a reopening challenge opens in the cycle in which its response is sent (R436). -/
def State.chalSent (s : State) (x type : Nat) : State :=
  match s.svc.chal with
  | some (y, sc, nc, _) =>
    if type = 0x39 ∧ y = x then { s with svc := { s.svc with chal := some (y, sc, nc, mkWin s.lnow 360000000000) } } else s
  | none => s

/-- Hand the next record of a session: the head of its responses when ready, else its oldest event (R427, R428). -/
def State.flush (s : State) (x : Nat) : State :=
  let v := s.ses x
  if v.st ≠ 2 ∨ v.handed.isSome then s
  else
    let ev := fun (t : State) => match v.events with
      | e :: rest =>
        let s1 := t.modSes x (fun u => match u.missed with
          | some m => { u with events := rest ++ [{ no := 0, parent := m.1, merge := m.2 }], missed := none, missedF := true }
          | none => { u with events := rest })
        let r := s.seal x 0 0x2C 0 true (eventBody e)
        s1.hand x (eventOut x (eventBody e) r) r
      | [] => t
    match v.outst with
    | r :: rest =>
      match r.resp with
      | some b =>
        let rc := s.seal x 0 r.type r.ref false b
        ((s.modSes x (fun u => { u with
          outst := rest, lastResp := if r.seq = u.reqNo then some (r.type, b, rc) else u.lastResp })).hand x (responseOut x r.type b rc) rc).chalSent x
            r.type
      | none => ev s
    | [] => ev s

def State.flushAll (s : State) : State := each allSes (fun x t => t.flush x) s

/-- The answer of an accepted request (R427). -/
def State.respond (s : State) (x seq : Nat) (b : Bytes) : State :=
  s.modSes x (fun v => { v with outst := v.outst.map (fun r => if r.seq = seq && r.resp.isNone then { r with resp := some b } else r) })

/-- A history entry reaches the event queues (R428). -/
def State.queueEvent (s : State) (e : HEntry) : State :=
  each (allSes.filter (fun x => (s.ses x).st = 2 && (s.ses x).minCode ≤ e.react)) (fun x t =>
    t.modSes x (fun v =>
      if v.events.length ≥ 64 then
        { v with missed := match v.missed with
            | some m => some (m.1, e.no)
            | none => some (e.no, e.no) }
      else { v with events := v.events ++ [e] })) s

/-! ### Closing (14 R430, Table 14.7) -/

/-- The selectors, latches, line-position stage and LP_RESULT of a session start at 0 (17 R483). -/
def State.clearSel (s : State) (x : Nat) : State :=
  { s with sel := s.sel.filter (fun e => e.1 % 8 ≠ 1 + x), latch := s.latch.filter (fun e => e.1 % 8 ≠ 1 + x),
           lpStage := s.lpStage.filter (fun e => e.1 ≠ 1 + x), lpResult := s.lpResult.filter (fun e => e.1 ≠ 1 + x) }

/-- The responses that a closing session still sends, then its closing EVENT: each with its record (R430). -/
def State.closing (s : State) (x : Nat) (reason : Option Nat) : List (Output × Bytes) :=
  let v := s.ses x
  let ready := v.outst.filterMap (fun r => r.resp.map (fun b => (r, b)))
  let resp := (ready.zip (List.range ready.length)).map (fun e =>
    let rc := s.seal x e.2 e.1.1.type e.1.1.ref false e.1.2
    (responseOut x e.1.1.type e.1.2 rc, rc))
  let evs := match reason with
    | some c =>
      if v.st = 2 then
        let b := [2, BitVec.ofNat 8 c, 0, 0]
        let rc := s.seal x ready.length 0x2C 0 true b
        [(eventOut x b rc, rc)]
      else []
    | none => []
  resp ++ evs

/-- A session closes: answered requests are sent, then the closing EVENT, then DROP; its slots are cleared. -/
def State.closeSes (s : State) (x : Nat) (reason err : Option Nat) : State :=
  let v := s.ses x
  if v.st = 0 then s
  else
    let last := s.closing x reason
    let s0 := { s with out := (last.map Prod.fst ++ [Output.drop x (xngFrame 0x83 x [])]).reverse ++ s.out }
    let fresh : Ses := { partner := v.partner, reqNo := v.reqNo, rxSeq := v.rxSeq, txSeq := v.txSeq + last.length, fails := v.fails,
                         failAt := v.failAt, blockEnd := v.blockEnd, requests := v.requests, refused := v.refused,
                         dropped := v.dropped, idleS := v.idleS, roles := v.roles, gwq := v.gwq }
    let s1 := each (v.recs.map Prod.snd ++ last.map Prod.snd) (fun r (t : State) => t.gwTake x r) (s0.setSes x fresh)
    let s2 := s1.clearSel x
    let s3 := (s2.clearSlot (16 + 2 * x)).clearSlot (17 + 2 * x)
    match err with
    | some b => s3.raise (pgSes x) b
    | none => s3

def State.closeAll (s : State) (reason : Option Nat) : State := each allSes (fun x t => t.closeSes x reason none) s

/-! ### Access (14 R424, R435) -/

/-- The role whose rights a session has: a LIMITED Service session has the Monitor's. -/
def Ses.eff (v : Ses) : Nat := if v.role = 3 ∧ v.limited then 4 else v.role

/-- The flags of ACCEPT byte 2. -/
def Ses.flags (v : Ses) : Nat := b2n v.limited + 2 * b2n v.svc + 4 * b2n v.test

/-- Access that a session holds by Table 14.11 when it opens or an ACCESS bit is programmed. -/
def State.access (s : State) (x : Nat) (v : Ses) : Ses :=
  if v.role = 3 then
    let svc := !s.otp.svcClosed || x = 5 || v.svcRe
    { v with svc := svc, limited := !svc, test := svc && (!s.otp.testClosed || v.testRe) }
  else { v with svc := false, limited := false, test := false }

/-! ### Requests (14 R419, R426) -/

/-- A family's answer that is not OK: its code, then fields whose values the spec does not state (log 48). -/
def State.failBody (s : State) (res n : Nat) : Bytes × State :=
  (le 1 res ++ (List.range n).map (fun i => BitVec.ofNat 8 (Config.freeNat (s.freeCtr + i))), { s with freeCtr := s.freeCtr + n })


/-- A failing answer whose n reserved or unused bytes are 0, then k bytes the spec does not state. -/
def State.failRest (s : State) (res n k : Nat) : Bytes × State :=
  let (b, t) := s.failBody res k
  (b.take 1 ++ zeros n ++ b.drop 1, t)

/-- The last Loft cycle of a session's idle window (R430). -/
def Ses.idleEnd (v : Ses) : Nat := (mkWin v.lastRec (v.curIdle * 600000000)).dl

/-- A failure of a host port (R423): the fifth within 60 s blocks it. -/
def State.sesFailure (s : State) (x : Nat) : State :=
  let v := s.ses x
  let now := s.lnow
  let first := v.fails = 0 || now > v.failAt + 35999999999 || v.fails ≥ 5
  let n := if first then 1 else v.fails + 1
  let s1 := s.modSes x (fun u => { u with fails := n, failAt := if first then now else u.failAt })
  if n = 5 then (s1.modSes x (fun u => { u with blockEnd := some (now + 35999999999) })).raise (pgSes x) 7 else s1

/-- The PROOF window of an opening session has passed. -/
def State.proofLapsed (s : State) (x : Nat) : Bool :=
  match (s.ses x).proofWin with
  | some w => (s.ses x).st == 1 && w.dl < s.lnow
  | none => false

/-- A record handed over has not been taken within its 5 s (R429). -/
def Ses.untaken (v : Ses) (now : Nat) : Bool :=
  match v.handed with
  | some a => a + 3000000000 ≤ now
  | none => false

/-- What a session's windows that have passed have done (00 R7): a record not taken (R429), no record for IDLE_S (R430), no
PROOF (R423); of the first two the earlier one closes the session. -/
def State.lapse (s : State) (x : Nat) : State :=
  let v := s.ses x
  if v.untaken s.lnow && (v.idleEnd ≥ s.lnow || v.untaken v.idleEnd) then s.closeSes x none (some 4)
  else if v.st = 2 ∧ v.idleEnd < s.lnow then s.closeSes x (some 5) (some 6)
  else if s.proofLapsed x then (s.closeSes x none none).sesFailure x
  else s

/-- A sealed request of a session: accepted, its opening a use of the receiving key (09 R285), or the session closes (R419, R288); refused with RIGHTS, BUSY or LENGTH
(R426); or carried out, its response given at once or later under its sequence number. -/
def State.serve (s : State) (x type : Nat) (right lenOk : Bool) (act : Nat → State → Option Bytes × State) : State :=
  if !s.alive then s else
  let s := s.lapse x
  let v := s.ses x
  if v.st ≠ 2 then ((s.serialIn x).closeSes x none none).raise (pgSes x) 1
  else if !chainOk s.gran.slots keySlots (16 + 2 * x) || !chainOk s.gran.slots keySlots (17 + 2 * x) then
    ((s.serialIn x).staleOf (16 + 2 * x)).closeSes x none (some 5)
  else
    let seq := v.reqNo + 1
    let code := if !right then 1 else if v.outst.length ≥ 64 then 2 else if !lenOk then 3 else 0
    let s1 := ((s.serialIn x).countUse (16 + 2 * x)).modSes x (fun u => { u with
      rxSeq := u.rxSeq + 1, reqNo := seq, lastResp := none, lastRec := s.lnow, requests := satAdd 16 u.requests 1,
      outst := u.outst ++ [{ seq := seq, type := type, ref := u.rxSeq + 1 }] })
    if code ≠ 0 then
      let s2 := (s1.modSes x (fun u => { u with refused := satAdd 16 u.refused 1 })).respond x seq [0xFF, BitVec.ofNat 8 code]
      if code = 1 then s2.raise (pgSes x) 2 else if code = 2 then s2.raise (pgSes x) 3 else s2
    else
      let (r, s2) := act seq s1
      match r with
      | some b => s2.respond x seq b
      | none => s2

/-- A request that is answered at once. -/
def State.serveNow (s : State) (x type : Nat) (right lenOk : Bool) (act : State → Bytes × State) : State :=
  s.serve x type right lenOk (fun _ t => let r := act t; (some r.1, r.2))

/-- A request that changes nothing. -/
def State.serveRead (s : State) (x type : Nat) (right lenOk : Bool) (ans : State → Bytes) : State :=
  s.serveNow x type right lenOk (fun t => (ans t, t))

/-! ### Opening (14 R420 to R423) -/

def openSlot (role : Nat) : Nat := if role = 1 then 8 else if role = 4 then 9 else if role = 2 then 10 else 11

/-- The opening key of a role (R421, R422). -/
def State.openKey (s : State) (role : Nat) : Bytes :=
  let k := (s.slot (openSlot role)).key
  if role = 1 ∨ role = 4 then k else sub k 20 48

/-- A plain record to the gateway, in a PLAIN_OUT frame. -/
def State.plainOut (s : State) (x type : Nat) (b : Bytes) : State :=
  ({ s with out := .response x type b (xngFrame 0x81 x (plainRecord type b)) :: s.out }).gwTake x (plainRecord type b)

/-- A port is blocked until the last cycle of its block (R423). -/
def Ses.blocked (v : Ses) (now : Nat) : Bool :=
  match v.blockEnd with
  | some d => now ≤ d
  | none => false

/-- The result code of a HELLO (R420, R425; the order of the checks: log 42). -/
def State.helloCode (s : State) (x : Nat) (b : Bytes) : Nat :=
  let v := s.ses x
  let role := num b 1 1
  if v.blocked s.lnow then 2
  else if v.st ≠ 0 then 4
  else if num b 0 1 ≠ 1 then 5
  else if role = 0 ∨ role > 4 ∨ !bit v.roles (role - 1) ∨ (s.modState = .hallBringup ∧ role ≠ 4) then 1
  else if (s.slot (openSlot role)).alg = 0 then 3
  else 0

/-- A warden runs on the active landing. -/
def State.wardenRuns (s : State) : Bool := s.loft.landing s.loft.active = 1

/-- HELLO (R420, R425, 17 R494). -/
def State.helloRecord (s : State) (x : Nat) (b : Bytes) : State :=
  if s.modState = .cold ∨ s.modState = .loftBoot ∨ s.modState = .shutter ∨ !s.wardenRuns ∨ !s.loft.katPass ∨ b.length ≠ 68 then
    s.modSes x (fun v => { v with dropped := v.dropped + 1 })
  else
    let s := s.lapse x
    let c := s.helloCode x b
    if c ≠ 0 then s.plainOut x 2 (BitVec.ofNat 8 c :: zeros 103)
    else
      (s.modSes x (fun v => { v with st := 1, role := num b 1 1, hello := b, rxSeq := 0, txSeq := 0, curIdle := v.idleS })).queueJob
        (PkeJob.sized { cls := 3, tag := .sesKey x, at_ := 0, cmd := 3, alg := 9, new := true, dest := 16 + 2 * x, usage := 16 })

/-- The ephemeral key was generated: the ECDH job follows. -/
def State.sesKeyDone (s : State) (x : Nat) (ok : Bool) (pub : Bytes) : State :=
  if (s.ses x).st ≠ 1 then s
  else if !ok then s.closeSes x none none
  else (s.modSes x (fun v => { v with chal := pub })).queueJob
    (PkeJob.sized { cls := 3, tag := .sesEcdh x, at_ := 0, cmd := 4, alg := 9, keySlot := 16 + 2 * x, dest := 17 + 2 * x,
                    ins := [sub (s.ses x).hello 36 32] })

/-- The shared secret is there: the CHALLENGE is sent and the PROOF window opens (R420, R423). -/
def State.sendChallenge (s : State) (x : Nat) (ok : Bool) : State :=
  let v := s.ses x
  if v.st ≠ 1 then s
  else if !ok then s.closeSes x none none
  else
    let (nm, s1) := s.draw 32
    let ver := (s.slot (openSlot v.role)).key
    let tail := if v.role = 2 ∨ v.role = 3 then sub ver 0 20 else zeros 20
    let xm := v.chal.take 32 ++ zeros (32 - v.chal.length)
    let body := zeros 4 ++ nm ++ xm ++ s.moduleId ++ tail
    (s1.modSes x (fun u => { u with chal := body, proofWin := some (mkWin s.lnow 6000000000) })).plainOut x 2 body

/-- PROOF (R421, R423): checking P, making M and deriving the two traffic keys are uses of the opening key (09 R285). -/
def State.proofRecord (s : State) (x : Nat) (b : Bytes) : State :=
  let v := s.ses x
  match v.proofWin with
  | none => s.modSes x (fun u => { u with dropped := u.dropped + 1 })
  | some w =>
    if v.st ≠ 1 then s.modSes x (fun u => { u with dropped := u.dropped + 1 })
    else if s.lnow > w.dl then
      ((s.closeSes x none none).sesFailure x).modSes x (fun u => { u with dropped := u.dropped + 1 })
    else
      let th := sha384 (v.hello ++ v.chal)
      let z := (s.slot (17 + 2 * x)).key
      let k := s.openKey v.role
      let fail := fun (bitNo : Nat) =>
        ((((if bitNo = 0 then s.countUse (openSlot v.role) else s.staleOf (openSlot v.role)).plainOut x 4 (1 :: BitVec.ofNat 8 x :: zeros 50)).closeSes x none
          none).raise (pgSes x) bitNo).sesFailure x
      if !chainOk s.gran.slots keySlots (openSlot v.role) then fail 5
      else if b ≠ hmacSha384 k (ascii "RELMAL-PROOF-P" ++ th ++ z) then fail 0
      else
        let par := openSlot v.role
        let s0 := (((s.countUse par).countUse par).countUse par).countUse par
        let s1 := s0.fillSlot (16 + 2 * x) 1 8 false false par (kdf k "RELMAL-P2M" (th ++ z) 256)
        let s2 := s1.fillSlot (17 + 2 * x) 1 8 false false par (kdf k "RELMAL-M2P" (th ++ z) 256)
        let s3 := (s2.modSes x (fun u => s2.access x { u with
          st := 2, proofWin := none, lastRec := s.lnow, hello := [], chal := [] })).clearSel x
        s3.plainOut x 4 ([0, BitVec.ofNat 8 x, BitVec.ofNat 8 (s3.ses x).flags, 0] ++
          hmacSha384 k (ascii "RELMAL-PROOF-M" ++ th ++ z))

end Sys2Proof.Machine
end

