-- ==== Sys2Proof/Machine/LifeOps.lean ====
section
/-! DEFINITION. Resets and the start: hall resets (13 R396, R398), Loft watchdog and module resets (12 R369, 13 R397), landing
restarts and forced fallbacks (12 R364, 08 R268), the shutter (06 R211), and the boot ROM (06 R188, 09 R276, 08 R265). -/

namespace Sys2Proof.Machine

/-! ### Reaction shadows (13 R395) -/

def dPort (p : Nat) : Domain := .port (Fin.ofNat 1024 p)
def dGal (g : Nat) : Domain := .gallery (Fin.ofNat 16 g)
def dHall (h : Nat) : Domain := .hall (Fin.ofNat 4 h)
def dEng (e : Nat) : Domain := .engine (Fin.ofNat 8 e)
def dSes (x : Nat) : Domain := .session (Fin.ofNat 6 x)

/-- Now on the deciding clock of a domain: the Loft clock for engines and sessions, else the hall clock. -/
def State.dnow (s : State) (d : Domain) : Nat :=
  match d with
  | .engine _ => s.lnow
  | .session _ => s.lnow
  | _ => s.hnow

/-- A reset opens the shadow of its domain, or extends an open one, which keeps its parent. -/
def State.openShadow (s : State) (d : Domain) (dl : Option Nat) (parent : Nat) : State :=
  s.modRoot (fun r =>
    if r.shadows.any (fun x => x.dom == d) then
      { r with shadows := r.shadows.map (fun x => if x.dom == d then { x with dl := dl } else x) }
    else { r with shadows := r.shadows ++ [{ dom := d, opn := s.dnow d, dl := dl, parent := parent }] })

/-- The end of a reset fixes the end of its shadow. -/
def State.shadowEnds (s : State) (d : Domain) (dl : Nat) : State :=
  s.modRoot (fun r => { r with shadows := r.shadows.map (fun x => if x.dom == d then { x with dl := some dl } else x) })

/-- A reset of a page's domain disarms its injection (13 R407). -/
def State.disarmPages (s : State) (ps : List Nat) : State :=
  each ps (fun p t => if (t.hdr p).injArmed then t.disarm p else t) s

/-! ### Link and gallery resets (13 R394) -/

/-- A link reset of a port: LINK_DOWN, ABSENT, IDLE for 10 ms. -/
def State.linkResetPort (s : State) (p evCause evTime : Nat) : State :=
  let pg := pgLs (galOf p)
  let s1 := if (s.hdr pg).injArmed && (s.hdr pg).injPort == p then s.disarm pg else s
  if (s1.dom p).on then s1.linkDown p true evCause evTime else s1.raisePort p 0

def State.linkReset (s : State) (p parent evCause evTime : Nat) : State :=
  (s.openShadow (dPort p) (some (s.hnow + 8007999)) parent).linkResetPort p evCause evTime

/-- A reset of the gallery logic and of each of its 64 links. -/
def State.galleryReset (s : State) (g parent evTime : Nat) : State :=
  let s1 := s.openShadow (dGal g) (some (s.hnow + 8007999)) parent
  let s2 := s1.modRoot (fun r => { r with galResets := tabSet r.galResets g (satAdd 16 (tabGet 0 r.galResets g) 1) })
  let s3 := s2.disarmPages [pgGal g, pgPw g]
  each ((List.range 64).map (· + 64 * g)) (fun p t => t.linkResetPort p 0 evTime) s3

/-! ### What resets leave (13 R398, log 43) -/

/-- An update of a port in an open activation when its hall's memory is lost (08 Table 8.6, Table 8.10). -/
def UpdPort.afterReset (u : UpdPort) (openAct : Bool) : UpdPort :=
  if openAct && u.changed && !u.revertPend && !u.failed then
    { u with copying := false, copied := false, units := [], checks := [], retried := [], again := true,
             confWin := if u.confirmed then u.confWin else none }
  else { u with copying := false, units := [], checks := [] }

/-- A port after its hall's registers and DRAM were lost: the enrolment record, the journal's entries and the barn's
identity of its image stay. -/
def Port.afterReset (v : Port) (openAct : Bool) : Port :=
  let m : MirPort := { enrLen := v.mir.enrLen, sck := v.mir.sck, band := v.mir.band, ponMode := v.mir.ponMode, pon4b := v.mir.pon4b }
  let r : RingPort := { next := v.ring.next, entries := v.ring.entries, notice := v.ring.notice, commitT := v.ring.commitT,
                        refuseT := v.ring.refuseT, partialT := v.ring.partialT, lostT := v.ring.lostT,
                        dropped := v.ring.dropped, commits := v.ring.commits }
  let t : TreePort := { span := v.tree.span, spanState := v.tree.spanState, manRoot := v.tree.manRoot, imageId := v.tree.imageId,
                        version := v.tree.version, kept := v.tree.kept, copySlot := v.tree.copySlot, manNo := v.tree.manNo }
  let k : RlsPort := { declared := v.rls.declared, departed := v.rls.departed, depPhase := v.rls.depPhase, depRst := v.rls.depRst, depBig := v.rls.depBig,
                       lastGlean := v.rls.lastGlean, retiring := v.rls.retiring }
  let w : Pwd := { resets := v.pwd.resets }
  let c : TapKeys := { current := v.key.current, pending := v.key.pending }
  { st := v.st, qcause := v.qcause, mir := m, ring := r, tree := t, rls := k, enr := v.enr, pwd := w, key := c,
    upd := v.upd.afterReset openAct, tie := v.tie, notify := v.notify }

/-- The pages whose registers a hall reset returns to their reset values. -/
def hallPage (h page : Nat) : Bool :=
  (pgHall h ≤ page && page < pgHall h + 8) || (pgGal (4 * h) ≤ page && page < pgGal (4 * h) + 16)

/-- The registers, queues and DRAM of a hall after a reset; HCOL_STAT (in the root collector's table) survives. -/
def State.hallClear (s : State) (h : Nat) (ph : HallPhase) : State :=
  let x := s.hall h
  let y : Hall := { phase := ph, journal := x.journal, jBad := x.jBad, dramWeak := x.dramWeak, recNo := x.recNo, hallResets := x.hallResets, flights := x.flights,
                    lastPorts := x.lastPorts, outq := x.dropGroups, inq := x.dropNotes }
  let ps : Tab Port := s.ports.map (fun e => if e.1 / 256 = h then (e.1, e.2.afterReset s.act.opened) else e)
  let inH := fun (k : Nat) => hallPage h (k / 8 / 4096)
  let s1 := { s with
    ports := ps, mirror := s.mirror.filter (fun e => e.1 / 256 ≠ h),
    portErr := s.portErr.filter (fun e => e.1 / 256 ≠ h), hdrs := s.hdrs.filter (fun e => !hallPage h e.1),
    sel := s.sel.filter (fun e => !inH e.1), latch := s.latch.filter (fun e => !inH e.1) }
  (s1.setHall h y).modRoot (fun r => { r with
    gal := r.gal.filter (fun e => e.1 / 4 ≠ h), galResets := r.galResets.filter (fun e => e.1 / 4 ≠ h) })

/-- Tap PHY and gallery domains of a hall go off: every port without RETIRED is ABSENT. -/
def State.hallDark (s : State) (h evCause evTime : Nat) : State :=
  let s1 := each (hallPorts h) (fun p t => t.phyOff p evCause evTime) s
  let s2 := each [0, 1, 2, 3] (fun k t => t.domSet (1024 + 4 * h + k) false) s1
  s2.modHall h (fun x => { x with galOn := 0 })

/-- Every trained link of a hall is about to go down: a port error for each (02 R86, 13 R387). -/
def State.linksLost (s : State) (h : Nat) : State :=
  each ((s.portsOf h).filter (fun p => (s.port p).link.phase == .trained)) (fun p t => t.raisePort p 0) s

/-- A hall FAULTED (13 R396): its registers but the hall collector page's read 0, its ports are ABSENT. -/
def State.hallFault (s : State) (h evTime : Nat) : State :=
  let s1 := (((s.linksLost h).hallDark h 0 evTime).hallClear h .faulted).shadowEnds (dHall h) (s.hnow + 7999)
  s1.raise (pgHcol h) 3

/-! ### Hall reset (13 R398, Table 13.11) -/

/-- Step 1: admission and FL_OPs stop, platforms are reset, the four control registers take their reset values. -/
def State.hallResetStart (s : State) (h parent evTime : Nat) : State :=
  let x := s.hall h
  if x.phase = .off then s
  else
    let s1 := (s.openShadow (dHall h) none parent).modHall h (fun y => { y with hallResets := satAdd 16 y.hallResets 1 })
    match x.phase with
    | .faulted => (s1.modHall h (fun y => { y with phase := .inReset })).domSet (1040 + h) true
    | .run =>
      let s2 := s1.modHall h (fun y => { y with
        phase := .awaitAcks, ackWin := some (mkWin s.hnow 16000), serveEn := false, logUnk := true, admitEn := false,
        commitEn := false, glnEn := false, cycleS := 900, ratePct := 5, releaseEn := false, finalSweep := false, flight := [],
        grpTaken := [], outq := y.dropGroups, grpKnown := [], grpPartial := [] })
      each (s2.portsOf h) (fun p t =>
        if (t.port p).st = .released ∨ (t.port p).st = .adopted then t.toHeld p false 2 true evTime else t.ctrlReset p) s2
    | .awaitAcks => s1.modHall h (fun y => { y with ackWin := some (mkWin s.hnow 16000) })
    | _ => s1.modHall h (fun y => { y with phase := .inReset, trained := false, replayed := false })

/-- Steps 3 and 4: domains off, the controller in reset, DRAM and the pairing key store lost. -/
def State.hallResetDown (s : State) (h : Nat) : State := ((s.linksLost h).hallDark h 2 s.cyc).hallClear h .inReset

/-- Step 5: reset released, DRAM training starts. -/
def State.hallReleased (s : State) (h : Nat) : State := s.modHall h (fun x => { x with phase := .training, trained := false, replayed := false })

/-- Training and replay are done: the hall runs. -/
def State.hallUp (s : State) (h : Nat) : State :=
  let x := s.hall h
  if x.phase = .training ∧ x.trained ∧ x.replayed then s.modHall h (fun y => { y with phase := .run }) else s

/-- What one journal record says of a port's notice (04 R151): a CHECKPOINT states it, a STATE record to REFUSED, PARTIAL or
LOST arms it. -/
def noticeStep (p : Nat) (a : Bool) (r : JRec) : Bool :=
  if r.port ≠ p then a
  else if r.type = 5 then bit (num r.body 30 1) 0
  else if r.type = 2 then a || num r.body 1 1 ≥ 5
  else a

/-- The replay of a hall's journal (04 R151). An entry that a quarantine holds stays HELD with QHELD and no window until an Owner or
Service decision (DESIGN CHOICE, log 98: R151 does not say what releases it). -/
def State.hallReplay (s : State) (h : Nat) : State :=
  let j := (s.hall h).journal
  let cl := (s.hall h).classes
  let now := s.hnow
  each (s.portsOf h) (fun p t => t.modRing p (fun r => { r with
    notice := j.foldl (noticeStep p) false, rebuild := true, jobs := [],
    entries := r.entries.map (fun e =>
      if e.state == .committing then { e with readback := true, win := none }
      else if e.state == .held && !e.qheld then
        { e with win := some (mkWin now ((tabGet ({} : AuthClass) cl e.cls).timeout * 800000000)) }
      else if e.final then { e with inView := false, holds := false, win := none } else e) })) s

/-! ### COLD: what survives the Loft reset (log 43) -/

/-- An epoch burn that a reset cut (09 R296): copy A, and copy B only after it, may have been programmed. -/
def State.epochCut (s : State) : State :=
  match s.kOpen with
  | none => s
  | some _ =>
    let a := Config.freeNat s.freeCtr % 2 = 1
    let b := a && Config.freeNat (s.freeCtr + 1) % 2 = 1
    { s with freeCtr := s.freeCtr + 2, otp := s.otp.burnEpoch s.gran.burnBit a b }

/-- The state of an OTP array whose running command a reset cut (11 R343, Table 11.8): which cells were reached is free. -/
def State.otpCut (s0 : State) : State :=
  let s := s0.epochCut
  match s.otp.run with
  | none => s
  | some c =>
    let b := Config.freeNat s.freeCtr % 40
    let free := Config.freeNat (s.freeCtr + 1) % 2 = 1
    let w := Config.freeNat (s.freeCtr + 2) % 2
    { s with freeCtr := s.freeCtr + 3,
             otp := s.otp.finish c { failedBit := some b, weak := BitVec.ofNat 40 (w * 2 ^ b) } free }

def Otp.afterReset (o : Otp) : Otp := { rows := o.rows, weak := o.weak, leaky := o.leaky, fuses := o.fuses }

/-- A transport at module start is idle (06 R192); its chain and parameter block are kept. -/
def Transport.afterReset (x : Transport) : Transport :=
  { blk := x.blk, chain := x.chain, everMade := x.everMade, recNo := x.recNo, docNo := x.docNo, sheafNo := x.sheafNo,
    signed := x.signed, signedChain := x.signedChain, recLast := x.recNo - 1, kept := x.kept, sheaves := x.sheaves, lastState := x.lastState }

/-- An encoder input after the Loft reset: the level of its DP input stays, and is the settled one. -/
def Encoder.afterReset (e : Encoder) : Encoder := { raw := e.raw, dp := e.raw }

def Port.afterLoft (v : Port) (openAct : Bool) : Port :=
  let w := v.afterReset openAct
  let k : RlsPort := { declared := v.rls.declared, lastGlean := v.rls.lastGlean }
  { w with st := if v.st = .retired then .retired else .absent, qcause := 0, rls := k }

/-- Blocks of staged images whose writes were not durable are lost, and the tree of an image that is not CLOSED (08 R249, Table 8.10:
STAGE_CLOSE is sent again). -/
def State.lostBlocks (s : State) : Tab Image :=
  s.images.map (fun e => (e.1, { e.2 with
    closing := none, leaves := if e.2.st = 1 then [] else e.2.leaves, root := if e.2.st = 1 then [] else e.2.root,
    blocks := e.2.blocks.filter (fun b => !s.barnQ.any (fun q => match q with
      | .block k n _ _ => k == e.1 && n == b.1
      | _ => false)) }))

def State.lostHeals (s : State) : Tab (Nat × Bytes) :=
  s.healCopies.filter (fun e => !s.barnQ.any (fun q => match q with
    | .healStart p => p == e.1
    | _ => false))

def Kept.unsig (k : Kept) : Kept := { k with sig := 0 }
def ManSlot.afterReset (m : ManSlot) : ManSlot := { bytes := m.bytes, complete := m.complete }

def Pwr.afterReset (w : Pwr) : Pwr :=
  { mainsOk := w.mainsOk, ready := w.ready, vrms := w.vrms, freq := w.freq, bulk := w.bulk,
    inputW := w.inputW, bankMv := w.bankMv, energy := w.energy, capMf := w.capMf, esr := w.esr, full := w.full, m0 := w.m0 }

/-- The module is COLD: everything but the barn, the OTP array, the retained store, the Loft flash, and the supply's and
sensors' own readings takes its reset value; the Loft reset is held for at least 500 ms (06 R214, 12 Table 12.4). -/
def State.loftClear (s0 : State) (causeBit : Nat) : State :=
  let s := s0.otpCut
  let hs : Tab Hall := s.halls.map (fun e => (e.1, { journal := e.2.journal, jBad := e.2.jBad, recNo := e.2.recNo, dramWeak := e.2.dramWeak }))
  let ps : Tab Port := s.ports.map (fun e => (e.1, e.2.afterLoft s.act.opened))
  let rt : Root := { consec := s.root.consec, closed := s.root.pulseEnd.isSome, pulseEnd := s.root.pulseEnd }
  let lf : Loft := { cause := setBit32 s.loft.cause causeBit, relAt := s.lnow + 300000000, thermalHold := causeBit == 9 }
  let ac : Act := { s.act with standbyReady := false, readyDl := none, trialWin := none, parked := false, fallback := false }
  let trs : Tab Transport := s.trs.map (fun e => (e.1, e.2.afterReset))
  let en : Tab Encoder := s.encs.map (fun e => (e.1, e.2.afterReset))
  let ks : Tab Kept := s.kept.map (fun e => (e.1, e.2.unsig))
  let ms : Tab ManSlot := s.manSlots.map (fun e => (e.1, e.2.afterReset))
  let gr : Granary := { opNo := s.gran.opNo, lastOut := s.gran.lastOut, lastOp := s.gran.lastOp }
  { time := s.time, pending := s.pending, out := s.out, freeCtr := s.freeCtr, ports := ps, halls := hs, trs := trs, encs := en, root := rt,
    loftAt := s.loftAt, prevState := s.modState, ledger := s.ledger, ledgerNo := s.ledgerNo, ledgerFull := s.ledgerFull, sealUsed := s.sealUsed, areaHigh := s.areaHigh,
    excLog := s.excLog, copies := s.copies, images := s.lostBlocks, healCopies := s.lostHeals, kjournal := s.kjournal,
    kRecNo := s.kRecNo, kstore := s.kstore, kOpen := s.kOpen, certs := s.certs, otp := s.otp.afterReset, maxPe := s.maxPe,
    badBlocks := s.badBlocks, manSlots := ms, kept := ks, keptNo := s.keptNo, ulog := s.ulog, uRecNo := s.uRecNo, act := ac,
    wdnMan := s.wdnMan, revCopies := s.revCopies, wslots := s.wslots, depRecs := s.depRecs, retained := s.retained, loft := lf,
    gran := gr, pwr := s.pwr.afterReset, env := s.env }

/-! ### The alarm contact (13 R392) -/

/-- An alarm pulse of at least 50 ms starts, or the running one is extended. -/
def State.alarmPulse (s : State) : State :=
  s.modRoot (fun r => { r with
    closed := true, pulses := if r.pulseEnd.isSome then r.pulses else satAdd 16 r.pulses 1,
    pulseEnd := some (s.lnow + 30000000), stat := setBit32 r.stat 7 })

/-- A boot ROM halt drives the alarm output (13 R392). -/
def State.loftHalt (s : State) : State :=
  (s.modLoft (fun l => { l with halted := true })).modRoot (fun r => { r with hold := true, bootHold := true, closed := true })

/-! ### Watchdog and module resets (12 R369, R371, Table 12.4) -/

/-- LWD_RC_ONLY forces the RC oscillator (12 R366). -/
def State.rcOnly (s : State) : Bool := bit s.otp.config0 2

/-- A period of the Loft watchdog begins after n cycles of the clock that LWD_CFG now selects (12 R366). -/
def State.lwdBegin (s : State) (n : Nat) : State :=
  let rc := s.lwd.clkSel || s.rcOnly
  { s with lwd := { s.lwd with start := s.lwdNow rc + n, curS := s.lwd.periodS, curRc := rc } }

/-- A cause is recorded in the retained record and in the reset-cause field (12 R370, R371). -/
def State.recordCause (s : State) (c : Nat) : State :=
  (s.modRet (fun r => r.putCause c s.cyc)).modLoft (fun l => { l with cause := setBit32 l.cause c })

/-- Loft watchdog reset, clock-monitor trip, repeated warden fault, or module reset (causes 4 to 7): steps 1 and 2. -/
def State.loftWdReset (s : State) (c : Nat) : State :=
  if s.modState = .cold ∨ s.loft.resetting.isSome then s
  else
    let s1 := (s.recordCause c).modRet (fun r => { r with
      lwdResets := if c = 7 then r.lwdResets else satAdd 16 r.lwdResets 1, clkTrips := if c = 6 then satAdd 16 r.clkTrips 1 else r.clkTrips })
    let s2 := (s1.alarmPulse).modLoft (fun l => { l with landA := 0, landB := 0, resetting := some c, restart := false, bootOk := false })
    let s3 := (s2.modWwd (fun w => { w with running := false })).modRoot (fun r => { r with nmiHeld := false })
    let eng : Tab Engine := s3.engines.map (fun e => (e.1, { e.2 with
      job := none, zeroing := none, kat := false, mem := [], seed := 0, keyLen := 0, released := none, freeAt := 0 }))
    let s4 := { s3 with engines := eng, pkeQ := [], lwd := { s3.lwd with running := false } }
    let s5 := each [0, 1, 2, 3] (fun h t => ((t.hallDark h 1 s.cyc).domSet (1040 + h) false).modHall h (fun x => { x with
      phase := .off, outq := [] })) s4
    { s5 with shutter := none, mirror := [] }

/-- Step 3: one SHUTTER record per hall; step 4: the Loft reset. -/
def State.shutterRecords (s : State) : State := each [0, 1, 2, 3] (fun h t => t.journal 6 0xFFFF 0 [] h) s

/-! ### Landings (12 R364, 08 R268) -/

/-- The identity of the warden in a slot. -/
def State.setWarden (s : State) (k : Nat) : State :=
  let b := s.wslot k
  s.modLoft (fun l => { l with wdnId := num b 8 8, wdnVer := num b 16 8 })

/-- An NMI that was held is delivered to the landing that runs (13 R390). -/
def State.deliverNmi (s : State) : State :=
  s.modRoot (fun r => if r.nmiHeld then { r with nmi := r.nmi + 1, nmiHeld := false } else r)

/-- A forced fallback (08 R268): the new landing is reset, the old one resumes. -/
def State.forcedFallback (s : State) (reason : Nat) : State :=
  let new := s.loft.active
  let old := s.act.oldLanding
  let s1 := s.modLoft (fun l => { (l.land new 0).land old 1 with active := old })
  let s2 := (s1.closeAll (some 3)).modRet (fun r => r.putSlot (fun x => { x with trial := false }))
  let s3 := (s2.setWarden s2.retained.actSlot).wdnStep 4 old s2.retained.actSlot
  let s4 := (s3.actEnd 2 reason 0).modAct (fun a => { a with parked := false, fallback := true, standbyReady := false })
  let s5 := (s4.wwdStart.deliverNmi).raise pgBarn 5
  s5.when (reason == 4) (fun t => t.raise pgBarn 3)

def State.inTrial (s : State) : Bool := s.act.opened && s.act.kind == 1 && s.act.stage == 8

/-- A landing restart (12 R364). -/
def State.landingRestart (s : State) (c : Nat) : State :=
  let n := s.loft.active
  let s1 := (s.recordCause c).modRet (fun r =>
    if n = 0 then { r with restartsA := satAdd 16 r.restartsA 1 } else { r with restartsB := satAdd 16 r.restartsB 1 })
  let s2 := s1.modLoft (fun l => { l.land n 0 with restart := true })
  let s3 := (s2.closeAll (some 2)).modWwd (fun w => { w with running := false })
  s3.raise 0x15 5

/-- A fault of the warden watchdog (12 R363 to R365): causes 1 EXPIRY, 2 EARLY, 3 BAD_KEY. -/
def State.wwdFault (s : State) (c : Nat) : State :=
  if s.inTrial then ((s.modWwd (fun w => { w with running := false })).recordCause c).forcedFallback 7
  else match s.wwd.restartWin with
    | some w => if s.lnow ≤ w.dl then s.loftWdReset 4 else s.landingRestart c
    | none => s.landingRestart c

/-! ### The shutter (06 R211 to R214) -/

/-- Steps 1 and 2 of Table 6.3. -/
def State.shutterBegin (s : State) (thermal : Bool) : State :=
  if s.modState = .cold ∨ s.modState = .shutter ∨ s.loft.resetting.isSome then s
  else
    let s1 := { s with shutter := some { w0 := s.lnow, thermal := thermal } }
    let s2 := s1.toModState .shutter
    let s3 := (s2.closeAll (some 1)).shutterJobs.stopFlights
    let ps : Tab Port := s3.ports.map (fun e => (e.1, { e.2 with pwd := { e.2.pwd with running := false } }))
    let s4 := { s3 with ports := ps, pwr := { s3.pwr with testing := none, nextTest := none } }
    (s4.lwdBegin 0).modWwd (fun w => { w with running := false })

/-- The power-fail warning (15 R446): once per shutter. -/
def State.powerFail (s : State) : State :=
  let same := match s.shutter with
    | some h => h.thermal && h.w0 == s.lnow && !s.pwr.warning
    | none => false
  if s.modState = .cold ∨ s.loft.resetting.isSome ∨ (s.modState = .shutter ∧ same = false) then s
  else
    let s1 := (s.modRet (fun r => { r with warnings := satAdd 16 r.warnings 1 })).raise pgPwr 1
    (s1.modPwr (fun w => { w with warning := true })).chargerStop.shutterBegin false

/-- Step 5, and the chains of step 7 (06 Table 6.3, 07 R239): no EVENT is made of a port that loses its power with its
hall; a document in progress is recorded INCOMPLETE (07 R233). -/
def State.shutterDark (s : State) : State :=
  let s1 := each [0, 1, 2, 3] (fun h t => ((t.hallDark h 1 s.cyc).domSet (1040 + h) false).modHall h (fun x => { x with
    phase := .off, outq := [] })) s
  let s2 := each ((List.range 6).map (· + 1052) ++ (List.range 16).map (· + 1058)) (fun n t => t.domSet n false) s1
  let s3 := { s2 with mirror := [] }
  each ((s3.trs.filter (fun e => e.2.opened)).map (·.1)) (fun t u =>
    let u1 := match (u.tr t).doc with
      | some d => u.documentRec t (u.tr t).pos d 32
      | none => u
    u1.closeChain t 0 4) s3

/-! ### The boot ROM -/

/-- The slot that starts (08 R265), with the record and status it leaves; none when no slot passes. -/
def State.selectWarden (s : State) : Option State :=
  let s1 := s.modLoft (fun l => { l with trialRev := s.retained.trial, aPass := false, bPass := false })
  let s2 := s1.when s.retained.trial (fun t => t.modRet (fun r => r.putSlot (fun x => { x with trial := false })))
  let k := s2.retained.actSlot
  let pass := fun (n : Nat) => s2.slotPasses n
  let note := fun (n : Nat) (t : State) => t.modLoft (fun l => if n = 0 then { l with aPass := true } else { l with bPass := true })
  if pass k then some ((note k s2).setWarden k)
  else if s2.retained.otherOk && pass (1 - k) then
    some ((((note (1 - k) s2).modRet (fun r => r.putSlot (fun x => { x with actSlot := 1 - k, otherOk := false }))).setWarden (1 - k)).raise pgBarn 8)
  else none

/-- An open key operation at replay (09 R295, Table 9.6). -/
def State.keyReplay (s : State) : State :=
  match s.kOpen with
  | none => s
  | some before =>
    let s1 := { s with kOpen := none }
    if s.epoch = before then (s1.abortOp 3 0xFE).raise pgGran 2
    else s1.commitOp 3 true

/-- Steps 3 and 4 of Table 6.1 once the root secret is known. -/
def State.bootTail (s : State) (root : Bytes) : State :=
  let s1 := (s.granFill root).keyReplay
  match (List.range 8).find? (fun e => (s1.eng e).katPass) with
  | none => s1.loftHalt
  | some e =>
    let s2 := s1.modLoft (fun l => { l with bootPke := e, bootStep := 3 })
    match s2.selectWarden with
    | none => s2.loftHalt
    | some t => t.modLoft (fun l => { l with bootOk := true, bootStep := 4 })

/-- Codeword bit i of y (09 R276 step 3). -/
def pufMajority (y : Bytes) (i : Nat) : Bool :=
  ((List.range 24).filter (fun k => let n := i + 512 * k; bit (y.getD (n / 8) 0).toNat (n % 8))).length > 12

/-- One attempt at the root secret (09 R276, R277). -/
def State.pufAttempt (s : State) (o : PufObs) : State :=
  let want := s.otp.bytes 8 12
  let copy := fun (b : Bool) => (List.range 1536).map (fun i => Config.helper b i)
  let sealOk := (List.range 16).all (fun i => (s.otp.sh (8 + i)).held)
  let aBad := sha384 (copy false) ≠ want
  let bBad := aBad && sha384 (copy true) ≠ want
  let n := s.puf.attempts + 1
  let s1 := { s with puf := { s.puf with sram := o.sram, attempts := n, aBad := aBad, bBad := bBad, copyB := aBad && !bBad, retryAt := none } }
  let s2 := s1.when (aBad && n = 1) (fun t => t.raise 0x13 0)
  let s2 := s2.when (n == 2) (fun t => t.raise 0x13 2)
  if !sealOk ∨ bBad then s2.loftHalt
  else
    let y := xorBytes o.sram (copy aBad)
    let retry := fun (t : State) =>
      if n < 3 then { t with puf := { t.puf with sram := [], retryAt := some (t.lnow + 6000000) } } else t.loftHalt
    let ones := (List.range 511).filter (pufMajority y)
    match bchDecode ones with
    | none => retry s2
    | some cw =>
      let corr := ((List.range 511).filter (fun i => ones.contains i != cw.contains i)).length
      let root := (sha384 (ascii "SKW-PUF-ROOT" ++ bchMessage cw)).take 32
      if (hmacSha384 root (ascii "SKW-ROOT-CHECK")).take 8 ≠ s.otp.bytes 20 2 then retry s2
      else
        let flips := ((List.range 12288).filter (fun i =>
          i % 512 ≠ 511 && bit (y.getD (i / 8) 0).toNat (i % 8) != cw.contains (i % 512))).length
        let s3 := { s2 with puf := { s2.puf with sram := zeros 1536, rootOk := true, flips := flips, corr := corr, root := root } }
        let s4 := s3.modRet (fun r => { r with flipsMax := max r.flipsMax flips })
        (s4.when (flips > 983) (fun t => t.raise 0x13 1)).bootTail root

/-- The engine is inside its reset interval: its shadow has no end yet (13 R394, R395). -/
def State.engineInReset (s : State) (e : Nat) : Bool := s.root.shadows.any (fun x => x.dom == dEng e && x.dl.isNone)

/-- An engine's known-answer test ended (10 R328); the test after a block reset ends the reset interval (13 Table 13.9). -/
def State.katResult (s : State) (e : Nat) (pass : Bool) : State :=
  let s1 := s.modEng e (fun g => { g with kat := false, katDone := true, katPass := pass, enable := g.enable && pass })
  let s2 := if pass then s1 else s1.raise (pgPke e) 0
  s2.when (s.engineInReset e) (fun t => t.shadowEnds (dEng e) (t.lnow + 5999))

/-- The Loft reset is released (06 Table 6.1 steps 2 and 3). -/
def State.loftBoot (s : State) (o : BootObs) : State :=
  let s1 := { s with loftAt := s.time, lwd := { start := s.lwdNow true }, pwr := { s.pwr with nextTest := if s.pwr.ready then some (s.lnow + 6000000000) else none } }
  let s2 := (s1.toModState .loftBoot).modLoft (fun l => { l with bootStep := 2, katPass := o.cryptoPass, relAt := 0,
                                                                    active := s.retained.actLanding })
  let s2 := each (List.range 16) (fun n t => t.domSet (1058 + n) true) s2
  let s3 := s2.otpScan
  let bad := fun (g : Nat) => (rowsIn g).any (fun r => !(s3.otp.sh r).held)
  if bad 0 ∨ bad 3 then s3.loftHalt
  else
    let s4 := (each (List.range 8) (fun e t => t.katResult e (!o.pkeKatFail.getLsbD e)) s3).when (!o.cryptoPass) (fun t => t.raise 0x10 4)
    s4.pufAttempt o.puf

/-! ### The start of the warden -/

/-- An activation that was open at the last power loss (08 R269, R270, Tables 8.10 and 8.11). -/
def State.resolveAct (s : State) : State :=
  let a := s.act
  if !a.opened then s
  else if a.kind = 1 then
    (if a.stage = 8 then s.actEnd 2 2 0 else s.modAct (fun x => { x with stage := 6, resume := true }))
  else if a.stage = 1 then
    each a.changed (fun p t => t.modUpd p (fun u => { u with relock := some (s.port p).upd.priorLock })) (s.abandonAct 2)
  else
    let mark := fun (t : State) => each a.changed (fun p u => u.modUpd p (fun x =>
      if x.revertPend || x.failed then x
      else { x with copying := false, copied := false, units := [], checks := [], again := true, confWin := none, confirmed := false })) t
    if a.stage = 4 then
      mark ((s.ulogPut 0x45 (le 1 2 ++ le 1 0 ++ le 2 0xFFFF)).modAct (fun x => { x with stage := 5, revReason := 2 }))
    else if a.stage = 5 then mark s
    else mark (s.modAct (fun x => { x with stage := 2 }))

/-- Transports that are enabled are idle at module start (06 R192). -/
def State.startTransports (s : State) : State :=
  let now := s.lnow
  let ts : Tab Transport := s.trs.map (fun e => (e.1,
    if e.2.blk.enabled then { e.2 with st := .idle, idleNext := some now, changedAt := now } else e.2))
  { s with trs := ts }

/-- The warden starts (06 Table 6.1 step 5; 12 R362, R364). -/
def State.startWarden (s : State) : State :=
  let n := s.loft.active
  if s.loft.restart then
    let s1 := s.modLoft (fun l => { l.land n 1 with restart := false })
    (s1.wwdStart.modWwd (fun w => { w with restartWin := some (mkWin s.lnow 36000000000) })).deliverNmi
  else
    let s1 := s.modLoft (fun l => { l.land n 1 with bootOk := false, bootStep := 5, bringWin := some (mkWin s.lnow 300000000) })
    let s2 := (s1.wwdStart).toModState .hallBringup
    let on := (List.range 20).map (· + 1024) ++ (List.range 6).map (· + 1052)
    let s3 := each on (fun d t => t.domSet d true) s2
    let s4 := each [0, 1, 2, 3] (fun h t => t.modHall h (fun x => { x with phase := .training })) s3
    (s4.startTransports).resolveAct

end Sys2Proof.Machine
end

