-- ==== Sys2Proof/Machine/Flags.lean ====
section
/-! DEFINITION. Error flags: which sources a page has and their default reaction codes (13 R393, Table 13.8, and the chapters
that define the pages), the collector words that their flags set (13 R382, Tables 13.4, 13.17, 13.18), and collector order. -/

namespace Sys2Proof.Machine

/-! ### Pages by kind (17 Table 17.1) -/

def isHallPage (page : Nat) : Bool := 0x40 ≤ page && page < 0x60
def isGalPage (page : Nat) : Bool := 0x80 ≤ page && page < 0xC0 && page % 4 ≠ 3
def isLsPage (page : Nat) : Bool := 0x80 ≤ page && page < 0xC0 && page % 4 == 2
def isPkePage (page : Nat) : Bool := 0x17 ≤ page && page ≤ 0x1E
def isEncPage (page : Nat) : Bool := 0xC1 ≤ page && page ≤ 0xD0
def isSesPage (page : Nat) : Bool := 0xE1 ≤ page && page ≤ 0xE6
def pageHall (page : Nat) : Nat := if isHallPage page then (page - 0x40) / 8 else (page - 0x80) / 16
def pageGal (page : Nat) : Nat := (page - 0x80) / 4

/-- The page exists (17 Table 17.1). -/
def pageExists (page : Nat) : Bool :=
  page == 0 || (0x10 ≤ page && page ≤ 0x21) || isHallPage page || isGalPage page || (0xC0 ≤ page && page ≤ 0xD0) ||
  (0xE0 ≤ page && page ≤ 0xE8) || page == 0xF0 || page == 0xF1

/-- The default codes of a page's defined sources, by bit. -/
def pageCodes (page : Nat) : List Nat :=
  if isHallPage page then
    (match page % 8 with
      | 0 => [1]
      | 1 => [0, 3, 1, 4]
      | 2 => [0, 1, 3, 4]
      | 3 => [1]
      | 4 => [1, 0, 0, 0, 4, 4, 4, 1, 0, 0, 1]
      | 5 => [0, 1, 1, 4, 0, 1, 1]
      | 6 => [0, 1, 0, 1, 1]
      | _ => [1, 1, 1, 0, 0, 0])
  else if isGalPage page then
    (if page % 4 = 0 then [3] else if page % 4 = 2 then [0, 1, 0, 3, 1, 1, 4, 0] else [])
  else if isPkePage page then [4, 3, 1, 3]
  else if isEncPage page then [1, 1, 1, 1, 0, 0]
  else if isSesPage page then [1, 1, 0, 0, 1, 0, 0, 1]
  else match page with
    | 0x10 => [0, 4, 4, 1, 4, 1]
    | 0x11 => [0, 0, 4, 1, 0]
    | 0x12 => [0, 4, 1, 1, 0, 0, 1, 4, 1, 4]
    | 0x13 => [1, 1, 0]
    | 0x14 => [0, 0, 1, 4, 0]
    | 0x15 => [0, 0, 0, 0, 0, 4]
    | 0x16 => [1, 0]
    | 0x1F => [1, 1, 4, 0]
    | 0x20 => [0, 0, 1, 1, 1, 4, 1, 4, 4]
    | 0x21 => [0, 0]
    | 0xC0 => [0, 1, 0, 1, 0]
    | 0xE0 => [1, 1, 0, 0, 4]
    | 0xE7 => [1]
    | 0xE8 => [1, 0, 1]
    | 0xF0 => [0, 0, 1, 4, 1, 4, 1]
    | 0xF1 => [1, 4, 1, 1]
    | _ => []

/-- A bit is a source of its page (13 R393: a reserved bit is not). -/
def isSource (page bit : Nat) : Bool := bit < (pageCodes page).length

/-- The reaction code of a source: the stored one, else its default. -/
def State.codeOf (s : State) (page bit : Nat) : Nat :=
  match tabFind (s.hdr page).codes bit with
  | some c => c
  | none => (pageCodes page).getD bit 0

/-! ### Collector order (13 R384) -/

/-- The group of a page: halls 0 to 3, Loft, host side, the root's own page. -/
def pageGroup (page : Nat) : Nat :=
  if page = 0x11 then 6
  else if isHallPage page || (0x80 ≤ page && page < 0xC0) then pageHall page
  else if 0xE0 ≤ page && page < 0xF0 then 5 else 4

/-- The first collector of a page (Table 13.4). -/
def pageColl (page : Nat) : Nat :=
  if 0x80 ≤ page && page < 0xC0 then pageGal page
  else if isHallPage page then 16 + pageHall page
  else if page = 0x11 then 22
  else if 0xE0 ≤ page && page < 0xF0 then 21 else 20

/-- The place of an event in collector order. -/
def Event.rank (e : Event) : Nat :=
  ((pageGroup e.page * 512 + e.page) * 32 + e.bit) * 2048 + (match e.port with
    | some p => p
    | none => 2047)

/-- Insert an event after those of its rank. -/
def insertEvent (e : Event) : List Event → List Event
  | [] => [e]
  | x :: t => if e.rank < x.rank then e :: x :: t else x :: insertEvent e t

def sortEvents (l : List Event) : List Event := l.foldl (fun a e => insertEvent e a) []

/-! ### Collector words (13 R382) -/

/-- The flags of a page that its collector sees. -/
def hdrLive (hs : Tab Hdr) (page : Nat) : Bool := (tabGet ({} : Hdr) hs page).errStat &&& ~~~(tabGet ({} : Hdr) hs page).errMask ≠ 0

def bitIf (c : Bool) (n : Nat) : BitVec 32 := if c then BitVec.ofNat 32 (2 ^ n) else 0

def orBits (l : List (BitVec 32)) : BitVec 32 := l.foldl (fun a b => a ||| b) 0

/-- The bits that the children of gallery collector g set. -/
def galNeed (hs : Tab Hdr) (pe : Tab (BitVec 8)) (g : Nat) : BitVec 32 :=
  let mask := (tabGet ({} : Hdr) hs (pgLs g)).errMask
  orBits ((pe.filter (fun e => e.1 / 64 == g)).map (fun e => bitIf (e.2 &&& ~~~(mask.setWidth 8) ≠ 0) (e.1 % 64 / 4))) |||
    bitIf (hdrLive hs (pgGal g)) 16 ||| bitIf (hdrLive hs (pgPw g)) 17

/-- The bits that the children of hall collector h set. -/
def hcolNeed (hs : Tab Hdr) (gal : Tab (BitVec 32)) (h : Nat) : BitVec 32 :=
  orBits ([0, 1, 2, 3].map (fun n => bitIf (tabGet 0 gal (4 * h + n) ≠ 0) n)) |||
  bitIf (hdrLive hs (pgHall h)) 4 ||| bitIf (hdrLive hs (pgDrc h)) 5 ||| bitIf (hdrLive hs (pgHsh h)) 6 |||
  bitIf (hdrLive hs (pgGln h)) 7 ||| bitIf (hdrLive hs (pgRng h)) 8 ||| bitIf (hdrLive hs (pgRls h)) 9 |||
  bitIf (hdrLive hs (pgMir h)) 10 ||| bitIf (hdrLive hs (pgHcol h)) 11

/-- The bits that the pages of the Loft collector set (Table 13.17, RC_LOFT_COL). -/
def loftNeed (hs : Tab Hdr) : BitVec 32 :=
  bitIf (hdrLive hs 0x10) 0 ||| orBits ((List.range 5).map (fun k => bitIf (hdrLive hs (0x12 + k)) (1 + k))) |||
  orBits ((List.range 8).map (fun e => bitIf (hdrLive hs (0x17 + e)) (6 + e))) ||| bitIf (hdrLive hs 0x1F) 14 |||
  bitIf (hdrLive hs 0x20) 15 ||| bitIf (hdrLive hs 0x21) 16 ||| bitIf (hdrLive hs 0xC0) 17 |||
  bitIf ((List.range 16).any (fun n => hdrLive hs (0xC1 + n))) 18 ||| bitIf (hdrLive hs 0xF0 || hdrLive hs 0xF1) 19

/-- The bits that the pages of the host-side collector set (RC_HOST_COL). -/
def hostNeed (hs : Tab Hdr) : BitVec 32 :=
  bitIf (hdrLive hs 0xE0) 0 ||| orBits ((List.range 6).map (fun x => bitIf (hdrLive hs (0xE1 + x)) (1 + x))) |||
  bitIf (hdrLive hs 0xE7) 7 ||| bitIf (hdrLive hs 0xE8) 8

/-- The bits that the children of the root collector set (RC_STAT [6:0]). -/
def rootNeed (hs : Tab Hdr) (hcol : Tab (BitVec 32)) (loft host : BitVec 32) : BitVec 32 :=
  orBits ([0, 1, 2, 3].map (fun h => bitIf (tabGet 0 hcol h ≠ 0) h)) ||| bitIf (loft ≠ 0) 4 ||| bitIf (host ≠ 0) 5 |||
  bitIf (hdrLive hs 0x11) 6

/-- Set in a table the bits needed for keys below n. -/
def orTab (need : Nat → BitVec 32) (n : Nat) (t : Tab (BitVec 32)) : Tab (BitVec 32) :=
  (List.range n).map (fun k => (k, tabGet 0 t k ||| need k))

/-- Every collector word takes the bits of its children, from the leaves to the root. -/
def latchRoot (hs : Tab Hdr) (pe : Tab (BitVec 8)) (r : Root) : Root :=
  let gal := orTab (galNeed hs pe) 16 r.gal
  let hcol := orTab (hcolNeed hs gal) 4 r.hcol
  let loft := r.loftCol ||| loftNeed hs
  let host := r.hostCol ||| hostNeed hs
  { r with gal := gal, hcol := hcol, loftCol := loft, hostCol := host, stat := r.stat ||| rootNeed hs hcol loft host }

def State.latchCollectors (s : State) : State := { s with root := latchRoot s.hdrs s.portErr s.root }

/-! ### Injectable checkers (13 Table 13.16) -/

def checkerExists (page chk : Nat) : Bool :=
  if isLsPage page then chk == 0
  else if isHallPage page then
    (match page % 8 with
      | 7 => chk ≤ 2
      | 5 => chk == 0
      | 2 => chk == 0
      | 1 => chk == 0
      | _ => false)
  else if isPkePage page then chk ≤ 1
  else (page == 0x12 || page == 0x20) && chk == 0

/-! ### Clearing (13 Table 13.3) -/

/-- ERR_FIRST loses VALID when ERR_STAT becomes all 0. -/
def Hdr.clearErr (h : Hdr) (w : BitVec 32) : Hdr :=
  let e := h.errStat &&& ~~~w
  { h with errStat := e, firstValid := h.firstValid && e != 0, firstBit := if e = 0 then 0 else h.firstBit,
           firstPort := if e = 0 then 0x3FF else h.firstPort }

end Sys2Proof.Machine
end

