-- ==== Sys2Proof/Machine/Faults.lean ====
section
/-! DEFINITION. Fault collection (13): shadows and coalescing, the history queue, reactions, escalation. -/

namespace Sys2Proof.Machine

/-! ### Shadows (13 R387, R395) -/

/-- The domain of a source (13 Table 13.9). -/
def Event.domain (e : Event) : Option Domain :=
  if isLsPage e.page then e.port.map dPort
  else if isGalPage e.page then some (dGal (pageGal e.page))
  else if isHallPage e.page then some (dHall (pageHall e.page))
  else if isPkePage e.page then some (dEng (e.page - 0x17))
  else if isSesPage e.page then some (dSes (e.page - 0xE1))
  else none

/-- The domains a source lies inside, the outermost first. -/
def Event.inside (e : Event) : List Domain :=
  if isLsPage e.page then
    [dHall (pageHall e.page), dGal (pageGal e.page)] ++ (match e.port with
      | some p => [dPort p]
      | none => [])
  else if isGalPage e.page then [dHall (pageHall e.page), dGal (pageGal e.page)]
  else match e.domain with
    | some d => [d]
    | none => []

def Shadow.open_ (x : Shadow) (now : Nat) : Bool :=
  x.opn ≤ now && (match x.dl with
    | some d => now ≤ d
    | none => true)

/-- The outermost open shadow that holds a source. -/
def State.shadowOf (s : State) (e : Event) : Option Shadow :=
  e.inside.findSome? (fun d => s.root.shadows.find? (fun x => x.dom == d && x.open_ (s.dnow d)))

/-- The transport of a source (13 R385). -/
def State.eventTr (s : State) (e : Event) : Nat :=
  match e.port with
  | some p => (s.port p).tie.getD 0xFFFF
  | none => if isEncPage e.page then e.page - 0xC1 else 0xFFFF

/-- The history entry of an event, without its number and reaction. -/
def State.entryOf (s : State) (e : Event) : HEntry :=
  let t := s.eventTr e
  { time := e.time, tr := t, pos := if t = 0xFFFF then 0 else (s.tr t).pos, page := e.page, bit := e.bit, coll := pageColl e.page,
    port := e.port.getD 0xFFFF, forced := e.forced, inj := e.inj, synd := e.synd }

/-- Coalesce a consequential event in a shadow; a full count is sent at once (R387). -/
def coalesce (x : Shadow) (e : HEntry) : Shadow × Option HEntry :=
  match x.held.find? (fun y => y.page == e.page && y.bit == e.bit) with
  | some y =>
    if y.merge + 1 ≥ 65535 then
      ({ x with held := x.held.filter (fun z => !(z.page == e.page && z.bit == e.bit)) }, some { y with merge := y.merge + 1 })
    else ({ x with held := x.held.map (fun z => if z.page == e.page && z.bit == e.bit then { z with merge := z.merge + 1 } else z) }, none)
  | none => ({ x with held := x.held ++ [{ e with conseq := true, forced := false, react := 0, parent := x.parent }] }, none)

/-! ### The FIFO (13 R386) -/

/-- A source of the root page that makes no entry (13 R408): its bit is set and its actions beyond LOG act directly. -/
def State.rootSource (s : State) (bit : Nat) : State :=
  let s1 := s.modHdr 0x11 (fun h =>
    let h1 := noteFirst h (h.errStat == 0) bit 0x3FF
    { h1 with errStat := setBit32 h.errStat bit })
  if (s.hdr 0x11).errMask.getLsbD bit then s1
  else
    let c := s.codeOf 0x11 bit
    let s2 := s1.when (c == 2 || c == 3) (fun t => t.modRoot (fun r =>
      if t.loft.restart then { r with nmiHeld := true } else { r with nmi := r.nmi + 1 }))
    let s3 := s2.when (c == 4 || c == 5) (fun t => t.alarmPulse)
    let s4 := s3.when (c == 5 && s3.root.modEn && s3.root.consec ≥ 3) (fun t => t.raise 0x11 2)
    s4.when (c == 5 && s4.root.modEn && s4.root.consec < 3) (fun t =>
      (t.modRoot (fun r => { r with consec := r.consec + 1 })).loftWdReset 7)

/-- An event arrives at the FIFO and takes its number; with the FIFO full it joins the open burst or opens one. -/
def State.fifoPut (s : State) (e : HEntry) : Nat × State :=
  let r := s.root
  let n := r.nextNo
  match r.burst with
  | some b =>
    let s1 := s.modRoot (fun x => { x with
      burst := some { b with merge := b.merge + 1, react := max b.react e.react }, merged := satAdd 32 x.merged 1,
      lost := satAdd 32 x.lost 1 })
    (b.no, s1.rootSource 1)
  | none =>
    if r.fifo.length < 16 then
      (n, s.modRoot (fun x => { x with fifo := x.fifo ++ [{ e with no := n }], nextNo := n + 1 }))
    else
      let s1 := s.modRoot (fun x => { x with
        burst := some { e with no := n, burst := true, merge := 1 }, nextNo := n + 1, merged := satAdd 32 x.merged 1 })
      (n, s1.rootSource 0)

/-- RC_HIST_NEXT: the number of the next entry that the history takes. -/
def Root.histNext (r : Root) : Nat :=
  match r.fifo with
  | e :: _ => e.no
  | [] => match r.burst with
    | some b => b.no
    | none => r.nextNo

/-- An entry overwritten before the warden has read it, with a code of INTERRUPT or higher (13 R388). -/
def Root.unread (r : Root) (e : HEntry) : Bool := e.react ≥ 1 && e.no > max r.ack r.readTo

/-- A pass cycle: one entry goes to the history and to the sessions; the open burst then enters the FIFO. -/
def State.passHistory (s : State) : State :=
  let r := s.root
  let s1 := match r.fifo with
    | [] => s
    | e :: rest =>
      let e1 := { e with lost := r.lost }
      let h := r.hist ++ [e1]
      let old := h.take (h.length - 64)
      let s2 := (s.modRoot (fun x => { x with fifo := rest, hist := h.drop (h.length - 64) })).queueEvent e1
      s2.when (old.any r.unread) (fun t => t.rootSource 3)
  match s1.root.burst with
  | some b =>
    if s1.root.fifo.length < 16 then s1.modRoot (fun x => { x with fifo := x.fifo ++ [b], burst := none }) else s1
  | none => s1

/-! ### Reactions (13 R389 to R397) -/

/-- The cycles kept of a domain's resets by reaction. -/
def State.resetsOf (s : State) (d : Domain) : List Nat :=
  match s.root.resets.find? (fun x => x.1 == d) with
  | some x => x.2
  | none => []

/-- One second of the domain's clock. -/
def domSecond : Domain → Nat
  | .engine _ => 600000000
  | .session _ => 600000000
  | _ => 800000000

/-- A fifth reset by reaction within 1 s of the oldest of four kept ones escalates (13 R396). -/
def State.escalates (s : State) (d : Domain) : Bool :=
  let l := s.resetsOf d
  l.length = 4 && s.dnow d ≤ l.headD 0 + domSecond d - 1

def State.keepReset (s : State) (d : Domain) : State :=
  let l := s.resetsOf d ++ [s.dnow d]
  s.modRoot (fun r => { r with resets := r.resets.filter (fun x => x.1 != d) ++ [(d, l.drop (l.length - 4))] })

def countEscalation (s : State) (h : Nat) : State := s.modHall h (fun x => { x with escal := satAdd 16 x.escal 1 })

/-- The escalation of a domain (13 Table 13.9). -/
def State.escalate (s : State) (d : Domain) (evTime : Nat) : State :=
  match d with
  | .port p =>
    let q := p.val
    ((countEscalation s (hallOf q)).quarantine q 14 false 0 evTime).raisePort q 6
  | .gallery g =>
    let h := g.val / 4
    let s1 := (countEscalation s h).raise (pgHcol h) 2
    each ((List.range 64).map (· + 64 * g.val)) (fun p t => t.quarantine p 14 false 0 evTime) s1
  | .hall h => (countEscalation s h.val).hallFault h.val evTime
  | .engine e => s.modEng e.val (fun g => { g with enable := false, katPass := false })
  | .session x => (s.modSes x.val (fun u => { u with blockEnd := some (s.lnow + 35999999999) })).raise (pgSes x.val) 7

/-- BLOCK_RESET of a domain by a reaction (13 R394). -/
def State.blockReset (s : State) (d : Domain) (parent evTime : Nat) : State :=
  match d with
  | .port p =>
    let q := p.val
    let s1 := s.modHall (hallOf q) (fun h => { h with portResets := satAdd 16 h.portResets 1 })
    s1.linkReset q parent 0 evTime
  | .gallery g => s.galleryReset g.val parent evTime
  | .hall h => s.hallResetStart h.val parent evTime
  | .engine e => ((s.openShadow d none parent).disarmPages [pgPke e.val]).abortEngine e.val 21
  | .session x => (s.openShadow d (some (s.lnow + 6000)) parent).closeSes x.val (some 4) none

/-- NMI to the active landing; held while it restarts (13 R390). -/
def State.nmi (s : State) : State :=
  s.modRoot (fun r => if s.loft.restart then { r with nmiHeld := true } else { r with nmi := r.nmi + 1 })

/-- The warden interrupt line (13 R390, Table 13.3): an entry of code INTERRUPT or higher above RC_ACK, a root source that makes no
entry and is set, unmasked and so coded, or an enabled interrupt bit of a page. -/
def State.wardenIrq (s : State) : Bool :=
  s.root.hist.any (fun e => 1 ≤ e.react && s.root.ack < e.no) ||
  [0, 1, 3].any (fun b => (s.hdr 0x11).errStat.getLsbD b && !(s.hdr 0x11).errMask.getLsbD b && 1 ≤ s.codeOf 0x11 b) ||
  s.hdrs.any (fun e => e.2.irqStat &&& e.2.irqEn != 0)

/-- The code that an event takes: DRY gives LOG, BLOCK_RESET without a domain acts as NMI, a suppressed MODULE_RESET as
ALARM. -/
def State.reactionOf (s : State) (e : Event) : Nat :=
  let c := if e.dry then 0 else s.codeOf e.page e.bit
  if c = 3 ∧ e.domain.isNone then 2
  else if c = 5 ∧ (!s.root.modEn ∨ s.root.consec ≥ 3) then 4 else c

/-- One event reaches the root. -/
def State.takeEvent (s : State) (e : Event) : State :=
  match s.shadowOf e with
  | some x =>
    let y := coalesce x (s.entryOf e)
    let s1 := s.modRoot (fun r => { r with shadows := r.shadows.map (fun z => if z.dom == x.dom then y.1 else z) })
    (match y.2 with
      | some h => (s1.fifoPut h).2
      | none => s1)
  | none =>
    let c := s.reactionOf e
    let supp := !e.dry && s.codeOf e.page e.bit == 5 && s.root.modEn && s.root.consec ≥ 3
    let esc := c = 3 && (match e.domain with
      | some d => s.escalates d
      | none => false)
    let forced := e.forced || esc
    let put := s.fifoPut { s.entryOf e with react := c, forced := forced, escal := esc, supp := supp }
    let s1 := put.2
    let s2 := s1.when (c == 4 || c == 5 || forced) (fun t => (t.alarmPulse).modRoot (fun r => { r with lastAlarm := put.1 }))
    let s3 := s2.when (c == 2) (fun t => t.nmi)
    let s4 := s3.when supp (fun t => t.raise 0x11 2)
    let s5 := if c = 3 then (match e.domain with
        | some d => if esc then (s4.modRoot (fun r => { r with stat := setBit32 r.stat 8 })).escalate d e.time
                    else (s4.keepReset d).blockReset d put.1 e.time
        | none => s4) else s4
    if c = 5 then (s5.modRoot (fun r => { r with consec := r.consec + 1 })).loftWdReset 7 else s5

/-- The events of one cycle, in collector order. -/
def State.settleRound (s : State) : State :=
  each (sortEvents s.root.evq) (fun e t => t.takeEvent e) (s.modRoot (fun r => { r with evq := [] }))

/-- A shadow ends: its coalesced events are sent (13 R387). -/
def State.endShadow (s : State) (d : Domain) : State :=
  match s.root.shadows.find? (fun x => x.dom == d) with
  | none => s
  | some x =>
    let s1 := s.modRoot (fun r => { r with shadows := r.shadows.filter (fun y => y.dom != d) })
    each x.held (fun h t => (t.fifoPut h).2) s1

end Sys2Proof.Machine
end

