-- ==== Sys2Proof/Machine/Tables.lean ====
section
/-! DEFINITION. The tables the module loads into a tap: the opcode class table (02 Table 2.9, 03 Table 3.1), the identity buffer
(03 Table 3.4) and the emulated SFDP (03 Table 3.5; JESD216 field encodings PRESUMED, log 44). -/

namespace Sys2Proof.Machine

/-! ### The opcode class table -/

/-- A row of 03 Table 3.1. -/
structure OpRow where
  op    : Nat
  cls   : Nat
  addr  : Nat := 0
  addrW : Nat := 0
  dataW : Nat := 0
  dummy : Bool := false
  dir   : Bool := false
  arg   : Nat := 0
  val   : Nat := 0
  pass  : Bool := false
  modes : List Nat
  deriving DecidableEq, Repr

def allModes : List Nat := [0, 3, 4, 5, 6, 7, 8, 9]

def readRow (op addr addrW dataW : Nat) (modes : List Nat) : OpRow :=
  { op := op, cls := 1, addr := addr, addrW := addrW, dataW := dataW, dummy := true, dir := true, modes := modes }
def regRow (op arg : Nat) : OpRow := { op := op, cls := 2, dir := true, arg := arg, modes := allModes }
def plainRow (op cls : Nat) (modes : List Nat := allModes) (addr dataW arg val : Nat := 0) (pass : Bool := false) : OpRow :=
  { op := op, cls := cls, addr := addr, dataW := dataW, arg := arg, val := val, pass := pass, modes := modes }

def readRows : List OpRow :=
  [readRow 0x0B 1 0 0 [0, 5, 8], readRow 0x0C 3 0 0 [0, 5, 8], readRow 0x6B 1 0 3 [3], readRow 0x6C 3 0 3 [3],
   readRow 0xEB 1 3 3 [4, 5], readRow 0xEC 3 3 3 [4, 5], readRow 0x8B 1 0 4 [6], readRow 0x7C 3 0 4 [6],
   readRow 0xCB 1 4 4 [7, 8], readRow 0xCC 3 4 4 [7, 8], readRow 0xEE 3 0 0 [9]]

def infoRows : List OpRow :=
  [regRow 0x05 0, regRow 0x35 1, regRow 0x15 2, regRow 0xAA 4,
   { op := 0x9F, cls := 3, dir := true, modes := allModes },
   { op := 0x5A, cls := 3, addr := 2, dir := true, arg := 1, modes := [0] },
   plainRow 0x06 4, plainRow 0x04 5, plainRow 0x01 8]

def writeRows : List OpRow :=
  [plainRow 0x02 6 [0, 5, 8] 1, plainRow 0x12 6 [0, 5, 8, 9] 3, plainRow 0x32 6 [3] 1 3, plainRow 0x34 6 [3] 3 3,
   plainRow 0x20 7 allModes 1, plainRow 0x21 7 allModes 3, plainRow 0x52 7 allModes 1, plainRow 0x5C 7 allModes 3,
   plainRow 0xD8 7 allModes 1, plainRow 0xDC 7 allModes 3, plainRow 0x60 7, plainRow 0xC7 7]

def otherRows : List OpRow :=
  [plainRow 0xB7 9 allModes 0 0 1, plainRow 0xE9 9, plainRow 0x38 9 [0] 0 0 3, plainRow 0xF5 9 [5] 0 0 2,
   plainRow 0x81 9 [0] 1 0 6 0xE7, plainRow 0x66 15 allModes 0 0 0 0 true, plainRow 0x99 10 allModes 0 0 0 0 true,
   plainRow 0xB9 12, plainRow 0xAB 12, plainRow 0x75 11, plainRow 0x7A 11, plainRow 0xA8 13,
   { op := 0xA9, cls := 14, dir := true, modes := allModes }]

def opRows : List OpRow := readRows ++ infoRows ++ writeRows ++ otherRows

def opRow (op : Nat) : Option OpRow := opRows.find? (fun r => r.op == op)

/-- A class table entry as a word (02 Table 2.9). -/
def OpRow.word (r : OpRow) : Nat :=
  r.cls + r.addr * 2 ^ 4 + r.addrW * 2 ^ 6 + r.dataW * 2 ^ 9 + b2n r.dummy * 2 ^ 12 + b2n r.dir * 2 ^ 14 +
    b2n r.pass * 2 ^ 15 + r.arg * 2 ^ 16 + r.val * 2 ^ 24

def opWord (op : Nat) : Nat := match opRow op with
  | some r => r.word
  | none => 0

/-- The 1 KiB class table. -/
def classTable : Bytes := (List.range 256).flatMap (fun op => le 4 (opWord op))

/-- A mode code in which the module serves an opcode (03 R91, R94). -/
def listedMode (op mode : Nat) : Bool := match opRow op with
  | some r => r.modes.contains mode
  | none => false

/-! ### Emulated SFDP (03 R100, R101) -/

/-- A typical erase time in ms as a JESD216 count and unit. -/
def eraseTime (ms : Nat) : Nat :=
  if ms ≤ 32 then max ms 1 - 1
  else if ms ≤ 512 then ceilDiv ms 16 - 1 + 32
  else if ms ≤ 4096 then ceilDiv ms 128 - 1 + 64
  else min 31 (ceilDiv ms 1000 - 1) + 96

/-- A typical page program time in microseconds as a JESD216 count and unit. -/
def progTime (us : Nat) : Nat :=
  if us ≤ 256 then max 1 (ceilDiv us 8) - 1 else min 31 (ceilDiv us 64 - 1) + 32

/-- A typical byte program time in microseconds as a JESD216 count and unit. -/
def byteTime (us : Nat) : Nat := if us ≤ 16 then max us 1 - 1 else min 15 (ceilDiv us 8 - 1) + 16

/-- A typical chip erase time in ms as a JESD216 count and unit. -/
def chipTime (ms : Nat) : Nat :=
  if ms ≤ 512 then max 1 (ceilDiv ms 16) - 1
  else if ms ≤ 8192 then ceilDiv ms 256 - 1 + 32
  else if ms ≤ 128000 then ceilDiv ms 4000 - 1 + 64
  else min 31 (ceilDiv ms 64000 - 1) + 96

/-- The byte program and chip erase times of BFPT DWORD 11, bits 30 to 14; without a device read the spec gives no such time: free. -/
def byteTimes (e : Enrol) (dn sck : Nat) : Nat :=
  match e.byteTimes with
  | some (first, more, chip) => byteTime first * 2 ^ 14 + byteTime more * 2 ^ 19 + chipTime chip * 2 ^ 24
  | none => bits (Config.sfdpWord 11 dn sck).toNat 30 14 * 2 ^ 14

/-- The JESD216 speed code of the highest clock up to a limit. -/
def speedCode (mhz : Nat) : Nat :=
  if mhz < 33 then 15 else if mhz < 50 then 1 else if mhz < 66 then 2 else if mhz < 80 then 3 else if mhz < 100 then 4 else 5

def bfptHead (v : Port) (dn : Nat) : List Nat :=
  let e := v.enr
  let k4 := bit e.erases 0
  let k32 := bit e.erases 1
  let k64 := bit e.erases 2
  let fast := dn ≤ 31
  let quad := fast && v.mir.sck ≤ 104
  let w := fun (ok : Bool) (op : Nat) => if ok then dn + op * 256 else 0
  let typ := fun (has : Bool) (size op : Nat) => if has then size + op * 256 else 0
  [(if k4 then 1 else 3) + 4 + 0xE0 + (if k4 then 0x20 else 0xFF) * 2 ^ 8 + 2 ^ 17 + b2n quad * 2 ^ 21 + b2n quad * 2 ^ 22 + 0x1FF * 2 ^ 23,
   v.mir.enrLen * 524288 - 1,
   w quad 0xEB + w quad 0x6B * 65536, 0, 0xE + b2n quad * 16 + 0x7FFFFFF * 32, 0xFFFF, 0xFFFF + w quad 0xEB * 65536,
   typ k4 0x0C 0x20 + typ k32 0x0F 0x52 * 65536, typ k64 0x10 0xD8,
   0xF + b2n k4 * eraseTime e.typErase4 * 2 ^ 4 + b2n k32 * eraseTime e.typErase32 * 2 ^ 11 + b2n k64 * eraseTime e.typErase64 * 2 ^ 18,
   0xF + 8 * 16 + progTime e.typProg * 2 ^ 8 + byteTimes e dn v.mir.sck + 2 ^ 31]

/-- DWORD 19: no enable bit [22:20], no 0-8-8 mode [9], exit by soft reset [3]; the code of its entry sequence [8:4] is free. -/
def bfptTail (v : Port) (dn : Nat) : List Nat :=
  let octal := dn ≤ 31 && v.mir.sck ≤ 100
  let w := fun (op : Nat) => if octal then dn + op * 256 else 0
  let lim := fun (m : Nat) => speedCode (min v.mir.sck m)
  [2 ^ 31, 0, 3 + 4 + 2 ^ 31, 0x22 + 0xFF000000, 2 ^ 12 + 2 ^ 14 + 2 ^ 24, w 0xCB + w 0x8B * 65536, 2 ^ 29,
   8 + bits (Config.sfdpWord 19 dn v.mir.sck).toNat 8 4 * 2 ^ 4,
   0xF0 + lim 104 + 0xFF00 + (0xF0 + lim 100) * 2 ^ 16 + (0xF0 + (if v.mir.sck ≤ 50 then speedCode v.mir.sck else 15)) * 2 ^ 24]

/-- The xSPI Profile 1.0 table: read 0xEE, read status with 0 address bytes [29] and 0 dummy cycles [28]; every frequency that the
table lists is above 50 MHz and not supported (PRESUMED places, log 44). -/
def xspiTable : List Nat := [0xEE * 2 ^ 8, 0, 0, 0, 0]

/-- The SFDP bytes of a port. -/
def Port.sfdp (v : Port) : Bytes :=
  let dn := dummyN v.mir.sck v.mir.band
  let hdr := fun (id len ptr : Nat) => le 1 id ++ [0x08, 0x01] ++ le 1 len ++ le 3 ptr ++ le 1 (id / 256)
  let four := b2n true * 2 ^ 1 + 2 ^ 3 + 2 ^ 5 + 2 ^ 6 + 2 ^ 8 + 2 ^ 20 + 2 ^ 21 + b2n (bit v.enr.erases 0) * 2 ^ 9 +
    b2n (bit v.enr.erases 1) * 2 ^ 10 + b2n (bit v.enr.erases 2) * 2 ^ 11
  [0x53, 0x46, 0x44, 0x50, 0x08, 0x01, 3, 0xFF] ++ hdr 0xFF00 20 0x28 ++ hdr 0xFF84 2 0x78 ++ hdr 0xFF05 5 0x80 ++ hdr 0x5301 2 0x94 ++
    (bfptHead v dn ++ bfptTail v dn).flatMap (le 4) ++
    le 4 four ++ le 4 (0x21 + 0x5C * 2 ^ 8 + 0xDC * 2 ^ 16) ++
    xspiTable.flatMap (le 4) ++
    le 4 (dn + v.mir.sck * 2 ^ 8 + v.mir.band * 2 ^ 16) ++ le 4 (v.mir.enrLen + 2 ^ 16)

/-- The 1 KiB identity buffer (03 Table 3.4); 0xFF on a port never enrolled. -/
def Port.identity (v : Port) : Bytes :=
  if v.enr.ever then
    let b := v.enr.jedec.take 16
    let f := b ++ List.replicate (0x81 - b.length) 0xFF ++ v.sfdp
    f ++ List.replicate (1024 - f.length) 0xFF
  else List.replicate 1024 0xFF

/-- The payloads of the TABLE_LOAD frames of a target: 252 data bytes at most (02 Table 2.4). Table 2.4 gives
byte 1 no field; it is sent as 0 (DESIGN CHOICE, log 98). -/
def tableLoads (target : Nat) (b : Bytes) : List Bytes :=
  (List.range (ceilDiv b.length 252)).map (fun k => le 1 target ++ le 1 0 ++ le 2 (k * 252) ++ sub b (k * 252) 252)

end Sys2Proof.Machine
end

