-- ==== Sys2Proof/Machine/LinkRx.lean ====
section
/-! DEFINITION. What arrives on an Oxoth link below the platform traffic: training, loss of synchronisation, sequence
numbers, acknowledgement and replay, credits, HELLO and pairing (02 R48 to R66, R83). An event whose premise does not hold
changes nothing (log 7). -/

namespace Sys2Proof.Machine

/-- The link of a port is trained (02 Table 2.6 step 5). -/
def State.trained (s : State) (p : Nat) : Bool := s.alive && (s.port p).link.phase == .trained

/-- The link of a port is trained and has exchanged CREDIT_INIT: sequenced frames may arrive. -/
def State.linkUp (s : State) (p : Nat) : Bool := s.trained p && (s.port p).link.up

/-- A sequenced frame with the expected SEQ is accepted: it is acknowledged, and its n buffers of channel v are returned
(02 R55, R59, R60; log 9). -/
def State.accept (s : State) (p : Nat) (v : Vc) (n : Nat) : State :=
  (s.modLink p (fun l => { l with rxExp := l.rxExp + 1, nakEnd := none, lastComma := s.hnow })).sendAck p v n

/-! ### Training (02 R63, R48) -/

def trainCycles : Nat := 80000000
def idleCycles : Nat := 8000000

def State.detectTap (s : State) (p : Nat) : State :=
  let v := s.port p
  if s.alive && v.st == .absent && v.link.phase == .off && v.link.idleEnd.isNone && s.domOn p && !v.rls.departed then
    (s.setSt p .linking).modLink p (fun l => { l with
      phase := .detected, trainWin := some (mkWin s.hnow trainCycles), lastComma := s.hnow })
  else s

/-- A port may train: LINKING, or QUARANTINED while it was (02 R63; a quarantine does not stop the link). -/
def Port.mayTrain (v : Port) : Bool := v.st == .linking || v.st == .quarantined

/-- The port is training with its window open. -/
def State.training (s : State) (p : Nat) : Bool :=
  s.alive && (s.port p).mayTrain && (match (s.port p).link.trainWin with
    | some w => s.hnow ≤ w.dl
    | none => false)

def State.lockSymbols (s : State) (p : Nat) : State :=
  if s.training p then s.modLink p (fun l => { l with phase := .ts1, lastComma := s.hnow }) else s

def State.seenTs (s : State) (p : Nat) : State :=
  if s.training p && (s.port p).link.phase == .ts1 then
    s.modLink p (fun l => { l with phase := .ts2, lastComma := s.hnow })
  else s

/-- Step 5: PAIRING, and HELLO is sent. -/
def State.linkIsTrained (s : State) (p : Nat) : State :=
  if s.training p then
    ((s.when ((s.port p).st == .linking) (fun t => t.setSt p .pairing)).modLink p (fun l => { l with
      phase := .trained, trainWin := none, pair := .hello, lastComma := s.hnow })).sendLc p 1 (1 :: le 2 p)
  else s

def State.trainExpiry (s : State) (p : Nat) : State :=
  match (s.port p).link.trainWin with
  | some w =>
    if s.alive && (s.port p).mayTrain then
      let s1 := s.toHall (w.dl + 1)
      s1.modLink p (fun l => { l with trainWin := none, phase := .detected, trainFail := satAdd 16 l.trainFail 1,
                                      retryEnd := some (s1.hnow + idleCycles) })
    else s
  | none => s

def State.trainRetry (s : State) (p : Nat) : State :=
  match (s.port p).link.retryEnd with
  | some e =>
    if s.alive && (s.port p).mayTrain then
      let s1 := s.toHall e
      s1.modLink p (fun l => { l with retryEnd := none, trainWin := some (mkWin s1.hnow trainCycles) })
    else s
  | none => s

/-- Loss of synchronisation (02 R48): without a K28.5 the window of 12,800 cycles from the last one has expired. A QUARANTINED
port that is still training stays QUARANTINED with its training window running (DESIGN CHOICE, log 98: R48 speaks of a port in
LINKING). -/
def State.loseSync (s : State) (p : Nat) (why : SyncLoss) : State :=
  let v := s.port p
  let s1 := match why with
    | .noComma => s.toHall (v.link.lastComma + 12800)
    | .symbolErrors => s
  let los := fun (t : State) => t.modLink p (fun l => { l with los := satAdd 16 l.los 1 })
  if s.trained p then (los s1).linkDown p true
  else if s.alive && v.st == .linking && why == .noComma then (los s1).toAbsent p 1 0 none
  else s

def State.idleEnds (s : State) (p : Nat) : State :=
  match (s.port p).link.idleEnd with
  | some e => (s.toHall e).modLink p (fun l => { l with idleEnd := none })
  | none => s

/-! ### Credits, sequence numbers, replay (02 R57 to R62) -/

/-- A credit window expires; the next one opens in that cycle, the one after the deadline (02 R57). -/
def State.creditExpiry (s : State) (p : Nat) (v : Vc) : State :=
  match tabFind (s.port p).link.stalls (vcNum v) with
  | some x =>
    if s.linkUp p then
      let s1 := (s.toHall (x.1.dl + 1)).modLink p (fun l => { l with credLate := satAdd 16 l.credLate 1 })
      if x.2 + 1 ≥ 16 then s1.linkDown p true
      else s1.modLink p (fun l => { l with stalls := tabSet l.stalls (vcNum v) (mkWin (x.1.dl + 1) 16000, x.2 + 1) })
    else s
  | none => s

/-- Every unacknowledged frame is sent again, in order. -/
def State.resend (s : State) (p : Nat) : State :=
  let l := (s.port p).link
  (each l.replay (fun f t => t.emit p f) s).modLink p (fun x => { x with
    replaying := x.replay.head?.map (·.seq), replayWin := some (mkWin s.hnow 3200), replayCnt := satAdd 16 x.replayCnt 1 })

/-- A NAK or an expiry starts a replay; the one it ends has failed (02 R61, R62). -/
def State.replay (s : State) (p : Nat) : State :=
  let l := (s.port p).link
  if l.replay.isEmpty then s
  else
    let s1 := s.modLink p (fun x => { x with failed := if x.replaying.isSome then x.failed + 1 else x.failed })
    if (s1.port p).link.failed ≥ 16 then s1.linkDown p true else s1.resend p

def State.replayExpiry (s : State) (p : Nat) : State :=
  match (s.port p).link.replayWin with
  | some w => if s.linkUp p && !(s.port p).link.replay.isEmpty then (s.toHall (w.dl + 1)).replay p else s
  | none => s

/-- The frames of the replay buffer that an ACKSEQ leaves; none when it names no frame in it. -/
def afterAck (q : BitVec 8) : List Frame → Option (List Frame)
  | [] => none
  | f :: t => if f.seq = q then some t else afterAck q t

def State.ackTo (s : State) (p : Nat) (q : BitVec 8) : State :=
  match afterAck q (s.port p).link.replay with
  | some rest => s.modLink p (fun l => { l with
      replay := rest, failed := 0, replaying := none,
      replayWin := if rest.isEmpty then none else some (mkWin s.hnow 3200) })
  | none => s

/-- A credit that arrives ends the stall of its channel; a frame still waiting without one opens a new window (02 R57). -/
def endStalls (c : Credits) (t : Tab (Window × Nat)) : Tab (Window × Nat) :=
  each allVcs (fun v u => if creditGet c v = 0 then u else tabDel u (vcNum v)) t

/-- Credits arrive from the tap. -/
def Link.addCredits (l : Link) (c : Credits) : Link := { l with credits := creditAdd l.credits c, stalls := endStalls c l.stalls }

/-- An LC ACK, or the acknowledgement and credits in another frame. -/
def State.takeAck (s : State) (p : Nat) (q : Option (BitVec 8)) (nak : Bool) (v : Vc) (n : Nat) : State :=
  if s.linkUp p then
    let s1 := match q with
      | some a => s.ackTo p a
      | none => s
    let s2 := s1.modLink p (fun l => { l.addCredits (creditSet {} v n) with lastComma := s.hnow })
    (if nak then s2.replay p else s2).pump p
  else s

def State.nakTimer (s : State) (p : Nat) : State :=
  match (s.port p).link.nakEnd with
  | some e => if s.linkUp p then (s.toHall e).sendNak p else s
  | none => s

/-- NAK, unless one was sent since the last accepted frame. -/
def State.nakOnce (s : State) (p : Nat) : State := if (s.port p).link.nakEnd.isSome then s else s.sendNak p

def State.crcError (s : State) (p : Nat) : State :=
  if s.trained p then (s.modLink p (fun l => { l with crcErr := satAdd 16 l.crcErr 1 })).nakOnce p else s

/-- The receive buffers that a frame of channel v used: responses and VC2 frames use none (02 Table 2.3, Table 2.5). -/
def buffersOf (h : Header) (v : Vc) : Nat := if h.resp || v == .vc2 then 0 else 1

/-- A protocol error: counted, discarded, and acknowledged with the buffer it used given back (02 R51, R55). -/
def State.protoError (s : State) (p : Nat) (h : Header) : State :=
  if s.trained p then
    let s1 := (s.modLink p (fun l => { l with protoErr := satAdd 16 l.protoErr 1 })).raisePort p 3
    if s.linkUp p then
      match vcOf h.vc with
      | some v => if h.seq = (s.port p).link.rxExp then s1.accept p v (buffersOf h v) else s1.sendAck p .vc0 0
      | none => s1.sendAck p .vc0 0
    else s1
  else s

def State.outOfSeq (s : State) (p : Nat) (q : BitVec 8) : State :=
  let d := (s.port p).link.rxExp - q
  if s.linkUp p then
    if d = 0 then s
    else if d.toNat ≤ 128 then s.sendAck p .vc0 0
    else s.nakOnce p
  else s

def State.creditsBack (s : State) (p : Nat) (c : Credits) : State :=
  if s.linkUp p then (s.modLink p (fun l => { l.addCredits c with lastComma := s.hnow })).pump p else s

/-! ### Pairing (02 R64 to R66, 09 R290 to R292) -/

def labelTap : Bytes := ascii "OXOTH-TAP"
def labelMod : Bytes := ascii "OXOTH-MOD"

/-- Rt of Table 2.7 step 2 under a secret. -/
def pairRt (k cm : Bytes) (tap : BitVec 64) (p : Nat) : Bytes :=
  (hmacSha256 k (labelTap ++ cm ++ le 8 tap.toNat ++ le 2 p)).take 16

/-- Rm of step 4. -/
def pairRm (k ct cm : Bytes) (p fallback wait : Nat) : Bytes :=
  (hmacSha256 k (labelMod ++ ct ++ cm ++ le 2 p ++ le 1 fallback ++ le 1 wait)).take 16

/-- Pairing failed: port error [1] with the reason, and QUARANTINED with cause PAIR_FAIL. -/
def State.pairFailed (s : State) (p reason : Nat) (send : Bool) : State :=
  let s1 := s.when send (fun t => t.sendLc p 5 (le 1 reason))
  let s2 := s1.modLink p (fun l => { l with pair := .failed, pairWin := none, again := false, newMatch := false, up := false })
  ((s2.modRls p (fun r => { r with qrel := false })).raisePort p 1 false reason).quarantine p 1

/-- Step 1: PAIR_CHAL with a fresh challenge. -/
def State.challenge (s : State) (p : Nat) : State :=
  let (cm, s1) := s.draw 16
  (s1.sendLc p 2 (cm ++ le 2 p)).modLink p (fun l => { l with pair := .resp, cm := cm, pairWin := some (mkWin s.hnow idleCycles) })

def State.takeHello (s : State) (p : Nat) (h : TapHello) : State :=
  if s.trained p && (s.port p).link.pair == .hello then
    let s1 := s.modLink p (fun l => { l with tapId := h.tapId, caps := h.caps, platform := h.platform, fallback := h.fallback,
                                             wait := h.wait, holdLock := h.platform.getLsbD 4, lastComma := s.hnow })
    if h.version = 1 then s1.challenge p else s1.pairFailed p 1 true
  else s

/-- The secret under which Rt holds: CURRENT first, then PENDING (09 R291); the flag says PENDING. -/
def Port.matchRt (v : Port) (p : Nat) (rt : Bytes) : Option (Bytes × Bool) :=
  let ok := fun (k : Option Bytes) => match k with
    | some x => pairRt x v.link.cm v.link.tapId p == rt
    | none => false
  if ok v.key.pksCur then some (v.key.pksCur.getD [], false)
  else if ok v.key.pksPend then some (v.key.pksPend.getD [], true)
  else none

def State.pairWinOpen (s : State) (p : Nat) : Bool :=
  match (s.port p).link.pairWin with
  | some w => s.hnow ≤ w.dl
  | none => false

/-- A PENDING match is reported to the Loft, which starts a TAP_PROMOTE in that cycle (09 R291). -/
def State.askPromote (s : State) (p : Nat) : State :=
  if s.gran.promotes.contains p then s else { s with gran := { s.gran with promotes := s.gran.promotes ++ [p] } }

def State.takePairResp (s : State) (p : Nat) (rt ct : Bytes) : State :=
  let v := s.port p
  if s.trained p && v.link.pair == .resp && s.pairWinOpen p then
    match v.matchRt p rt with
    | none => s.pairFailed p 2 true
    | some (k, pend) =>
      let fb := b2n v.enr.fallback
      ((s.sendLc p 4 (pairRm k ct v.link.cm p fb v.enr.wait ++ le 1 fb ++ le 1 v.enr.wait)).modLink p (fun l => { l with
        pair := .done, pairWin := some (mkWin s.hnow idleCycles), newMatch := pend, lastComma := s.hnow })).when pend
        (fun t => t.askPromote p)
  else s

/-- Step 5 and 6: the tap has stored the fallback settings; CREDIT_INIT is sent. -/
def State.takePairDone (s : State) (p : Nat) : State :=
  let v := s.port p
  if s.trained p && v.link.pair == .done && s.pairWinOpen p then
    (s.modLink p (fun l => { l with
      pair := .creditInit, pairWin := none, fbStored := v.enr.fallback,
      waitStored := BitVec.ofNat 8 v.enr.wait, lastComma := s.hnow })).sendLc p 6 [8, 8, 0, 8, 2]
  else s

def State.takePairFail (s : State) (p : Nat) (reason : Byte) : State :=
  let ph := (s.port p).link.pair
  if s.trained p && (ph == .hello || ph == .resp || ph == .done) then s.pairFailed p reason.toNat false else s

def State.pairExpiry (s : State) (p : Nat) : State :=
  match (s.port p).link.pairWin with
  | some w => if s.trained p then (s.toHall (w.dl + 1)).pairFailed p 4 true else s
  | none => s

/-- The tap reports a running platform: PG high and RST# not asserted (06 R199). -/
def Link.running (l : Link) : Bool := l.platform.getLsbD 0 && !l.platform.getLsbD 1

/-- A port that pairs while its platform runs is to be ADOPTED. -/
def Port.toAdopt (v : Port) : Bool := v.st == .pairing && v.link.running

/-- Step 7: the tables, then the CTRL, which asserts RST unless the platform runs. -/
def State.takeCreditInit (s : State) (p : Nat) (c : Credits) : State :=
  let v := s.port p
  if s.trained p && v.link.pair == .creditInit then
    let s1 := (s.modLink p (fun l => { l with credits := c, up := true, pair := .tables, ctlDone := false, lastComma := s.hnow })).modMir p
      (fun m => { m with tap := ⟨m.sck, m.band, m.ponMode, m.pon4b⟩ })
    let s2 := each (tableLoads 0 classTable ++ tableLoads 1 v.identity) (fun b t => t.sendCtl p 1 .table b) s1
    let id := (s2.port p).link.nextCtl
    let m := b2n (!v.toAdopt)
    (s2.modLink p (fun l => { l with pairCtl := some id })).sendCtl p 0 .pairing
      ((s2.port p).ctrlBytes m m (if v.upd.changed then 3 else 0))
  else s

/-- Step 8: HELD or ADOPTED (a QUARANTINED port stays until its release is complete, 14 R434), and the STATUS of shadows 0 to 7 (03 R96); entries restored are decided on entry to ADOPTED
(06 R201). -/
def State.pairStep8 (s : State) (p : Nat) : State :=
  let v := s.port p
  let adopt := v.toAdopt
  let s1 := s.when (v.st != .quarantined) (fun t => t.setSt p (if adopt then .adopted else .held))
  let s2 := s1.modLink p (fun l => { l with pair := .paired, again := false, pairCtl := none })
  let s3 := (s2.modPort p (fun v => { v with link := { v.link with sh4 := v.shadow4 } })).sendStatus p
    (zeros 4 ++ [BitVec.ofNat 8 (s2.port p).shadow4]) 255 (s2.port p).link.cs
  if adopt then
    let qs := (s3.port p).ring.seqs (fun e => e.state == .held || e.state == .accepted)
    let s4 := s3.ringAdopt p
    if (s4.port p).ring.readbackPending ∨ qs.isEmpty then s4 else s4.sendAttn p 0x20 qs
  else s3

/-- Step 8 may follow: the CTRL_ACK has come, and a match under PENDING was promoted. -/
def Port.paired (v : Port) : Bool := v.link.pair == .tables && v.link.ctlDone && !v.link.newMatch

/-- A quarantine caused by a pairing failure was released: pairing runs again from step 1 (02 R65). -/
def State.pairAgain (s : State) (p : Nat) : State :=
  if s.trained p then (s.modLink p (fun l => { l with again := true, ctlDone := false })).challenge p else s

/-! ### Windows that have passed (00 R7, R8) -/

/-- The port reaction of an uncorrectable read (03 Table 3.10). -/
def State.uncReaction (s : State) (p : Nat) (quar : Bool) (time : Nat) : State :=
  if quar then s.quarantine p 17 false 0 time
  else if (s.port p).served then s.toHeld p false 0 true time
  else s

/-- The attention window of an uncorrectable read expires (03 R119). -/
def State.attnExpiry (s : State) (p : Nat) : State :=
  match (s.port p).link.attns.find? (fun a => a.win.isSome && a.react.isSome) with
  | some a =>
    let s1 := (s.toHall ((a.win.getD ⟨0, 0⟩).dl + 1)).modLink p (fun l => { l with
      attns := l.attns.map (fun x => if x.id == a.id then { x with win := none, react := none } else x) })
    s1.uncReaction p (a.react.getD false) a.time
  | none => s

/-- The windows of a port's link that end by themselves in cycle c or before: credit, replay, pairing and attention. -/
def Link.lateBy (l : Link) (c : Nat) : Bool :=
  let past := fun (w : Option Window) => match w with
    | some x => x.dl < c
    | none => false
  l.stalls.any (fun e => e.2.1.dl < c) || (!l.replay.isEmpty && past l.replayWin) || past l.pairWin ||
  l.attns.any (fun a => past a.win && a.react.isSome)

/-- The expiry of one channel's credit windows that have passed, one after the other (02 R57). -/
def State.creditDue : Nat → Nat → Vc → State → State
  | 0, _, _, s => s
  | n + 1, p, v, s =>
    match tabFind (s.port p).link.stalls (vcNum v) with
    | some x => if x.1.dl < s.hnow && s.linkUp p then State.creditDue n p v (s.creditExpiry p v) else s
    | none => s

/-- What arrives after a window's deadline comes after its expiry, whichever row stands first in the queue: the expiries that
are due take effect before it (00 R7, R8). -/
def State.overdue (s : State) (p : Nat) : State :=
  if (s.port p).link.lateBy s.hnow && s.alive then
    let past := fun (w : Option Window) => match w with
      | some x => x.dl < s.hnow
      | none => false
    let s1 := each allVcs (fun v t => State.creditDue 16 p v t) s
    let s2 := s1.when (past (s1.port p).link.replayWin) (fun t => t.replayExpiry p)
    let s3 := s2.when (past (s2.port p).link.pairWin) (fun t => t.pairExpiry p)
    s3.when ((s3.port p).link.attns.any (fun a => past a.win && a.react.isSome)) (fun t => t.attnExpiry p)
  else s

/-- A frame arrives on a port, after every expiry that was due: an armed injection on the receive CRC of that port makes this
check fail (13 R407). -/
def State.rx (s : State) (p : Nat) (act : State → State) : State :=
  let s1 := s.overdue p
  if s1.trained p && s1.injection (pgLs (galOf p)) 0 (some p) ≠ 0 then (s1.disarm (pgLs (galOf p))).crcError p else act s1

/-- A sequenced frame arrives on a port whose link is up: it is accepted, returns n buffers of channel v, and acts. -/
def State.rxSeq (s : State) (p : Nat) (v : Vc) (n : Nat) (act : State → State) : State :=
  if s.linkUp p then s.rx p (fun t => if t.linkUp p then act (t.accept p v n) else t) else s

end Sys2Proof.Machine
end

