-- ==== Sys2Proof/Machine/EnrolOps.lean ====
section
/-! DEFINITION. Enrolment, retirement and the release of a quarantine as they go on after their request was accepted
(14 R433, R434; 04 Table 4.14; 05 R168). -/

namespace Sys2Proof.Machine

/-! ### Enrolment (R433) -/

/-- The enrolment record: what the device read gives, or with ERASE_GIVEN the given erase types and times and the 4-byte
opcodes of 03 Table 3.1 in 1S-1S-1S (log 55). -/
def enrolRecord (b : Bytes) (d : DeviceRead) : Enrol :=
  let r : Enrol := { enrolled := true, ever := true, fallback := bit (num b 7 1) 1, wait := num b 8 1, jedec := d.jedec,
                     imageId := num b 10 8, version := num b 18 8 }
  if bit (num b 7 1) 2 then
    { r with erases := num b 26 1 % 8, maxErase := num b 28 2, maxProg := num b 30 2, typErase4 := num b 32 2,
             typErase32 := num b 32 2, typErase64 := num b 32 2, typProg := num b 34 2, readOp := 0x0C, progOp := 0x12, erase4 := 0x21, erase32 := 0x5C, erase64 := 0xDC,
             mode := 0, addrBytes := 4, dummy := 8 }
  else
    { r with erases := d.eraseTypes.toNat, maxErase := d.maxEraseMs, maxProg := d.maxProgUs, typErase4 := d.typErase4Ms,
             typErase32 := d.typErase32Ms, typErase64 := d.typErase64Ms, typProg := d.typProgUs,
             byteTimes := some (d.byteProgUs, d.byteMoreUs, d.typChipMs), pageSize := d.pageSize, readOp := d.readOp.toNat, progOp := d.progOp.toNat,
             erase4 := d.erase4Op.toNat, erase32 := d.erase32Op.toNat, erase64 := d.erase64Op.toNat, mode := d.mode.toNat,
             addrBytes := d.addrBytes, dummy := d.dummy, clock := d.clockMhz }

/-- Bank 0 after enrolment (03 R106): DEFAULT_POLICY HOLD, LOG_DENY_READ 1, everything else 0. -/
def enrolBank : Bank := { words := [(0, 0x440)], valid := true }

/-- The port of an enrolment: its record, MIR_PORT_CFG and MIR_PORT_TIMING, bank 0, and an empty tree of the named part, PRISTINE; its
ring counts since enrolment start again, its sequence numbers go on (04 R129); at its first enrolment it is tied to none (07 R227). -/
def Port.enrolAs (v : Port) (b : Bytes) (d : DeviceRead) (x : Bytes) (man : Nat) : Port :=
  let m : MirPort := { v.mir with
    enrLen := num b 2 2, band := num b 4 1, sck := num b 5 1, ponMode := num b 6 1, pon4b := bit (num b 7 1) 0,
    bank0 := enrolBank, active := false, armed := false }
  let first := !v.enr.ever
  let t : TreePort := { span := ceilDiv (pLength x) 4096, manRoot := pRoot x, imageId := pImage x, version := pVersion x,
                        copySlot := v.tree.copySlot, manNo := man, spanState := 1 }
  let r : RingPort := { v.ring with commitT := 0, refuseT := 0, partialT := 0, lostT := 0, commits := [] }
  let k : RlsPort := { v.rls with declared := pRate x, verified := false }
  { v with enr := enrolRecord b d, mir := m, tree := t, ring := r, rls := k, tie := if first then none else v.tie,
           notify := !first && v.notify, bounds := v.bounds.filter (fun c => c.kind != .policy) }

/-- The record of an enrolment is written and its request answered; without SFDP and without given erases it is NO_SFDP. -/
def State.enrolNow (s : State) (q : EnrolReq) : State :=
  let s0 := { s with enrols := s.enrols.filter (fun e => e.port ≠ q.port) }
  if !q.dev.hasSfdp && !bit (num q.body 7 1) 2 then s0.respond q.ses q.seq [4]
  else match mPartOf q.man q.port with
    | none => s0.respond q.ses q.seq [3]
    | some x =>
      let (no, s1) := s0.keepMan q.man
      let s2 := (s1.modPort q.port (fun v => v.enrolAs q.body q.dev x no)).syncShadow4 q.port
      ((s2.when (s2.port q.port).tie.isNone (fun t => t.unbind q.port)).respond q.ses q.seq [0]).useImages

/-- The signature of the named manifest: a bad one ends the request; with a good one a RETIRED port is restored to ABSENT
(01 Table 1.9) with its tap PHY domain on. -/
def State.enrolSig (s : State) (p : Nat) (ok : Bool) : State :=
  match s.enrols.find? (fun e => e.port == p) with
  | none => s
  | some q =>
    if !ok then { s with enrols := s.enrols.filter (fun e => e.port ≠ p) }.respond q.ses q.seq [3]
    else
      let s1 := { s with enrols := s.enrols.map (fun e => if e.port = p then { e with good := true } else e) }
      if (s1.port p).st = .retired then
        (s1.modPort p (fun v => { v with link := downLink v.link none })).setSt p .absent |>.domSet p true
      else s1

/-- Enrolments whose port is HELD with its link up take place. -/
def State.enrolMonitor (s : State) : State :=
  each (s.enrols.filter (fun q => q.good && (s.port q.port).st == .held && (s.port q.port).link.up)) (fun q t => t.enrolNow q) s

/-! ### Retirement (R434) -/

/-- A retirement is accepted: entries by the retirement row of 04 Table 4.14, no further admission. -/
def State.retireBegin (s : State) (p : Nat) : State :=
  let s1 := (s.ringRetire p).modRing p (fun r => { r with shut := true })
  s1.modRls p (fun r => { r with retiring := true })

/-- The port becomes RETIRED once every entry is final: RST asserted, the RETIRE record, the tap PHY domain off. A port that was never
filled has no KEPT_ROOT: its record holds zeros (DESIGN CHOICE, log 98). -/
def State.retireEnd (s : State) (p : Nat) : State :=
  let s1 := ((s.ctrlReset p).ledgerPut 0x28 p (le 6 (s.port p).ring.next ++ (s.port p).tree.kept ++ zeros (48 - (s.port p).tree.kept.length))).setSt p .retired
  let s2 := (s1.toAbsent p 1 0 none).domSet p false
  let s3 := s2.modPort p (fun v => { v with
    enr := { v.enr with enrolled := false }, tree := { copySlot := v.tree.copySlot }, bounds := []
    gln := { v.gln with heal := none, healQueue := [], healWait := [], rereads := [] }
    ring := { v.ring with shut := false }, rls := { v.rls with retiring := false, declared := 0 } })
  ({ s3 with healCopies := tabDel s3.healCopies p }).useImages

/-- A port being retired: entries that came to wait for read-back end PARTIAL; with none COMMITTING it becomes RETIRED. -/
def State.retireStep (s : State) (p : Nat) : State :=
  let s1 := s.entriesTo p ((s.port p).ring.seqs (fun e => e.state == .committing && e.readback)) .partial_ 5
  if (s1.port p).ring.entries.any (fun e => e.state == .committing) then s1 else s1.retireEnd p

def State.retireMonitor (s : State) : State :=
  each (((s.ports.filter (fun e => e.2.rls.retiring)).map (·.1))) (fun p t => t.retireStep p) s

/-! ### Release of a quarantine (R434) -/

/-- The release is asked for: a failed pairing runs again from step 1 (02 R65). -/
def State.releaseAsk (s : State) (p : Nat) : State :=
  let s1 := s.modRls p (fun r => { r with qrel := true })
  if (s.port p).link.pair = .failed then s1.pairAgain p else s1

/-- What a release still needs: pairing (02 R65), refills (03 R120), heals (05 Table 5.6). -/
def Port.relReady (v : Port) : Bool :=
  v.link.pair == .paired && v.mir.refill.isEmpty && v.gln.heal.isNone && v.gln.healQueue.isEmpty && v.gln.healWait.isEmpty

/-- A QUARANTINED port whose release goes on: its diverged leaves are healed, then it is HELD. -/
def State.releaseStep (s : State) (p : Nat) : State :=
  let v := s.port p
  if v.relReady then ((s.setSt p .held).modPort p (fun x => { x with qcause := 0 })).ringRelease p
  else if v.link.pair = .paired ∧ v.mir.refill = [] ∧ v.gln.healWait ≠ [] then
    each v.gln.healWait (fun i t => t.queueHeal p i) (s.modGln p (fun g => { g with healWait := [] }))
  else s

def State.releaseMonitor (s : State) : State :=
  each (((s.ports.filter (fun e => e.2.st == .quarantined && e.2.rls.qrel)).map (·.1))) (fun p t => t.releaseStep p) s

end Sys2Proof.Machine
end

