-- ==== Sys2Proof/Machine/HallOps.lean ====
section
/-! DEFINITION. What a hall does in the cycle in which its conditions come to hold: the end of a physical operation's job, jobs that
waited (04 R140, 05 R185), fill reads for freed leaf buffers (05 R169), heals that waited (05 R182), and the rebuilding of ring
structures found uncorrectable (04 R155). -/

namespace Sys2Proof.Machine

/-- The numbers of the listed ports that satisfy a condition. -/
def State.portsThat (s : State) (f : Nat → Port → Bool) : List Nat :=
  (s.ports.filter (fun e => f e.1 e.2)).map (·.1)

/-! ### Jobs -/

/-- A job of a copy goes on by the rules of 08 R258; every other by its own chapter. -/
def State.jobDone (s : State) (p : Nat) (j : VcJob) (ok : Bool) : State :=
  match j.kind with
  | .copyWrite => (s.dropJob p j.op).copyWrote p ok
  | .copyCheck leaf => (s.dropJob p j.op).copyChecked p leaf (if ok then j.all ++ j.got else [])
  | _ => if ok then s.jobEnded p j (j.all ++ j.got) else s.jobFailed p j

/-- The operations of a job are done; what it read waits for a hash lane when none may be allocated (05 R185). -/
def State.jobRead (s : State) (p : Nat) (j : VcJob) : State :=
  if needsLane j && !s.laneFree (hallOf p) then
    s.modRing p (fun r => { r with jobs := r.jobs.map (fun x => if x.op == j.op then { x with hashing := true } else x) })
  else s.jobDone p j true

/-- A job that waited for a lane goes on. -/
def State.jobHashed (s : State) (p : Nat) (j : VcJob) : State :=
  if j.hashing && s.laneFree (hallOf p) then
    (s.modRing p (fun r => { r with jobs := r.jobs.map (fun x => if x.op == j.op then { x with hashing := false } else x) })).jobDone
      p { j with hashing := false } true
  else s

/-- The jobs of every port that waited for a lane, or to be sent. -/
def State.jobMonitor (s : State) : State :=
  let s1 := each (s.portsThat (fun _ v => v.ring.jobs.any (·.hashing))) (fun p t =>
    each (t.port p).ring.jobs (fun j u => u.jobHashed p j) t) s
  each (s1.portsThat (fun _ v => v.ring.jobs.any (·.paused))) (fun p t =>
    each (t.port p).ring.jobs (fun j u => u.resumeJob p j) t) s1

/-- Whenever a leaf buffer is free, the hall issues the next fill read (05 R169). -/
def State.fillMonitor (s : State) : State :=
  each (((s.portsThat (fun _ v => v.tree.filling)).map hallOf).eraseDups) (fun h t => t.fillIssue h) s

/-- A divergence that waited is healed once no heal runs and a lane is free (05 R182). -/
def State.healMonitor (s : State) : State :=
  each (s.portsThat (fun _ v => !v.gln.healQueue.isEmpty && v.gln.heal.isNone)) (fun p t => t.healNext p) s

/-! ### Uncorrectable ring structures (04 R155) -/

/-- The structures of DRAM unit u are rebuilt; an ACCEPTED or HELD entry whose ACCEPT record cannot be read becomes LOST with cause
UNRECOVERABLE, and its port goes to QUARANTINED with cause ENTRY_LOST. The entries whose records are needed are those that the
structure belongs to (DEDUCED, log 99). -/
def State.ringUnc (s : State) (h u : Nat) (port : Option Nat) (inj : Bool) : State :=
  match ringPart u with
  | none => s
  | some x =>
    let owner := match port with
      | some p => some p
      | none => s.partPort h x
    let lost := (s.partEntries h x).filter (fun e =>
      (e.2.state == .accepted || e.2.state == .held) && !s.acceptRead e.1 e.2.seq)
    let s1 := each lost (fun e t => t.entryTo e.1 e.2.seq .lost 0x0A) (s.rebuildRing h u owner inj)
    each ((lost.map (·.1)).eraseDups) (fun p t => t.quarantine p 13) s1

/-- What a port's read stream found uncorrectable goes to the ring engine. -/
def State.ringMonitor (s : State) : State :=
  each (s.portsThat (fun _ v => !v.ring.unc.isEmpty)) (fun p t =>
    each (t.port p).ring.unc (fun x u => u.ringUnc (hallOf p) x.1 (some p) x.2) (t.modRing p (fun r => { r with unc := [] }))) s

/-- What every hall does by itself. -/
def State.hallMonitors (s : State) : State := (((s.ringMonitor).jobMonitor).fillMonitor).healMonitor

end Sys2Proof.Machine
end

