-- ==== Sys2Proof/Machine/Monitors.lean ====
section
/-! DEFINITION. What the module does by itself in the cycle in which its conditions come to hold, after every command: the
rules that name no event of their own (05, 06, 08, 09, 14), then the events that were raised (13 R384), and the collector
words. -/

namespace Sys2Proof.Machine

/-- Pairing step 8 on every port whose conditions hold. -/
def State.pairMonitor (s : State) : State := each (s.portsThat (fun _ v => v.paired)) (fun p t => t.pairStep8 p) s

/-- No port that has detected a tap is LINKING or PAIRING, once every tap PHY domain is on (06 R189). -/
def State.broughtUp (s : State) : Bool :=
  s.modState == .hallBringup &&
  [0, 1, 2, 3].all (fun h => (s.hall h).phase == .faulted || (s.hall h).galOn == 4) &&
  s.ports.any (fun e => e.2.st != .absent && e.2.st != .retired) &&
  s.ports.all (fun e => e.2.st != .linking && e.2.st != .pairing)

/-- HELD ports that meet R190 enter VERIFYING in the cycle in which they come to. -/
def State.verifyMonitor (s : State) : State :=
  each (s.portsThat (fun p _ => s.mayVerify p)) (fun p t => t.enterVerifying p) s

/-- An ADOPTED port may fill (06 R202). -/
def State.mayAdoptFill (s : State) (p : Nat) : Bool :=
  let v := s.port p
  (s.modState == .verify || s.modState == .serving || s.modState == .departing) &&
  v.st == .adopted && v.enr.enrolled && v.bankOk && !v.ring.readbackPending &&
  !v.rls.verified && !v.rls.switched && !v.tree.filling && (s.hall (hallOf p)).phase == .run &&
  !v.bounds.any (fun b => match b.kind with
    | .quarantine _ _ => true
    | _ => false)

def State.adoptMonitor (s : State) : State :=
  each (s.portsThat (fun p _ => s.mayAdoptFill p)) (fun p t => t.adoptFill p) s

/-- A port's first gleaner cycle after its fill starts in the first cycle in which it can be gleaned, with a full bucket (05 R178). -/
def State.gleanMonitor (s : State) : State :=
  each (s.portsThat (fun p v => v.gln.t0.isNone && s.gleanable p)) (fun p t => t.modGln p (fun g => { g with
    t0 := some t.hnow, bucket := 16384, bucketAt := t.hnow })) s

/-- The Loft cycle in which the module entered SERVING, kept while it serves (13 R397). -/
def State.serveMonitor (s : State) : State :=
  if s.modState = .serving then
    (if s.loft.serveAt.isSome then s else s.modLoft (fun l => { l with serveAt := some s.lnow }))
  else s.modLoft (fun l => { l with serveAt := none })

/-- The last step of 06 Table 6.1 completed, once the warden runs (17 Table 17.9 BOOT_STEP). -/
def State.bootStepNow (s : State) : Nat :=
  let all := fun (f : Hall → Bool) => [0, 1, 2, 3].all (fun h => (s.hall h).phase == .faulted || f (s.hall h))
  match s.modState with
  | .serving => 12
  | .departing => 12
  | .verify =>
    if s.ports.any (fun e => e.2.st == .verifying && e.2.tree.filling) then 9
    else if s.ports.any (fun e => e.2.st == .verifying) then 10 else 11
  | .hallBringup => if all (fun x => x.galOn == 4) then 7 else if all (fun x => x.phase == .run) then 6 else 5
  | _ => 0

def State.bootMonitor (s : State) : State := s.modLoft (fun l => { l with bootStep := max l.bootStep s.bootStepNow })

/-- Step 2 of a hall reset ends when every CTRL that asserts RST is acknowledged (13 Table 13.11). -/
def State.ackMonitor (s : State) (h : Nat) : State :=
  if (s.hall h).phase = .awaitAcks ∧
     (s.portsOf h).all (fun p => !(s.port p).link.ctls.any (fun c => c.2 == .assertReset)) = true then s.hallResetDown h
  else s

/-- The rules that act by themselves while the module is up. -/
def State.monitors (s : State) : State :=
  if s.alive then
    let s0 := ((s.runPromotes.pairMonitor).retireMonitor.releaseMonitor).enrolMonitor
    let s1 := s0.when s.broughtUp (fun t => t.toModState .verify)
    let s2 := ((s1.verifyMonitor.adoptMonitor).watchAct).verifyMonitor
    let s3 := each [0, 1, 2, 3] (fun h t => ((t.ackMonitor h).cleanFlight h).checkLimit h) s2
    (((s3.departMonitor).pkeMonitor.hallMonitors.certStep.queueSpace).serveMonitor).gleanMonitor.bootMonitor.flushAll
  else s

/-- Events raised are taken to the root until none is left; each round may raise further ones (13 R396, R408). -/
def State.settleLoop : Nat → State → State
  | 0, s => s
  | n + 1, s => if s.root.evq.isEmpty then s else State.settleLoop n (s.settleRound.monitors)

/-- The end of every command: monitors, events, collector words. -/
def State.finish (s : State) : State := (State.settleLoop 64 s.monitors).latchCollectors

/-- A command's outcome: the next state. -/
def State.done (s : State) : Host.Outcome State Fault Refusal := .next s.finish

end Sys2Proof.Machine
end

