-- ==== Sys2Proof/Machine/Access.lean ====
section
/-! DEFINITION. Who may access which register: the writable fields of every page (the register tables of 03 to 15 and 17), the
host rights of 17 Table 17.4, the domains in reset (17 R484) and the locks (17 R489). -/

namespace Sys2Proof.Machine

/-! ### Kinds of page (17 Table 17.1) -/

inductive PageKind where
  | root
  | loft
  | rc
  | otp
  | puf
  | grn
  | wwd
  | lwd
  | pke
  | sealEng
  | barn
  | att
  | hctl
  | hcol
  | drc
  | hsh
  | gln
  | rng
  | rls
  | mir
  | gal
  | pw
  | ls
  | lp
  | enc
  | xng
  | ses
  | alarm
  | svc
  | pwr
  | env
  deriving DecidableEq, Repr

/-- The kind and the instance number of a page. -/
def pageKind (page : Nat) : PageKind × Nat :=
  if isHallPage page then
    ([PageKind.hctl, .hcol, .drc, .hsh, .gln, .rng, .rls, .mir].getD (page % 8) .mir, pageHall page)
  else if isGalPage page then ([PageKind.gal, .pw, .ls].getD (page % 4) .ls, pageGal page)
  else if isPkePage page then (.pke, page - 0x17)
  else if isEncPage page then (.enc, page - 0xC1)
  else if isSesPage page then (.ses, page - 0xE1)
  else match page with
    | 0x10 => (.loft, 0)
    | 0x11 => (.rc, 0)
    | 0x12 => (.otp, 0)
    | 0x13 => (.puf, 0)
    | 0x14 => (.grn, 0)
    | 0x15 => (.wwd, 0)
    | 0x16 => (.lwd, 0)
    | 0x1F => (.sealEng, 0)
    | 0x20 => (.barn, 0)
    | 0x21 => (.att, 0)
    | 0xC0 => (.lp, 0)
    | 0xE0 => (.xng, 0)
    | 0xE7 => (.alarm, 0)
    | 0xE8 => (.svc, 0)
    | 0xF0 => (.pwr, 0)
    | 0xF1 => (.env, 0)
    | _ => (.root, 0)

/-! ### Writable fields -/

/-- The writable fields of a register: RW, W1C and WO bits, whether it is a selector, whether CFG_LOCK freezes its RW
fields (17 R489). -/
structure RegW where
  off : Nat
  rw  : Nat := 0
  w1c : Nat := 0
  wo  : Nat := 0
  sel : Bool := false
  cfg : Bool := false

def selReg (off rw : Nat) : RegW := { off := off, rw := rw, sel := true }
def cfgReg (off rw : Nat) (wo : Nat := 0) : RegW := { off := off, rw := rw, wo := wo, cfg := true }
def rwReg (off rw : Nat) : RegW := { off := off, rw := rw }
def w1Reg (off w : Nat) : RegW := { off := off, w1c := w }
def woReg (off w : Nat) : RegW := { off := off, wo := w }

def full : Nat := 0xFFFFFFFF

/-- The common header (17 Table 17.2); LOCK is handled by R489. -/
def headerRegs : List RegW :=
  [woReg 0x008 1, w1Reg 0x010 full, rwReg 0x014 full, rwReg 0x018 0x3FF131F, w1Reg 0x020 full, rwReg 0x024 full,
   { off := 0x028, rw := 0x71F, wo := 0x8000, sel := true }, w1Reg 0x02C 1, rwReg 0x030 3]

/-- The writable block registers of a kind of page. -/
def blockRegs : PageKind → List RegW
  | .root => []
  | .loft => [w1Reg 0x044 0x3FF]
  | .rc => [w1Reg 0x040 0x1FF, w1Reg 0x044 0xFFFFF, w1Reg 0x048 0x1FF, selReg 0x050 full, rwReg 0x090 full, cfgReg 0x094 1]
  | .otp => [woReg 0x044 0xFFFF000F, rwReg 0x048 0x3F07FF, rwReg 0x04C full, selReg 0x054 0x7FF, selReg 0x060 3, selReg 0x080 15]
  | .puf => []
  | .grn => [selReg 0x048 255, rwReg 0x058 full, woReg 0x05C 0x7FFFF0F, rwReg 0x060 full]
  | .wwd => [cfgReg 0x040 0xFFFF3FFF, woReg 0x044 full, w1Reg 0x054 0xFFFF]
  | .lwd => [cfgReg 0x040 0x13F, woReg 0x044 full]
  | .pke => [cfgReg 0x040 1 2, rwReg 0x050 full, woReg 0x054 7]
  | .sealEng => [cfgReg 0x040 0x3FFF00FF, selReg 0x04C 255, woReg 0x060 0x1FF]
  | .barn => [cfgReg 0x040 3, selReg 0x048 15, rwReg 0x064 0xFFF, woReg 0x06C 0xFFFF000F]
  | .att => [cfgReg 0x040 3]
  | .hctl => [selReg 0x100 255, cfgReg 0x104 0x3FFFF, rwReg 0x108 0xFFFF, woReg 0x118 1]
  | .hcol => [w1Reg 0x040 0xFFF, w1Reg 0x044 0x3FFFF, w1Reg 0x048 0x3FFFF, w1Reg 0x04C 0x3FFFF, w1Reg 0x050 0x3FFFF,
              selReg 0x054 255, w1Reg 0x058 255, woReg 0x05C 0xFFFF0003]
  | .drc => [cfgReg 0x044 0xFF01]
  | .hsh => [cfgReg 0x040 255, woReg 0x048 1]
  | .gln => [cfgReg 0x040 0x7FFF0001, selReg 0x048 255, cfgReg 0x04C 0x1F03, selReg 0x064 0x3F]
  | .rng => [cfgReg 0x040 3, selReg 0x04C 255, cfgReg 0x050 0x7FFFF, selReg 0x068 15, cfgReg 0x06C 0xFFF0007, rwReg 0x070 full,
             rwReg 0x074 0xFFFF, woReg 0x078 0xFFFF0003]
  | .rls => [cfgReg 0x040 3, cfgReg 0x04C 0x1FFFFFF, rwReg 0x050 0xFFF, selReg 0x054 255, cfgReg 0x058 0x3FF, woReg 0x064 3]
  | .mir => [cfgReg 0x040 3, selReg 0x048 255, cfgReg 0x04C 0x7FF, cfgReg 0x050 0x7FFF00, selReg 0x058 0x13F, rwReg 0x05C full,
             rwReg 0x060 full, woReg 0x064 0x103]
  | .gal => []
  | .pw => [selReg 0x040 63]
  | .ls => [selReg 0x040 63, woReg 0x058 1]
  | .lp => [selReg 0x044 255, rwReg 0x048 full, rwReg 0x04C full, rwReg 0x050 full, rwReg 0x054 full, rwReg 0x058 full,
            rwReg 0x05C full, woReg 0x060 3, selReg 0x078 0x3FF, rwReg 0x07C full]
  | .enc => [cfgReg 0x040 7, rwReg 0x050 0xFFFF, rwReg 0x054 0xFFFFFF, rwReg 0x058 255]
  | .xng => [selReg 0x054 1, cfgReg 0x058 3, rwReg 0x05C full, rwReg 0x060 full, rwReg 0x064 full]
  | .ses => [cfgReg 0x060 0xF0FFF, woReg 0x064 0xFFFF0001]
  | .alarm => [cfgReg 0x040 1 2]
  | .svc => []
  | .pwr => [woReg 0x058 1, selReg 0x05C 0x7FF, woReg 0x064 3]
  | .env => []

def regW (page off : Nat) : RegW :=
  let l := if off < 0x40 then headerRegs else blockRegs (pageKind page).1
  (l.find? (fun r => r.off == off)).getD { off := off }

def RegW.all (r : RegW) : Nat := r.rw ||| r.w1c ||| r.wo

/-! ### Host rights (17 Table 17.4): roles 1 Owner, 2 Operator, 3 Service, 4 Monitor -/

/-- What a role may write of a block register beyond selectors and W1C fields, as a mask of bits. -/
def roleMask (role : Nat) (test : Bool) (k : PageKind) (off : Nat) : Nat :=
  let so := role = 1 ∨ role = 3
  let own := role = 1
  let tst := role = 3 ∧ test = true
  let m := fun (c : Prop) [Decidable c] (v : Nat) => if c then v else 0
  match k, off with
  | .mir, 0x040 => m so 2
  | .mir, 0x04C => m so full
  | .mir, 0x050 => m so full
  | .mir, 0x05C => m so full
  | .mir, 0x060 => m so full
  | .mir, 0x064 => m so full
  | .rng, 0x050 => m so full
  | .rng, 0x06C => m own full
  | .gln, 0x040 => m so 0x7FFF0000
  | .gln, 0x04C => m so full
  | .hsh, 0x048 => m tst full
  | .rls, 0x064 => m (so ∨ role = 2) full
  | .rls, 0x040 => m so 2
  | .rls, 0x04C => m so full
  | .rls, 0x050 => m so full
  | .rls, 0x058 => m so full
  | .drc, 0x044 => m so full
  | .hcol, 0x05C => m so full
  | .hctl, 0x104 => m own full
  | .hctl, 0x108 => m own full
  | .hctl, 0x118 => m own full
  | .ls, 0x058 => m so full
  | .lp, 0x048 => m so full
  | .lp, 0x04C => m so full
  | .lp, 0x050 => m so full
  | .lp, 0x054 => m so full
  | .lp, 0x058 => m so full
  | .lp, 0x05C => m so full
  | .lp, 0x060 => m so full
  | .lp, 0x07C => m so full
  | .enc, _ => m so full
  | .sealEng, 0x060 => m (own ∨ role = 2) full
  | .sealEng, 0x040 => m own full
  | .barn, 0x040 => m own full
  | .barn, 0x064 => m own full
  | .att, 0x040 => m own full
  | .pke, 0x040 => if tst then 2 else m own 1
  | .xng, _ => m own full
  | .ses, 0x060 => m own full
  | .alarm, 0x040 => if tst then 2 else m (own ∨ role = 2) 1
  | .pwr, 0x064 => m own full
  | .pwr, 0x058 => m own full
  | _, _ => 0

/-- The bits that a host session may write of a register. -/
def hostMask (role : Nat) (test : Bool) (page off : Nat) : Nat :=
  let r := regW page off
  let so := role = 1 ∨ role = 3
  if off = 0x018 then (if role = 3 ∧ test then full else 0)
  else if off = 0x014 ∨ off = 0x008 then (if so then full else 0)
  else if off = 0x028 then (if so then full else 0x71F)
  else if off < 0x40 then (if so then r.w1c else 0)
  else
    let w := if so ∧ !(page = 0x10 ∧ off = 0x044) then r.w1c else 0
    (if r.sel then r.rw else 0) ||| w ||| (roleMask role test (pageKind page).1 off &&& r.all)

/-- Registers with a rule of their own that records an access error for a requester that may not write them (17 R490). -/
def ownRule (page off : Nat) : Bool :=
  match (pageKind page).1, off with
  | .hcol, 0x05C => true
  | .hctl, 0x118 => true
  | .ses, 0x064 => true
  | .barn, 0x06C => true
  | _, _ => off == 0x018

/-! ### Pages in reset, requesters, locks -/

/-- The shadow of a gallery is inside its reset interval. -/
def State.galInReset (s : State) (g : Nat) : Bool :=
  s.root.shadows.any (fun x => x.dom == dGal g && (match x.dl with
    | some d => s.hnow + 8000 ≤ d
    | none => true))

/-- A hall is in steps 1 to 6 of its reset (13 Table 13.11): its shadow's end, 10 us after step 6, is not yet 8,000 cycles ahead. -/
def State.hallResetting (s : State) (h : Nat) : Bool :=
  (s.hall h).phase != .faulted && s.root.shadows.any (fun x => x.dom == dHall h && (match x.dl with
    | some d => s.hnow + 8000 ≤ d
    | none => true))

/-- The domain of a page is in reset, or its hall is FAULTED (17 R484, 13 R396). The warden uses a hall's pages again from step 5 of a
hall reset, in which it reloads the policy banks (DEDUCED, log 103). -/
def State.pageInReset (s : State) (page : Nat) : Bool :=
  if isHallPage page || isGalPage page then
    let h := (s.hall (pageHall page)).phase
    if isHallPage page && page % 8 == 1 then h == .off || h == .inReset || h == .awaitAcks
    else h == .off || h == .inReset || h == .faulted || (isHallPage page && h == .awaitAcks) || (isGalPage page && page % 4 ≠ 2 && s.galInReset (pageGal page))
  else if isPkePage page then (match (s.eng (page - 0x17)).zeroing with
    | some z => z.1 == 21
    | none => false)
  else false

/-- An access of a requester is answered 0 with reason RESET: the page's domain is in reset, or a host addresses a hall in steps 1 to 6
of its reset (13 R402). -/
def State.barred (s : State) (page : Nat) (r : Requester) : Bool :=
  s.pageInReset page || (match r with
    | .warden => false
    | .session _ => (isHallPage page || isGalPage page) && s.hallResetting (pageHall page))

/-- A requester that can make an access now. -/
def State.live (s : State) : Requester → Bool
  | .warden => s.alive && s.wardenRuns
  | .session x => s.alive && (s.ses x).st == 2

/-- The bits of a register that a requester may write. -/
def State.writeMask (s : State) (page off : Nat) : Requester → Nat
  | .warden => (regW page off).all
  | .session x => hostMask (s.ses x).eff (s.ses x).test page off

/-- CFG_LOCK or ERR_LOCK freezes the RW fields of a register; REACT_SEL is frozen only for SET. -/
def State.frozen (s : State) (page off v : Nat) : Bool :=
  let h := s.hdr page
  if off = 0x014 ∨ off = 0x018 then h.errLock
  else if off = 0x028 then h.errLock && bit v 15
  else (regW page off).cfg && h.cfgLock

/-- A command register of a page, used by a requester: refused in reset (17 R484), where the requester may not write it
(17 R490), or carried out. -/
def State.access17 (s : State) (page off : Nat) (r : Requester) (act : State → State) : State :=
  if !s.live r || !pageExists page then s
  else if s.barred page r then s.accErr page off 6 r
  else if s.writeMask page off r ≠ 0 then act s
  else if ownRule page off then s.accErr page off 3 r
  else s

/-- A command bit of a register: as access17, and only for a requester that may write that bit (17 Table 17.4). -/
def State.access17b (s : State) (page off need : Nat) (r : Requester) (act : State → State) : State :=
  s.access17 page off r (fun t => if t.writeMask page off r &&& need = 0 then t else act t)

/-- The RW fields of a configuration register: as access17, and refused while locked (17 R489). -/
def State.access17rw (s : State) (page off v : Nat) (r : Requester) (act : State → State) : State :=
  s.access17 page off r (fun t => if t.frozen page off v then t.accErr page off 2 r else act t)

/-- The value a register takes: the bits of the mask from v, the others as they were. -/
def blend (old v mask : Nat) : Nat := (v &&& mask) ||| (old &&& (full ^^^ mask))

end Sys2Proof.Machine
end

