-- ==== Sys2Proof/Machine/Glean.lean ====
section
/-! DEFINITION. The commands of the gleaner, the heal job and the hash lanes' test (05 R176 to R185). -/

namespace Sys2Proof.Machine

def execGleanerReadStart (h : HallId) (s : State) : Host.Outcome State Fault Refusal :=
  (s.when s.alive (fun t => t.gleanStart h)).done

/-- t0 + CYCLE_S: the next cycle, or LATE (05 R178). -/
def State.cycleDeadline (s : State) (p : Nat) : State :=
  let v := s.port p
  match v.gln.t0 with
  | some t =>
    let s1 := s.toHall (t + (s.hall (hallOf p)).cycleS * 800000000)
    if v.leafCount ≤ v.gln.read then s1.nextCycle p s1.hnow
    else if v.gln.late then s1
    else (s1.modGln p (fun g => { g with late := true, lateCyc := satAdd 16 g.lateCyc 1 })).raiseP (pgGln (hallOf p)) 8 p
  | none => s

def execGleanerCycleDeadline (p : PortId) (s : State) : Host.Outcome State Fault Refusal :=
  (s.when s.alive (fun t => t.cycleDeadline p)).done

/-- The heal job at the head of the commit queue starts (05 R182 step 4), on an ADOPTED port once it is switched (06 R200); one that a
link loss ended starts again when the port is HELD or ADOPTED (05 R183). -/
def State.healStart (s : State) (p : Nat) : State :=
  let v := s.port p
  match v.gln.heal with
  | some h =>
    if s.alive && h.durable && !h.running && s.flAllowed p && s.kindAllowed p .healWrite && !v.ring.readbackPending &&
       (!h.abandoned || v.st == .held || v.st == .adopted) && !v.ring.entries.any (fun e => e.state == .committing) then
      if !s.ledgerRoom then s.raiseP (pgGln (hallOf p)) 10 p else
      let h1 := { h with running := true, abandoned := false }
      (s.modGln p (fun g => { g with heal := some h1 })).healWrite p h1
    else s
  | none => s

def execHealJobStart (p : PortId) (s : State) : Host.Outcome State Fault Refusal := (s.healStart p).done

/-- HSH_TEST RUN (05 R185): accepted only in SERVING. -/
def State.hshRun (s : State) (h : Nat) (r : Requester) : State :=
  if s.modState = .serving then s.modHall h (fun x => { x with testing := true, testDone := false, testPass := false })
  else s.accErr (pgHsh h) 0x048 5 r

def execRun (h : HallId) (r : Requester) (s : State) : Host.Outcome State Fault Refusal :=
  (s.access17 (pgHsh h) 0x048 r (fun t => t.hshRun h r)).done

/-- Lanes that failed a known-answer test are FAULTED; a hall with no working lane is FAULTED (05 R185, 13 R396). -/
def State.lanesFailed (s : State) (h failed : Nat) : State :=
  let s1 := s.modHall h (fun x => { x with laneFail := x.laneFail ||| failed })
  let s2 := s1.when (failed ≠ 0) (fun t => t.raise (pgHsh h) 0)
  s2.when ((s2.hall h).laneFail % 256 == 255) (fun t => t.hallFault h t.cyc)

/-- The test that RUN started is done. -/
def State.hshDone (s : State) (h failed : Nat) : State :=
  let x := s.hall h
  if s.alive && x.testing then
    let f := failed &&& x.laneEn
    (s.modHall h (fun y => { y with testing := false, testDone := true, testPass := f == 0 })).lanesFailed h f
  else s

def execHshTestDone (h : HallId) (failed : BitVec 8) (s : State) : Host.Outcome State Fault Refusal :=
  (s.hshDone h failed.toNat).done

end Sys2Proof.Machine
end

