-- ==== Sys2Proof/Machine/Start.lean ====
section
/-! DEFINITION. Start, flights, release commands, departure of ports and the shutter (06 R188 to R214, 15 R444, R455). -/

namespace Sys2Proof.Machine

/-! ### Mains and the boot ROM -/

def Pwr.read (w : Pwr) (m : SupplyReading) : Pwr :=
  { w with vrms := m.vrms, freq := m.freq, bulk := m.bulk, inputW := m.inputW, bankMv := m.bankMv, energy := m.energy }

/-- Mains has been within limits for 100 ms (15 R444): M0 when the module is COLD without it; READY by R450. -/
def State.mainsStable (s : State) (m : SupplyReading) : State :=
  if m.vrms < 800 ∨ 3000 < m.vrms then s
  else
    let s1 := s.modPwr (fun w => { w.read m with mainsOk := true, ready := 200 ≤ m.energy })
    if s.modState = .cold && !s.pwr.mainsOk then
      (s1.modPwr (fun w => { w with m0 := s.lnow })).modLoft (fun l => { l with cause := setBit32 l.cause 0 })
    else s1

def execMainsStable (m : SupplyReading) (s : State) : Host.Outcome State Fault Refusal := (s.mainsStable m).done

/-- The trip threshold of sensor k in 0.1 degree (15 Table 15.9). -/
def tripAt (k : Nat) : Int := if k = 0 then 600 else if k ≤ 5 then 1150 else if k = 6 then 650 else 1100

/-- Every sensor that reads is at least 15 K below its trip threshold (15 R462). -/
def State.coolEnough (s : State) : Bool :=
  (List.range 8).all (fun k => match (tabGet ({} : Sensor) s.env.sensors k).temp with
    | some t => t ≤ tripAt k - 150
    | none => true)

/-- M0 of a cold start that follows a reset of the Loft: the cycle of the release less 60 ms (06 R214, 12 Table 12.4). -/
def State.setM0 (s : State) (held : Bool) : State := s.when held (fun t => t.modPwr (fun w => { w with m0 := t.lnow - 36000000 }))

/-- The Loft reset is released (06 Table 6.1 step 2, R214, 15 R462): mains present, the hold of 500 ms over. -/
def State.loftRelease (s : State) (o : BootObs) : State :=
  if s.modState = .cold && s.pwr.mainsOk && s.loft.resetting.isNone && (!s.loft.thermalHold || s.coolEnough) then
    ((s.toLoft s.loft.relAt).setM0 (s.loft.relAt != 0)).loftBoot o
  else s

def execLoftResetRelease (o : BootObs) (s : State) : Host.Outcome State Fault Refusal := (s.loftRelease o).done

/-- A further attempt at the root secret after the PUF domain was off for 10 ms (09 R277). -/
def State.pufRetry (s : State) (o : PufObs) : State :=
  match s.puf.retryAt with
  | some t => if s.alive && s.modState == .loftBoot && !s.loft.halted then (s.toLoft t).pufAttempt o else s
  | none => s

def execPufRetryTimer (o : PufObs) (s : State) : Host.Outcome State Fault Refusal := (s.pufRetry o).done

/-- The warden starts: after the boot (06 Table 6.1 step 5), or on a landing that restarts, where the boot ROM selects the
slot again (12 R364, 08 R265). The boot ROM served the Loft watchdog up to that cycle (12 R367). -/
def State.wardenStarts (s : State) : State :=
  if !s.alive || s.loft.halted || s.modState == .shutter then s
  else if s.loft.restart then
    match s.selectWarden with
    | none => s.loftHalt
    | some t => t.startWarden
  else if s.loft.bootOk && s.modState == .loftBoot then
    s.startWarden.lwdBegin 0
  else s

def execWardenStart (s : State) : Host.Outcome State Fault Refusal := s.wardenStarts.done

/-! ### Halls -/

/-- DRAM training and the lane tests of a hall ended (06 Table 6.1 step 6, 13 R396): the pairing key store is filled from
the granary (09 R292). -/
def State.dramTrained (s : State) (h : Nat) (ok : Bool) (lanes : Nat) : State :=
  let x := s.hall h
  if s.alive && x.phase == .training && !x.trained then
    if ok then
      let s1 := s.modHall h (fun y => { y with trained := true, pksFilled := true, testDone := true, testPass := lanes == 0 })
      let s2 := each (s1.portsOf h) (fun p t => t.modKey p (fun k => { k with pksCur := k.current, pksPend := k.pending })) s1
      (s2.lanesFailed h lanes).hallUp h
    else (s.raise (pgDrc h) 3).hallFault h s.cyc
  else s

def execDramTrainingDone (h : HallId) (ok : Bool) (laneFail : BitVec 8) (s : State) : Host.Outcome State Fault Refusal :=
  (s.dramTrained h ok laneFail.toNat).done

/-- The barn controller has replayed a hall's journal and ledger (04 R151). -/
def State.replayDone (s : State) (h : Nat) : State :=
  let x := s.hall h
  if s.alive && x.phase == .training && !x.replayed then
    let s1 := ((s.hallReplay h).modHall h (fun y => { y with replayed := true })).hallUp h
    { s1 with brnReady := s1.brnReady ||
        [0, 1, 2, 3].all (fun k => (s1.hall k).phase == .faulted || (s1.hall k).replayed) }
  else s

def execBarnReplayDone (h : HallId) (s : State) : Host.Outcome State Fault Refusal := (s.replayDone h).done

/-- The next gallery of a hall is switched on; after the fourth, a hall's reset ends and with it, 10 us later, its shadow. -/
def State.nextGallery (s : State) (h : Nat) : State :=
  let x := s.hall h
  if x.phase = .run ∧ x.galOn < 4 then
    let g := 4 * h + x.galOn
    let s1 := ((s.domSet (1024 + g) true).galleryOn g).modHall h (fun y => { y with galOn := y.galOn + 1 })
    s1.when (x.galOn == 3) (fun t => t.shadowEnds (dHall h) (t.hnow + 7999))
  else s

/-- Tap PHY domains go on one gallery of each hall at a time, 2.5 ms apart (06 Table 6.1 step 7, 15 R455). -/
def State.phyGalleryOn (s : State) : State :=
  if s.alive && s.modState != .loftBoot && s.modState != .shutter &&
     [0, 1, 2, 3].any (fun h => (s.hall h).phase == .run && (s.hall h).galOn != 4) then
    let s1 := s.toLoft s.loft.phyAt
    let s2 := each [0, 1, 2, 3] (fun h t => t.nextGallery h) s1
    s2.modLoft (fun l => { l with phyAt := s2.lnow + 1500000 })
  else s

def execTapPhyGalleryPowerOn (s : State) : Host.Outcome State Fault Refusal := s.phyGalleryOn.done

/-- The bring-up window expires (06 R189). -/
def State.bringupExpiry (s : State) : State :=
  match s.loft.bringWin with
  | some w =>
    let s1 := (s.toLoft (w.dl + 1)).modLoft (fun l => { l with bringWin := none })
    if s.alive && s1.modState == .hallBringup then
      let late := fun (h : Nat) => (s1.portsOf h).any (fun p => (s1.port p).st == .linking || (s1.port p).st == .pairing)
      (each [0, 1, 2, 3] (fun h t => t.when (late h) (fun u => u.raise (pgRls h) 0)) s1).toModState .verify
    else s1
  | none => s

def execBringupWindowExpiry (s : State) : Host.Outcome State Fault Refusal := s.bringupExpiry.done

/-! ### Flights -/

def execFlightDecision (h : HallId) (s : State) : Host.Outcome State Fault Refusal :=
  (s.when s.alive (fun t => t.decideFlight h)).done

/-- GROUP_WAIT_S after the group's first member became verified (06 R194): the members not verified are left out. -/
def State.groupWaitEnds (s : State) (h g : Nat) : State :=
  let ms := s.groupAll g
  let ver := ms.filter (fun p => (s.port p).ready)
  match ver.map (fun p => (s.port p).rls.verifiedAt) with
  | [] => s
  | t :: ts =>
    if s.alive && g ≠ 0 && ver.length < ms.length then
      let s1 := s.toHall (ts.foldl min t + (s.hall h).groupWait * 800000000)
      let out := ms.filter (fun p => !(s.port p).rls.verified)
      let s2 := each out (fun p u => u.modRls p (fun r => { r with leftOut := true })) s1
      let s3 := s2.modHall h (fun x => { x with grpPartial := g :: x.grpPartial.filter (· ≠ g) })
      s3.when (!out.isEmpty) (fun u => u.raise (pgRls h) 2)
    else s

def execGroupWaitExpiry (h : HallId) (group : BitVec 8) (s : State) : Host.Outcome State Fault Refusal :=
  (s.groupWaitEnds h group.toNat).done

/-- A hall's report that it took a group reaches the Loft when it is the hall's oldest traffic (06 R196, 01 R22). -/
def State.groupReport (s : State) (h g : Nat) : State :=
  if s.alive && (s.hall h).outq.head? == some (.group g) then
    (s.modHall h (fun x => { x with
      outq := x.outq.drop 1, grpKnown := x.grpKnown.filter (· ≠ g) ++ [g] })).groupRelease g
  else s

def execHallGroupReport (h : HallId) (group : BitVec 8) (s : State) : Host.Outcome State Fault Refusal :=
  (s.groupReport h group.toNat).done

/-- A boot window ends (06 R193). -/
def State.bootWinEnds (s : State) (p : Nat) : State :=
  match (s.port p).rls.bootWin with
  | some w => (s.toHall (w.dl + 1)).modRls p (fun r => { r with bootWin := none, booted := true })
  | none => s

def execBootWindowExpiry (p : PortId) (s : State) : Host.Outcome State Fault Refusal := (s.bootWinEnds p).done

/-- The next end of a 100 ms interval of served bytes (06 R193). -/
def State.rateTick (s : State) : State :=
  let s1 := s.toHall ((s.hnow / 80000000 + 1) * 80000000)
  each ((s1.ports.filter (fun e => e.2.served)).map (·.1)) (fun p t => t.sampleRate p) s1

def execRateSampleTick (s : State) : Host.Outcome State Fault Refusal := (s.when s.alive State.rateTick).done

/-! ### RLS_CMD (06 R216) -/

def State.rlsResult (s : State) (h c : Nat) : State := s.modHall h (fun x => { x with rlsResult := c })

/-- A command of RLS_CMD on the selected port: refused with a code, or carried out. -/
def State.rlsCmd (s : State) (h : Nat) (r : Requester) (code : Nat → Nat) (act : Nat → State → State) : State :=
  let p := s.selPort h (pgRls h) 0x054 r
  if code p = 0 then (act p s).rlsResult h 0 else s.rlsResult h (code p)

def State.releaseCode (s : State) (p : Nat) : Nat :=
  let v := s.port p
  if s.modState = .departing then 2
  else if v.st ≠ .held ∨ v.rls.hold = false then 1
  else if v.rls.verified then 0 else 3

def State.rlsRelease (s : State) (h : Nat) (r : Requester) : State :=
  s.rlsCmd h r s.releaseCode (fun p u => u.modRls p (fun x => { x with given := true }))

def execRelease (h : HallId) (r : Requester) (s : State) : Host.Outcome State Fault Refusal :=
  (s.access17 (pgRls h) 0x064 r (fun t => t.rlsRelease h r)).done

/-- RLS_CMD RESET; in CONFIRMING it starts a revert on a port that has not confirmed (08 Table 8.6). -/
def State.rlsReset (s : State) (h : Nat) (r : Requester) : State :=
  s.rlsCmd h r (fun p => if (s.port p).st = .released ∨ (s.port p).st = .adopted then 0 else 1) (fun p u => (u.resetPort p 0).platformReset08 p)

def execReset (h : HallId) (r : Requester) (s : State) : Host.Outcome State Fault Refusal :=
  (s.access17 (pgRls h) 0x064 r (fun t => t.rlsReset h r)).done

def State.reverifyCode (s : State) (p : Nat) : Nat :=
  if s.modState = .departing then 2 else if (s.port p).st = .held then 0 else 1

def State.rlsReverify (s : State) (h : Nat) (r : Requester) : State :=
  s.rlsCmd h r s.reverifyCode (fun p u => u.modRls p (fun x => { x with verified := false }))

def execReverify (h : HallId) (r : Requester) (s : State) : Host.Outcome State Fault Refusal :=
  (s.access17 (pgRls h) 0x064 r (fun t => t.rlsReverify h r)).done

/-! ### Departure and shutter -/

/-- The turn of a port and its group has come (06 R206). -/
def State.departPort (s : State) (p : Nat) : State :=
  let us := s.depUnit p
  if s.alive && s.depTurn p then each us (fun q t => t.depStart q (16 < us.length)) s else s

def execDepartPortStart (p : PortId) (s : State) : Host.Outcome State Fault Refusal := (s.departPort p).done

def execPowerFailWarning (s : State) : Host.Outcome State Fault Refusal := s.powerFail.done

def State.shutterStep (s : State) (n : Nat) : State :=
  { s with shutter := s.shutter.map (fun x => { x with step := n }) }

/-- Step 4 of Table 6.3: every hall's last records and reports are with the Loft. -/
def State.shutterHandoff (s : State) : State :=
  match s.shutter with
  | some x =>
    if x.step = 0 then
      let s1 := s.toLoft (x.w0 + 8400000)
      let s2 := each [0, 1, 2, 3] (fun h t =>
        each (t.hall h).reports (fun r u => u.takeReport r) (t.modHall h (fun y => { y with outq := [] }))) s1
      s2.shutterStep 1
    else s
  | none => s

def execShutterHallHandoff (s : State) : Host.Outcome State Fault Refusal := s.shutterHandoff.done

/-- Step 5 of Table 6.3, 15 ms after W0, and the shutter sheaves of step 7. -/
def State.shutterOff (s : State) : State :=
  match s.shutterHandoff.shutter with
  | some x =>
    if x.step = 1 then ((s.shutterHandoff.toLoft (x.w0 + 9000000)).shutterDark).shutterStep 2 else s
  | none => s

def execShutterDomainsOff (s : State) : Host.Outcome State Fault Refusal := s.shutterOff.done

/-- Steps 8 and 9 of Table 6.3. -/
def State.shutterEnds (s : State) : State :=
  match s.shutter with
  | some x => if x.step = 2 then s.shutterRecords.loftClear (if x.thermal then 9 else 8) else s
  | none => s

def execShutterEnd (s : State) : Host.Outcome State Fault Refusal := s.shutterEnds.done

end Sys2Proof.Machine
end

