-- ==== Sys2Proof/Machine/Supply.lean ====
section
/-! DEFINITION. Mains, the commit reserve, power domains and sensors (15 R444 to R462, 17 R498). -/

namespace Sys2Proof.Machine

/-! ### Mains and charger (15 R447, R448) -/

/-- Mains leaves its limits: the charger stops. -/
def State.mainsLost (s : State) : State := (s.modPwr (fun w => { w with mainsOk := false })).chargerStop

def execMainsOutOfLimits (s : State) : Host.Outcome State Fault Refusal := s.mainsLost.done

def execBulkBelow380 (s : State) : Host.Outcome State Fault Refusal := s.chargerStop.done

/-- Mains is back: a dip when no shutter runs; a module that is COLD waits for M0 (R444). -/
def State.mainsBack (s : State) : State :=
  if s.modState = .cold ∨ s.pwr.mainsOk then s
  else
    let s1 := s.modPwr (fun w => { w with mainsOk := true })
    if s.modState = .shutter ∨ s.loft.resetting.isSome then s1
    else (s1.modPwr (fun w => { w with dips := satAdd 16 w.dips 1 })).raise pgPwr 0

def execMainsReturn (s : State) : Host.Outcome State Fault Refusal := s.mainsBack.done

/-- The charger restarts: bulk bus above 385 V (what the command reports), mains within limits, the Loft out of reset. -/
def State.chargerRestarts (s : State) : State :=
  if s.modState = .cold ∨ s.pwr.mainsOk = false ∨ s.pwr.testing.isSome ∨ s.pwr.charging ∨ s.loft.resetting.isSome then s else s.chargerStart

def execChargerRestart (s : State) : Host.Outcome State Fault Refusal := s.chargerRestarts.done

/-! ### The reserve (15 R449 to R452) -/

/-- The reserve comes to deliver 20 J while the charger runs; the first test is due 10 s later. -/
def State.reserveReadyNow (s : State) : State :=
  if s.modState ≠ .cold ∧ s.pwr.charging = true ∧ s.pwr.ready = false then
    s.modPwr (fun w => { w with
      ready := true, readyDl := none,
      nextTest := match w.nextTest with
        | some t => some t
        | none => some (s.lnow + 6000000000) })
  else s

def execReserveReady (s : State) : Host.Outcome State Fault Refusal := s.reserveReadyNow.done

/-- READY was not reached within 5 s of the charger starting. -/
def State.readyLate (s : State) : State :=
  match s.pwr.readyDl with
  | some d => ((s.toLoft (d + 1)).modPwr (fun w => { w with readyDl := none })).raise pgPwr 3
  | none => s

def execReserveReadyTimeout (s : State) : Host.Outcome State Fault Refusal := s.readyLate.done

/-- The test draws 5 W for 2 s with the charger disconnected. -/
def State.testBegin (s : State) : State :=
  s.chargerStop.modPwr (fun w => { w with testing := some (s.lnow + 1200000000) })

/-- A test may start: not in SHUTTER, not below READY. -/
def State.mayTest (s : State) : Bool := s.alive && s.modState != .shutter && s.pwr.ready

/-- The test that is due (15 R452); the next one 24 hours later. -/
def State.testDue (s : State) : State :=
  match s.pwr.nextTest with
  | some t =>
    if s.mayTest && s.pwr.testing.isNone then
      ((s.toLoft t).modPwr (fun w => { w with nextTest := some (t + 51840000000000) })).testBegin
    else s
  | none => s

def execReserveTestStart (s : State) : Host.Outcome State Fault Refusal := s.testDue.done

/-- The test's results and their consequences (15 R452). -/
def State.testEnd (s : State) (cap esr full : Nat) : State :=
  match s.pwr.testing with
  | some t =>
    let s1 := (s.toLoft t).modPwr (fun w => { w with
      testing := none, capMf := cap, esr := esr, full := full, testAt := some (max s.lnow t), ready := w.ready && 200 ≤ full })
    let s2 := s1.when s1.pwr.mainsOk (fun u => u.chargerStart)
    (s2.when (full < 860) (fun u => u.raise pgPwr 2)).when (full < 200) (fun u => u.raise pgPwr 3)
  | none => s

def execReserveTestEnd (capMf esr full : Nat) (s : State) : Host.Outcome State Fault Refusal := (s.testEnd capMf esr full).done

def State.pwrResult (s : State) (c : Nat) : State := s.modPwr (fun w => { w with result := c })

/-- PWR_RES_CMD TEST (17 R498). -/
def State.testCmd (s : State) : State :=
  if !s.mayTest then s.pwrResult 1
  else if s.pwr.testing.isSome then s.pwrResult 2
  else s.testBegin.pwrResult 0

def execPwrResTest (r : Requester) (s : State) : Host.Outcome State Fault Refusal :=
  (s.access17 pgPwr 0x058 r State.testCmd).done

/-! ### Power domains (15 R455, R456) -/

def selDom (s : State) (r : Requester) : Nat := s.getSel pgPwr 0x05C r

/-- PWR_DOM_CMD ON: only a tap PHY domain, outside SHUTTER; LOCKED_OFF clears. -/
def State.domCmdOn (s : State) (r : Requester) : State :=
  let d := selDom s r
  if d < 1024 ∧ s.modState ≠ .shutter ∧ s.phyMayOn d = true then
    ((s.domSet d true).modDom d (fun x => { x with locked := false, retryAt := none })).pwrResult 0
  else s.pwrResult 1

def execOn (r : Requester) (s : State) : Host.Outcome State Fault Refusal :=
  (s.access17 pgPwr 0x064 r (fun t => t.domCmdOn r)).done

/-- PWR_DOM_CMD OFF: the port goes to ABSENT. -/
def State.domCmdOff (s : State) (r : Requester) : State :=
  let d := selDom s r
  if d < 1024 ∧ s.modState ≠ .shutter then
    ((s.phyOff d 1 s.cyc).modDom d (fun x => { x with retryAt := none })).pwrResult 0
  else s.pwrResult 1

def execOff (r : Requester) (s : State) : Host.Outcome State Fault Refusal :=
  (s.access17 pgPwr 0x064 r (fun t => t.domCmdOff r)).done

/-- A port loses its PHY domain by a trip: link loss and port error LINK_DOWN. -/
def State.phyLost (s : State) (p : Nat) : State :=
  let st := (s.port p).st
  (s.phyOff p 1 s.cyc).when (st != .absent && st != .retired) (fun t => t.raisePort p 0)

/-- A tap PHY domain trips: it is retried after 1 s, a second trip within 60 s locks it off. -/
def State.phyTrip (s : State) (p : Nat) : State :=
  let again : Bool := match (s.dom p).tripAt with
    | some t => s.lnow ≤ t + 35999999999
    | none => false
  let s1 := s.phyLost p
  if again then (s1.modDom p (fun x => { x with tripped := true, locked := true, retryAt := none, tripAt := none })).raise pgPwr 5
  else s1.modDom p (fun x => { x with tripped := true, tripAt := some s.lnow, retryAt := some (s.lnow + 600000000) })

/-- The sessions of a host-side domain (17 Table 17.13). -/
def domSessions (d : Nat) : List Nat :=
  match d with
  | 1052 => [0, 1, 2, 3, 4, 5]
  | 1053 => [0]
  | 1054 => [1]
  | 1055 => [2, 3]
  | 1056 => [4]
  | _ => [5]

/-- The consequences of a trip by domain (15 R456); a Loft rail raises the power-fail warning (15 R445). -/
def State.tripDomain (s : State) (d : Nat) : State :=
  if d < 1024 then s.phyTrip d
  else
    let s1 := (s.domSet d false).modDom d (fun x => { x with tripped := true })
    if d < 1040 then each ((List.range 64).map (· + 64 * (d - 1024))) (fun p t => t.phyLost p) s1
    else if d < 1044 then s1.hallFault (d - 1040) s.cyc
    else if d < 1052 then s1.powerFail
    else if d < 1058 then
      each (domSessions d) (fun x t => (t.closeSes x none none).modSes x (fun v => { v with partner := false, gwq := [] })) s1
    else (s1.faultTr (d - 1058) 1).raise (pgEnc (d - 1058)) 0

def State.domainTrips (s : State) (d : Nat) : State :=
  if s.alive && s.domOn d then (s.tripDomain d).raise pgPwr 4 else s

def execDomainTrip (d : Fin 1074) (s : State) : Host.Outcome State Fault Refusal := (s.domainTrips d.val).done

/-- A tripped tap PHY domain is switched on again after 1 s. -/
def State.domRetry (s : State) (p : Nat) : State :=
  match (s.dom p).retryAt with
  | some t =>
    let s1 := (s.toLoft t).modDom p (fun x => { x with retryAt := none })
    if s.alive && s.modState != .shutter && s1.phyMayOn p && (s1.hall (hallOf p)).phase == .run then s1.domSet p true else s1
  | none => s

def execDomainRetryTimer (p : PortId) (s : State) : Host.Outcome State Fault Refusal := (s.domRetry p).done

/-! ### Sensors (15 R461, R462) -/

/-- The warning threshold of sensor k in 0.1 degree (15 Table 15.9). -/
def warnAt (k : Nat) : Int := if k = 0 then 500 else if k ≤ 5 then 1000 else if k = 6 then 550 else 950

/-- A threshold latch: set at the threshold, cleared 5 K below it. -/
def latchAt (old : Bool) (t thr : Int) : Bool := if thr ≤ t then true else if t ≤ thr - 50 then false else old

/-- One reading of one sensor, and whether it reaches its warning, its trip, or fails. -/
def Sensor.take (x : Sensor) (k now : Nat) (t : Option Int) : Sensor × Bool × Bool × Bool :=
  match t with
  | some v =>
    if -32768 ≤ v ∧ v ≤ 32767 then
      let w := latchAt x.warn v (warnAt k)
      let z := latchAt x.trip v (tripAt k)
      ({ temp := some v, lastOk := now, warn := w, trip := z, failed := false }, w && !x.warn, z && !x.trip, false)
    else ({ x with temp := none, failed := true }, false, false, !x.failed)
  | none =>
    if x.lastOk + 600000000 ≤ now then ({ x with temp := none, failed := true }, false, false, !x.failed)
    else (x, false, false, false)

def State.sensor (s : State) (k : Nat) : Sensor := tabGet {} s.env.sensors k

/-- One sensor of a sample; its events are raised when the module is not COLD. -/
def State.sampleSensor (s : State) (k : Nat) (t : Option Int) : State :=
  let x := (s.sensor k).take k s.lnow t
  let s1 := { s with env := { s.env with sensors := tabSet s.env.sensors k x.1 } }
  let up := s.alive
  ((s1.when (up && x.2.1) (fun u => u.raise pgEnv 0)).when (up && x.2.2.1) (fun u => u.raise pgEnv 1)).when
    (up && x.2.2.2) (fun u => u.raise pgEnv 2)

/-- The rise from inlet to the hottest hall controller; none while it cannot be taken. -/
def State.riseNow (s : State) : Option Int :=
  match (s.sensor 0).temp, ([1, 2, 3, 4].filterMap (fun k => (s.sensor k).temp)) with
  | some i, t :: ts => some (ts.foldl max t - i)
  | _, _ => none

/-- AIRFLOW: the rise exceeds 55 K for 60 s. -/
def State.airCheck (s : State) : State :=
  match s.riseNow with
  | some r =>
    let from_ := if 550 < r then some (s.env.riseFrom.getD s.lnow) else none
    let air : Bool := match from_ with
      | some t => t + 36000000000 ≤ s.lnow
      | none => false
    let s1 := { s with env := { s.env with rise := r, riseFrom := from_, airflow := air } }
    s1.when (air && !s.env.airflow && s.alive) (fun u => u.raise pgEnv 3)
  | none => s

/-- A sample of the eight sensors; a new trip starts a thermal shutter. -/
def State.sampleAll (s : State) (ts : List (Option Int)) : State :=
  let s1 := each (List.range 8) (fun k t => t.sampleSensor k (ts.getD k none)) s
  let trip := (List.range 8).any (fun k => (s1.sensor k).trip && !(s.sensor k).trip)
  s1.airCheck.when (trip && s.alive) (fun u => u.shutterBegin true)

def execSensorSample (m : SensorReading) (s : State) : Host.Outcome State Fault Refusal := (s.sampleAll m.temps).done

end Sys2Proof.Machine
end

