-- ==== Sys2Proof/Machine/Watch.lean ====
section
/-! DEFINITION. The watchdogs (12): the warden's, the Loft's with its clock monitor, and the platforms'. -/

namespace Sys2Proof.Machine

/-! ### The warden watchdog (12 R357 to R365) -/

/-- ceil(n × f) for WDG_OPEN_FRAC: 0 one half, 1 one quarter, 2 three quarters, 3 seven eighths (R360). -/
def openOf (frac n : Nat) : Nat :=
  match frac with
  | 0 => ceilDiv n 2
  | 1 => ceilDiv n 4
  | 2 => ceilDiv (3 * n) 4
  | _ => ceilDiv (7 * n) 8

def Wwd.cycles (w : Wwd) : Nat := w.curMs * 600000

/-- The first cycle of the service window of the running period. -/
def State.wwdOpens (s : State) : Nat :=
  s.wwd.start + (if s.wwd.first then 0 else openOf (s.otp.config0 % 4) s.wwd.cycles)

/-- A fault of the warden watchdog takes effect in the cycle after the write that caused it. -/
def State.wwdFaultNext (s : State) (c : Nat) : State := (s.toLoft (s.lnow + 1)).wwdFault c

def landNum : Landing → Nat
  | .a => 0
  | .b => 1

/-- A check-in of slot n (Table 12.2). -/
def State.wwdCheckIn (s : State) (n : Nat) : State :=
  let w := s.wwd
  if !w.curEn.getLsbD n then s.raise 0x15 4
  else if w.checked.getLsbD n then (s.modWwd (fun x => { x with dup := x.dup ||| BitVec.ofNat 16 (2 ^ n) })).raise 0x15 2
  else s.modWwd (fun x => { x with checked := x.checked ||| BitVec.ofNat 16 (2 ^ n) })

/-- A service in the window (Table 12.2): accepted, or refused as MISSING. -/
def State.wwdService (s : State) : State :=
  let w := s.wwd
  let missing := w.curEn &&& ~~~w.checked
  if missing = 0 then
    s.modWwd (fun x => { x with
      services := satAdd 16 x.services 1, checked := 0, start := s.lnow + 1, first := false, curMs := x.periodMs,
      curEn := x.slotEn })
  else (s.modWwd (fun x => { x with missing := missing, refused := satAdd 16 x.refused 1 })).raise 0x15 3

/-- A write to WWD_KICK from the active landing while its watchdog runs; past the deadline it has expired. -/
def State.wwdWrite (s : State) (v : Nat) : State :=
  if s.wwd.start + s.wwd.cycles ≤ s.lnow then s.wwdFault 1
  else if 0x5A00 ≤ v ∧ v < 0x5A10 then s.wwdCheckIn (v - 0x5A00)
  else if v = 0xC3A5 then
    (if s.lnow < s.wwdOpens then (s.raise 0x15 0).wwdFaultNext 2 else s.wwdService)
  else (s.raise 0x15 1).wwdFaultNext 3

/-- WWD_KICK: a landing's write is decided only from the active landing that runs; a host write is ignored (R375). -/
def State.wwdKick (s : State) (src : Option Landing) (v : Nat) : State :=
  match src with
  | some l =>
    if s.alive && s.wwd.running && landNum l == s.loft.active && s.loft.landing s.loft.active == 1 then s.wwdWrite v else s
  | none => s

def execWwdKick (src : Option Landing) (v : Word) (s : State) : Host.Outcome State Fault Refusal := (s.wwdKick src v.toNat).done

/-- The period ends without a service (R357). -/
def State.wwdExpires (s : State) : State :=
  if s.alive && s.wwd.running then (s.toLoft (s.wwd.start + s.wwd.cycles)).wwdFault 1 else s

def execWwdExpiry (s : State) : Host.Outcome State Fault Refusal := s.wwdExpires.done

/-! ### The Loft watchdog (12 R366 to R369) -/

/-- The cycle of its clock in which the running period of the Loft watchdog expires. -/
def Lwd.ends (w : Lwd) : Nat := w.start + w.curS * lwdHz w.curRc

/-- The deadline of the running period is past. -/
def State.lwdOver (s : State) : Bool := s.lwd.ends ≤ s.lwdNow s.lwd.curRc

/-- The clock at the expiry of the running period, or now when that is past. -/
def State.toLwd (s : State) : State := { s with time := max s.time (lwdTicks s.lwd.curRc * s.lwd.ends) }

def State.lwdWrite (s : State) (v : Nat) : State :=
  if s.lwdOver then s.loftWdReset 5
  else if v = 0x3C96 then s.lwdBegin 1
  else s.raise 0x16 0

/-- LWD_KICK from a landing that runs; a host write is ignored (R376). -/
def State.lwdKick (s : State) (src : Option Landing) (v : Nat) : State :=
  match src with
  | some l =>
    let c := s.loft.landing (landNum l)
    if s.alive && s.lwd.running && (c == 1 || c == 2) then s.lwdWrite v else s
  | none => s

def execLwdKick (src : Option Landing) (v : Word) (s : State) : Host.Outcome State Fault Refusal := (s.lwdKick src v.toNat).done

/-- The period ends without a service; the boot ROM serves throughout LOFT_BOOT and while halted (R367). -/
def State.lwdExpires (s : State) : State :=
  if s.alive && s.lwd.running && s.modState != .loftBoot && !s.loft.halted then s.toLwd.loftWdReset 5 else s

def execLwdExpiry (s : State) : Host.Outcome State Fault Refusal := s.lwdExpires.done

/-- The selected clock shows no edge for 1 us (R368). -/
def execClockMonitorTrip (s : State) : Host.Outcome State Fault Refusal :=
  (s.when s.alive (fun t => (t.toLoft (t.lnow + 1)).loftWdReset 6)).done

/-- Steps 3 and 4 of Table 12.4: the journal buffer and the SHUTTER records are in the barn, the Loft reset is asserted. -/
def State.wdFlushed (s : State) : State :=
  match s.loft.resetting with
  | some c => s.shutterRecords.loftClear c
  | none => s

def execLoftWdResetFlushed (s : State) : Host.Outcome State Fault Refusal := s.wdFlushed.done

/-! ### Platform watchdogs (12 R372 to R377) -/

def Pwd.cycles (w : Pwd) : Nat := w.cur * 800000

/-- The first cycle of the service window; OPEN_FRAC 1 one quarter, 2 one half, 3 three quarters. -/
def Pwd.opens (w : Pwd) : Nat :=
  w.start + (match w.curFrac with
    | 0 => 0
    | 1 => ceilDiv w.cycles 4
    | 2 => ceilDiv w.cycles 2
    | _ => ceilDiv (3 * w.cycles) 4)

/-- A fault of a platform watchdog (R374): kinds 1 EXPIRY, 2 EARLY, 3 BAD_KEY. -/
def State.pwdFault (s : State) (p kind : Nat) : State :=
  let h := hallOf p
  let st := (s.port p).st
  let rep : HReport := ⟨p, st, st, true, 0, false, none, s.cyc, true⟩
  let s1 := s.modPwd p (fun w => { w with running := false, bound := true })
  let s2 := (s1.modHall h (fun x => { x with pwdLastPort := p % 256, pwdLastKind := kind, outq := x.outq ++ [.change rep] })).raisePort p 4
  (s2.resetPort p 1).platformReset08 p

def State.pwdExpires (s : State) (p : Nat) : State :=
  let w := (s.port p).pwd
  if s.alive && w.running then (s.toHall (w.start + w.cycles)).pwdFault p 1 else s

def execPwdExpiry (p : PortId) (s : State) : Host.Outcome State Fault Refusal := (s.pwdExpires p).done

def State.pwdIgnored (s : State) (p : Nat) : State := s.modPwd p (fun w => { w with ignored := satAdd 16 w.ignored 1 })

/-- An SB_MSG 0x70 (R373). -/
def State.pwdServe (s : State) (p : Nat) (data : Bytes) : State :=
  let w := (s.port p).pwd
  if !w.running then s.pwdIgnored p
  else if w.start + w.cycles ≤ s.hnow then (s.pwdFault p 1).pwdIgnored p
  else if num data 2 2 ≠ 0x5AC3 then s.pwdFault p 3
  else if s.hnow < w.opens then (s.toHall (s.hnow + 1)).pwdFault p 2
  else s.modPwd p (fun x => { x with
    services := satAdd 16 x.services 1, start := s.hnow + 1, inFirst := false, cur := x.period, curFrac := x.frac,
    running := x.period != 0 })

/-- PWD_CMD CLEAR_COUNT on the selected port. -/
def State.pwdClear (s : State) (h : Nat) (r : Requester) : State :=
  s.modPwd (s.selPort h (pgHall h) 0x100 r) (fun w => { w with resets := 0 })

def execClearCount (h : HallId) (r : Requester) (s : State) : Host.Outcome State Fault Refusal :=
  (s.access17 (pgHall h) 0x118 r (fun t => t.pwdClear h r)).done

end Sys2Proof.Machine
end

