-- ==== Sys2Proof/Machine/FaultCmd.lean ====
section
/-! DEFINITION. Fault collection, resets by command, injection and the alarm page (13 R386 to R410, 17 R494). -/

namespace Sys2Proof.Machine

/-- The cores of a landing pair differ (17 R494). -/
def State.lockstep (s : State) (n : Nat) : State :=
  if !s.alive then s
  else if n = s.loft.active ∧ s.loft.landing n = 1 then (s.modLoft (fun l => l.land n 4)).raise 0x10 2
  else if n ≠ s.loft.active ∧ s.loft.landing n = 2 ∧ s.act.opened ∧ s.act.kind = 1 then (s.raise 0x10 2).wdnAbandon 8
  else s

def execLockstepMismatch (l : Landing) (s : State) : Host.Outcome State Fault Refusal := (s.lockstep (landNum l)).done

/-- The next pass cycle (13 R386): a Loft cycle that is a multiple of 4 since the Loft reset. -/
def State.passNext (s : State) : State :=
  let k := max (ceilDiv (s.time - s.loftAt) 16) (s.root.lastPass + 1)
  ({ s with time := max s.time (s.loftAt + 16 * k) }.modRoot (fun r => { r with lastPass := k })).passHistory

def execHistoryPass (s : State) : Host.Outcome State Fault Refusal := (s.when s.alive State.passNext).done

/-- The clock of a domain at its cycle c. -/
def State.toDomain (s : State) (d : Domain) (c : Nat) : State :=
  match d with
  | .engine _ => s.toLoft c
  | .session _ => s.toLoft c
  | _ => s.toHall c

/-- The shadow of a domain ends after its window (13 R387, R395); one whose reset still runs has no end yet. -/
def State.shadowOver (s : State) (d : Domain) : State :=
  match (s.root.shadows.find? (fun x => x.dom == d)).bind (·.dl) with
  | some e => (s.toDomain d (e + 1)).endShadow d
  | none => s

def execShadowEnd (d : Domain) (s : State) : Host.Outcome State Fault Refusal := (s.shadowOver d).done

/-! ### The alarm (13 R392, R410) -/

/-- The pulse has run its 50 ms; the contact stays closed while HOLD is 1. -/
def State.pulseOver (s : State) : State :=
  match s.root.pulseEnd with
  | some t => (s.toLoft t).modRoot (fun r => { r with pulseEnd := none, closed := r.hold })
  | none => s

def execAlarmPulseEnd (s : State) : Host.Outcome State Fault Refusal := s.pulseOver.done

def execAlarmContactFault (s : State) : Host.Outcome State Fault Refusal := (s.when s.alive (fun t => t.raise 0xE7 0)).done

/-- ALM_CTRL TEST: one pulse with no history entry. -/
def execTest (r : Requester) (s : State) : Host.Outcome State Fault Refusal :=
  (s.access17b 0xE7 0x040 2 r State.alarmPulse).done

/-! ### HCOL_CMD (13 R409) -/

/-- HCOL_CMD with its key. -/
def State.keyedHcol (s : State) (h : Nat) (r : Requester) (key : Nat) (act : State → State) : State :=
  if key = 0x6B1D then act s else s.accErr (pgHcol h) 0x05C 4 r

/-- LINK_RESET of the selected port. -/
def State.hcolLink (s : State) (h : Nat) (r : Requester) : State := s.linkReset (s.selPort h (pgHcol h) 0x054 r) 0 1 s.cyc

def State.hcolHall (s : State) (h : Nat) : State := s.hallResetStart h 0 s.cyc

def execLinkReset (h : HallId) (r : Requester) (key : BitVec 16) (s : State) : Host.Outcome State Fault Refusal :=
  (s.access17 (pgHcol h) 0x05C r (fun t => t.keyedHcol h r key.toNat (fun u => u.hcolLink h r))).done

def execHallReset (h : HallId) (r : Requester) (key : BitVec 16) (s : State) : Host.Outcome State Fault Refusal :=
  (s.access17 (pgHcol h) 0x05C r (fun t => t.keyedHcol h r key.toNat (fun u => u.hcolHall h))).done

/-- The window for the CTRL_ACKs of step 2 expires (13 Table 13.11). -/
def State.ackExpiry (s : State) (h : Nat) : State :=
  match (s.hall h).ackWin with
  | some w => if s.alive && (s.hall h).phase == .awaitAcks then (s.toHall (w.dl + 1)).hallResetDown h else s
  | none => s

def execHallResetAckTimeout (h : HallId) (s : State) : Host.Outcome State Fault Refusal := (s.ackExpiry h).done

/-- Step 5: the hall's reset is released. -/
def execHallResetRelease (h : HallId) (s : State) : Host.Outcome State Fault Refusal :=
  (s.when (s.alive && s.modState != .shutter && (s.hall h).phase == .inReset) (fun t => t.hallReleased h)).done

/-- The module has stayed in SERVING for 600 s (13 R397). -/
def State.modresetClear (s : State) : State :=
  match s.loft.serveAt with
  | some t => if s.modState = .serving then (s.toLoft (t + 360000000000)).modRoot (fun r => { r with consec := 0 }) else s
  | none => s

def execModresetCountClear (s : State) : Host.Outcome State Fault Refusal := s.modresetClear.done

/-! ### ERR_INJ and REACT_SEL (13 R381, R393, R407) -/

/-- Who may write ERR_INJ: the warden, and a Service session with test access. -/
def State.mayInject (s : State) : Requester → Bool
  | .warden => true
  | .session x => (s.ses x).eff == 3 && (s.ses x).test

/-- A write to ERR_INJ. -/
def State.errInj (s : State) (r : Requester) (page v : Nat) : State :=
  let chk := bits v 4 0
  let mode := bits v 9 8
  let bad := fun (reason : Nat) => s.accErr page 0x018 reason r
  if !s.live r || !pageExists page then s
  else if s.barred page r then bad 6
  else if !s.mayInject r then bad 3
  else if (s.hdr page).errLock then bad 2
  else if !checkerExists page chk then bad 5
  else if mode = 3 then s
  else s.modHdr page (fun h => { h with
    injChk := chk, injMode := mode, injDry := bit v 12, injPort := bits v 25 16, injArmed := mode != 0 })

def execErrInjWrite (r : Requester) (page : BitVec 9) (v : Word) (s : State) : Host.Outcome State Fault Refusal :=
  (s.errInj r page.toNat v.toNat).done

/-- A write to REACT_SEL: it selects a source for its requester, and with SET stores that source's code. -/
def State.reactSel (s : State) (r : Requester) (page v : Nat) : State :=
  let b := bits v 4 0
  let code := bits v 10 8
  let set := bit v 15
  if !s.live r || !pageExists page then s
  else if s.barred page r then s.accErr page 0x028 6 r
  else if set && s.writeMask page 0x028 r &&& 0x8000 == 0 then s
  else if set && (s.hdr page).errLock then s.accErr page 0x028 2 r
  else if code ≥ 6 ∨ (set = true ∧ isSource page b = false) then s.accErr page 0x028 5 r
  else
    let s1 := s.setSel page 0x028 r b
    if set then s1.modHdr page (fun h => { h with codes := tabSet h.codes b code }) else s1

def execReactSelWrite (r : Requester) (page : BitVec 9) (v : Word) (s : State) : Host.Outcome State Fault Refusal :=
  (s.reactSel r page.toNat v.toNat).done

/-! ### The stair link and the retained store -/

/-- A transfer on a hall's stair link fails its CRC and is repeated; the 16th repeat that fails is STAIR_FAIL (13 R409). -/
def State.stairError (s : State) (h : Nat) (inj : Bool := false) (dry : Bool := false) : State :=
  let n := (s.hall h).stairRun + 1
  let s1 := (s.modHall h (fun x => { x with
    stairRetry := satAdd 16 x.stairRetry 1, stairRun := if n = 17 then 0 else n })).raiseE
      { page := pgHcol h, bit := 0, inj := inj, dry := dry, time := s.cyc }
  s1.when (n == 17) (fun t => t.raise (pgHcol h) 1)

def execStairCrcError (h : HallId) (s : State) : Host.Outcome State Fault Refusal :=
  (s.when (s.alive && (s.hall h).phase != .off) (fun t => t.stairError h)).done

/-- A transfer from a hall to the Loft arrives: an armed injection on its CRC makes it repeat once (13 R407); then it is
good. -/
def State.stairGood (s : State) (h : Nat) : State :=
  let m := s.injection (pgHcol h) 0 none
  let dry := (s.hdr (pgHcol h)).injDry
  let s1 := if m = 0 then s else (s.disarm (pgHcol h)).stairError h true dry
  s1.modHall h (fun x => { x with stairRun := 0 })

/-- Every retained record is written again with its own value (15 R463). -/
def execRetainedStoreRefresh (s : State) : Host.Outcome State Fault Refusal := s.done

end Sys2Proof.Machine
end

