-- ==== Sys2Proof/Machine/Reads.lean ====
section
/-! DEFINITION. The commands of platform traffic: reads and their streams (03 R110 to R121, 02 R75), platform commands (03 R94,
R95, 04 R127), physical operations (02 R77), attention (02 R71), control (02 R56, R69), and the policy index of the mirror page
(03 R104, R105, R115, R125). -/

namespace Sys2Proof.Machine

/-! ### Reads -/

/-- A frame of a chip select: a stream of another one has ended (02 R75). -/
def State.csFrame (s : State) (p : Nat) (cs : BitVec 16) : State :=
  let s1 := match (s.port p).mir.stream with
    | some st => if st.cs = cs then s else s.endStream p
    | none => s
  s1.modLink p (fun l => { l with cs := cs })

/-- The first frame of a chip select (03 R114, R115). -/
def State.firstFrame (s : State) (p : Nat) (cs : BitVec 16) : State :=
  (s.csFrame p cs).modMir p (fun m =>
    let m1 := { m with csAt := some s.hnow }
    if m.csWait then { m1 with csWait := false, csValid := true, csNew := cs } else m1)

/-- An UNKNOWN command (03 Table 3.2). -/
def State.unknownCmd (s : State) (p op mode : Nat) : State :=
  let h := hallOf p
  let s1 := s.modHall h (fun x => { x with unkCnt := satAdd 32 x.unkCnt 1, unkOp := op, unkMode := mode, unkPort := p % 256 })
  s1.when (s.hall h).logUnk (fun t => t.raiseP (pgMir h) 3 p)

/-- The policy bank of a stream that begins is read: an uncorrectable unit, or an injected one (13 R407 checker 2), is INDEX_UNC
and the whole stream is 0xFF (03 Table 3.10). The bank's place in DRAM is not stated (Config.bankUnit is free). -/
def State.bankCheck (s : State) (p start : Nat) : State :=
  let pg := pgMir (hallOf p)
  let h := s.hall (hallOf p)
  let u := Config.bankUnit (p % 256) (s.port p).mir.active
  let lose := fun (t : State) (inj : Bool) =>
    (t.modMir p (fun m => { m with stream := m.stream.map (fun st => { st with failed := true }) })).uncEvent p 2 start u inj
  match s.injection pg 2 (some p) with
  | 0 => if h.dramBad.contains u then lose s false else s.when (h.dramWeak.contains u) (fun t => t.corrected (hallOf p))
  | 1 => (s.disarm pg).corrected (hallOf p) true (s.hdr pg).injDry
  | _ => lose (s.disarm pg) true

/-- RD_REQ (03 R111): a stream bound to the active bank, or RD_END only. A mode not listed for the opcode makes the command
UNKNOWN on every port (R94), and a stream 0xFF throughout. -/
def State.readReq (s : State) (p : Nat) (cs : BitVec 16) (addr op mode : Nat) : State :=
  let bad := !listedMode op mode
  let s1 := ((s.firstFrame p cs).endStream p).when bad (fun t => t.unknownCmd p op mode)
  if (s1.port p).served && (s1.hall (hallOf p)).serveEn then
    let s2 := s1.modMir p (fun m => { m with stream := some { cs := cs, next := addr, start := addr, bank := m.active,
                                                               allFF := bad } })
    (s2.bankCheck p addr).pump p
  else s1.enqueue p { vc := some .vc0, type := 3, tag := cs, payload := [0] }

def execRdReq (p : PortId) (cs : BitVec 16) (addr : Word) (opcode mode : Byte) (s : State) : Host.Outcome State Fault Refusal :=
  (s.rxSeq p .vc0 1 (fun t => t.readReq p cs addr.toNat opcode.toNat mode.toNat)).done

/-- RD_STOP ends the stream of its chip select (02 R75). -/
def execRdStop (p : PortId) (cs : BitVec 16) (bytes : Nat) (s : State) : Host.Outcome State Fault Refusal :=
  let _ := bytes
  (s.rxSeq p .vc0 1 (fun t => (t.csFrame p cs).endStream p)).done

/-! ### Platform commands -/

/-- R94 or an unlisted opcode makes a command UNKNOWN. -/
def cmdUnknown (c : WrCmd) : Bool := c.cls == 0 || !listedMode c.opcode.toNat c.mode.toNat

def cmdWrites (c : WrCmd) : Bool := c.cls == 6 || c.cls == 7 || c.cls == 8

/-- The last frame of a command that set WIP; its arrival stays that of its WR_CMD (04 R136): decided by Table 4.1, or answered with a STATUS (03 Table 3.2). -/
def State.endWrite (s : State) (p : Nat) (w : WrPend) : State :=
  let s1 := s.modMir p (fun m => { m with wr := none, wel := false })
  if cmdUnknown w.cmd || w.cmd.cls == 8 then s1.statusClear p
  else s1.admission p w

/-- WR_CMD by its class (03 Table 3.2): MODE_CHANGE, RESET, NOTICE, POWER and SUSPEND_RESUME are logged in the port's command
statistics (log 62). -/
def State.takeWrCmd (s : State) (p : Nat) (c : WrCmd) : State :=
  let s1 := (s.firstFrame p c.cs).modMir p (fun m => { m with wr := none })
  let s2 := s1.when (cmdUnknown c) (fun t => t.unknownCmd p c.opcode.toNat c.mode.toNat)
  if cmdWrites c then
    let w : WrPend := { cmd := c, bank := (s2.port p).mir.active, arrival := s.hnow }
    if c.count = 0 then s2.endWrite p w else s2.modMir p (fun m => { m with wr := some w })
  else if cmdUnknown c then s2
  else if c.cls = 4 then s2.modMir p (fun m => { m with wel := true })
  else if c.cls = 5 then s2.modMir p (fun m => { m with wel := false })
  else s2.modMir p (fun m => { m with cmds := tabSet m.cmds c.cls.toNat (satAdd 32 (tabGet 0 m.cmds c.cls.toNat) 1) })

def execWrCmd (p : PortId) (c : WrCmd) (s : State) : Host.Outcome State Fault Refusal :=
  (s.rxSeq p .vc1 1 (fun t => t.takeWrCmd p c)).done

def State.takeWrData (s : State) (p : Nat) (cs : BitVec 16) (data : Bytes) : State :=
  let s1 := s.csFrame p cs
  match (s1.port p).mir.wr with
  | some w =>
    if w.cmd.cs = cs then
      let w1 := { w with data := w.data ++ data }
      if w.cmd.count ≤ w1.data.length then s1.endWrite p w1 else s1.modMir p (fun m => { m with wr := some w1 })
    else s1
  | none => s1

def execWrData (p : PortId) (cs : BitVec 16) (data : Bytes) (s : State) : Host.Outcome State Fault Refusal :=
  (s.rxSeq p .vc1 1 (fun t => t.takeWrData p cs data)).done

/-- The command in the admission slot is decided or admitted (04 R135). -/
def execAdmissionResume (p : PortId) (s : State) : Host.Outcome State Fault Refusal :=
  (s.when s.alive (fun t => t.resume p)).done

/-! ### Physical operations (02 R77, 04 R142) -/

/-- The job whose FL_OP of an identifier has been sent and is not done. -/
def Port.jobOf (v : Port) (op : BitVec 16) : Option VcJob := v.ring.jobs.find? (fun j => j.op == op && !j.paused && !j.hashing)

/-- FL_DATA_IN: the bytes are gathered in address order. -/
def execFlDataIn (p : PortId) (op : BitVec 16) (data : Bytes) (s : State) : Host.Outcome State Fault Refusal :=
  (s.rxSeq p .vc2 0 (fun t => t.modRing p (fun r => { r with
    jobs := r.jobs.map (fun j => if j.op == op && !j.paused && !j.hashing then { j with got := j.got ++ data } else j) }))).done

/-- FL_DONE (02 Table 2.4): the operation is done when it reports OK with all its bytes. -/
def State.flDone (s : State) (p : Nat) (op : BitVec 16) (result : Nat) : State :=
  match (s.port p).jobOf op with
  | none => s
  | some j =>
    if result = 0 ∧ j.got.length = j.req.inCnt then
      (if j.todo.isEmpty then s.jobRead p j else s.nextOp p j (j.all ++ j.got))
    else if repeats j && !j.retry then s.again p j
    else s.jobDone p j false

def execFlDone (p : PortId) (op : BitVec 16) (result status : Byte) (busyUs : Nat) (s : State) : Host.Outcome State Fault Refusal :=
  let _ := (status, busyUs)
  (s.rxSeq p .vc2 0 (fun t => t.flDone p op result.toNat)).done

/-! ### Attention (02 R71, 03 R112, R119) -/

/-- ATTN_DONE: refused overlays leave the view, a waiting reaction or release proceeds, and ATTN_CLR is timed from the most
recent ATTN. -/
def State.attnDone (s : State) (p : Nat) (id : BitVec 16) : State :=
  match (s.port p).link.attns.find? (fun a => a.id == id) with
  | none => s
  | some a =>
    let low := (s.port p).link.attnLow
    let s1 := s.modLink p (fun l => { l with
      attns := l.attns.filter (fun x => x.id != id), attnLow := true,
      attnClr := if id + 1 = l.nextAttn then some (s.hnow + idleCycles) else l.attnClr })
    let s2 := (s1.dropOverlay p a.seqs).when (!low) (fun t => t.statusShadow4 p)
    let s3 := match a.react with
      | some q => s2.uncReaction p q a.time
      | none => s2
    if a.cause = 0x21 ∧ (s3.port p).tie = none then s3.applyBounds p 0 else s3

def execAttnDone (p : PortId) (id : BitVec 16) (s : State) : Host.Outcome State Fault Refusal :=
  (s.rxSeq p .vc3 1 (fun t => t.attnDone p id)).done

/-- ATTN_CLR after 10 ms (02 R71). -/
def State.attnClear (s : State) (p : Nat) : State :=
  match (s.port p).link.attnClr with
  | some e =>
    if s.linkUp p then
      let s1 := (s.toHall e).modLink p (fun l => { l with attnClr := none, attnLow := false })
      (s1.enqueue p { vc := some .vc3, type := 0x0A }).statusShadow4 p
    else s
  | none => s

def execAttnClrTimer (p : PortId) (s : State) : Host.Outcome State Fault Refusal := (s.attnClear p).done

def execAttentionWindowExpiry (p : PortId) (s : State) : Host.Outcome State Fault Refusal :=
  (s.when s.alive (fun t => t.attnExpiry p)).done

/-! ### Tap events and control (02 R56, R69, R86) -/

def State.tapEvent (s : State) (p : Nat) : TapEventCode → State
  | .underrun => (s.modLink p (fun l => { l with underrun := satAdd 16 l.underrun 1 })).raisePort p 2
  | .decodeErr => (s.modLink p (fun l => { l with decodeErr := satAdd 16 l.decodeErr 1 })).raisePort p 7
  | .sbDrop => (s.modLink p (fun l => { l with sbDrop := satAdd 16 l.sbDrop 1 })).raisePort p 7

def execTapEvent (p : PortId) (e : TapEventCode) (cs : BitVec 16) (s : State) : Host.Outcome State Fault Refusal :=
  let _ := cs
  (s.rxSeq p .vc3 1 (fun t => t.tapEvent p e)).done

/-- The boot window and the platform watchdog start at the CTRL_ACK of a release or switch (06 R193, 12 R372). -/
def State.inService (s : State) (p : Nat) : State :=
  let h := s.hall (hallOf p)
  let s1 := s.modRls p (fun r => { r with bootWin := some (mkWin s.hnow (h.bootWinMs * 800000)), booted := false, rates := [], bytes := 0 })
  s1.modPwd p (fun w => if w.period = 0 then w else { w with running := true, inFirst := true, start := s.hnow, cur := w.first, curFrac := 0 })

/-- What the CTRL_ACK of a VC4 frame of kind k completes. -/
def State.ctlDone (s : State) (p : Nat) (id : BitVec 16) (lines : BitVec 6) : CtlKind → State
  | .pairing => s.modLink p (fun l => { l with ctlDone := l.ctlDone || l.pairCtl == some id })
  | .release => if (s.port p).st = .released then s.inService p else s
  | .takeover =>
    if (s.port p).served then ((s.modRls p (fun r => { r with swAcked := true })).inService p).statusShadow4 p else s
  | .depart => if (s.port p).rls.depPhase = .sent then s.departAcked p (lines.getLsbD 0) else s
  | _ => s

/-- CTRL_ACK answers its frame and every earlier one (02 R56). -/
def State.ctrlAck (s : State) (p : Nat) (id : BitVec 16) (lines : BitVec 6) : State :=
  let l := (s.port p).link
  if l.ctls.any (fun c => c.1 == id) then
    let n := (l.ctls.takeWhile (fun c => c.1 != id)).length + 1
    let acked := l.ctls.take n
    let lk := l.locks.filter (fun x => acked.any (fun c => c.1 == x.1))
    let s1 := s.modLink p (fun x => { x with
      ctls := l.ctls.drop n, lines := lines, locks := l.locks.filter (fun y => !acked.any (fun c => c.1 == y.1)),
      holdLock := lk.foldl (fun _ y => y.2) x.holdLock })
    each acked (fun c t => t.ctlDone p c.1 lines c.2) s1
  else s

def execCtrlAck (p : PortId) (id : BitVec 16) (lines : BitVec 6) (s : State) : Host.Outcome State Fault Refusal :=
  (s.rxSeq p .vc4 0 (fun t => t.ctrlAck p id lines)).done

def execLines (p : PortId) (lines : BitVec 6) (s : State) : Host.Outcome State Fault Refusal :=
  (s.rxSeq p .vc4 1 (fun t => t.modLink p (fun l => { l with lines := lines }))).done

/-! ### Refill (03 R120) -/

/-- A marked leaf without a COMMITTING entry is read from flash once the port has left service and its read-backs are done (04
R152). -/
def State.refillStart (s : State) (p : Nat) : State :=
  let v := s.port p
  let ok := fun (i : Nat) => !v.ring.entries.any (fun e => e.state == .committing && e.overlaps (i * 4096) 4096)
  if s.flAllowed p && (v.st == .held || v.st == .quarantined) && !v.ring.readbackPending && !v.ring.jobs.any (fun j => match j.kind with
      | .refill _ => true
      | _ => false) then
    match v.mir.refill.find? ok with
    | some i => s.startJob p (.refill i) (readReqs v (i * 4096) 4096)
    | none => s
  else s

def execRefillStart (p : PortId) (s : State) : Host.Outcome State Fault Refusal :=
  (s.when s.alive (fun t => t.refillStart p)).done

/-! ### The policy index (03 R104, R105, R115, R125) -/

def State.idxResult (s : State) (h code entry : Nat) : State := s.modHall h (fun x => { x with idxResult := code, idxEntry := entry })

/-- The inactive bank still serves a stream. -/
def MirPort.oldBusy (m : MirPort) : Bool := match m.stream with
  | some st => st.bank != m.active
  | none => false

/-- Bank b of a port may not be written: it is active, armed, or serves a stream (03 R105). -/
def MirPort.bankBusy (m : MirPort) (b : Bool) : Bool := b == m.active || m.armed || m.oldBusy

/-- MIR_IDX_DATA_LO or HI. A write that takes effect sets MIR_IDX_RESULT to OK (DESIGN CHOICE, log 98). -/
def State.idxWrite (s : State) (h : Nat) (r : Requester) (hi : Bool) (v : Nat) : State :=
  let p := s.selPort h (pgMir h) 0x048 r
  let sel := s.getSel (pgMir h) 0x058 r
  let e := sel % 64
  let b := bit sel 8
  let m := (s.port p).mir
  if e > 32 then s.idxResult h 3 e
  else if m.bankBusy b then s.idxResult h 5 e
  else
    let old := tabGet 0 (m.bank b).words e
    let w := (if hi then old % 2 ^ 32 + v * 2 ^ 32 else old / 2 ^ 32 * 2 ^ 32 + v) &&& bankMask e
    let bk : Bank := { words := tabSet (m.bank b).words e w, valid := false }
    (s.modMir p (fun x => x.setBank b bk)).idxResult h 0 0

def execMirIdxDataWrite (h : HallId) (r : Requester) (hi : Bool) (v : Word) (s : State) : Host.Outcome State Fault Refusal :=
  (s.access17 (pgMir h) (if hi then 0x060 else 0x05C) r (fun t => t.idxWrite h r hi v.toNat)).done

/-- VALIDATE (03 R104). -/
def State.idxValidate (s : State) (h : Nat) (r : Requester) (b : Bool) : State :=
  let p := s.selPort h (pgMir h) 0x048 r
  let m := (s.port p).mir
  let c := validateBank (m.bank b) m.enrLen
  let s1 := (s.modMir p (fun x => x.setBank b { x.bank b with valid := c.1 == 0 })).idxResult h c.1 c.2
  s1.when (c.1 != 0) (fun t => t.raiseP (pgMir h) 5 p)

def execValidate (h : HallId) (r : Requester) (bank : Bool) (s : State) : Host.Outcome State Fault Refusal :=
  (s.access17 (pgMir h) 0x064 r (fun t => t.idxValidate h r bank)).done

/-- ARM (03 R115): the switch is bound to a gap, or applied at once. -/
def State.idxArm (s : State) (h : Nat) (r : Requester) : State :=
  let p := s.selPort h (pgMir h) 0x048 r
  let v := s.port p
  if v.mir.armed then s.idxResult h 5 0
  else if !(v.mir.bank (!v.mir.active)).valid then s.idxResult h 6 0
  else
    let s1 := (s.modMir p (fun m => { m with armed := true })).idxResult h 0 0
    if v.tie.isSome && (v.st == .released || v.st == .adopted) then s1.request p .policy else s1.policySwitch p

def execArm (h : HallId) (r : Requester) (s : State) : Host.Outcome State Fault Refusal :=
  (s.access17 (pgMir h) 0x064 r (fun t => t.idxArm h r)).done

def State.idxDisarm (s : State) (h : Nat) (r : Requester) : State :=
  let p := s.selPort h (pgMir h) 0x048 r
  (s.modPort p (fun v => { v with mir := { v.mir with armed := false }, bounds := v.bounds.filter (fun b => b.kind != .policy) })).idxResult h 0 0

def execDisarm (h : HallId) (r : Requester) (s : State) : Host.Outcome State Fault Refusal :=
  (s.access17 (pgMir h) 0x064 r (fun t => t.idxDisarm h r)).done

/-- The port states in which the port's mirror configuration may be written (03 R125). -/
def cfgState (st : PortState) : Bool := match st with
  | .absent | .held | .verifying | .quarantined | .retired => true
  | _ => false

/-- The values of MIR_PORT_TIMING are legal (03 R125, 02 R80; a reserved CABLE_BAND is refused too, log 16). -/
def timingOk (v : Nat) : Bool := match modeLimit (bits v 21 18) with
  | some m => 1 ≤ bits v 15 8 && bits v 15 8 ≤ m && bits v 17 16 ≤ 2
  | none => false

/-- MIR_PORT_TIMING; DUMMY_N reads 0 until SCK_MHZ is set (03 Table 3.13). -/
def MirPort.timing (m : MirPort) : Nat :=
  (if m.sck = 0 then 0 else dummyN m.sck m.band % 256) + m.sck * 2 ^ 8 + m.band * 2 ^ 16 + m.ponMode * 2 ^ 18 + b2n m.pon4b * 2 ^ 22

/-- MIR_PORT_CFG and MIR_PORT_TIMING. An ENR_LEN_64K above 1,024 leaves the field and MIR_IDX_RESULT (DESIGN CHOICE, log 98: Table
3.13 gives the range and no result). -/
def State.portCfgWrite (s : State) (h : Nat) (r : Requester) (timing : Bool) (v : Nat) : State :=
  let p := s.selPort h (pgMir h) 0x048 r
  if !cfgState (s.port p).st then s.idxResult h 7 0
  else if timing then
    if timingOk v then
      s.modMir p (fun m => { m with sck := bits v 15 8, band := bits v 17 16, ponMode := bits v 21 18, pon4b := bit v 22 })
    else s.idxResult h 7 0
  else s.modMir p (fun m => if bits v 10 0 ≤ 1024 then { m with enrLen := bits v 10 0 } else m)

def execMirPortCfgWrite (h : HallId) (r : Requester) (timing : Bool) (v : Word) (s : State) : Host.Outcome State Fault Refusal :=
  let off := if timing then 0x050 else 0x04C
  (s.access17rw (pgMir h) off v.toNat r (fun t => t.portCfgWrite h r timing v.toNat)).done

end Sys2Proof.Machine
end

