-- ==== Sys2Proof/Machine/Rings.lean ====
section
/-! DEFINITION. The commands of the write-hold rings: commits (04 R140 to R143), decisions (R145, R146), checkpoints (R150),
read-back (R152), patrol scrub (R155, 17 Table 17.11) and the RING messages (R157). -/

namespace Sys2Proof.Machine

/-! ### Commits -/

/-- The area of a DRAM unit (01 Table 1.2). -/
def unitArea (u : Nat) : Nat := if u < 0x10000000 then 0 else if u < 0x14000000 then 1 else if u < 0x16000000 then 2 else 3

/-- The DRAM units that a commit reads: the page buffer, record, page map entries and ring descriptor of its entry (04 R155). -/
def Entry.units (e : Entry) (p : Nat) : List Nat :=
  let l := p % 256
  let r := ringOf e.off
  let map0 := mapAddr l r (e.off % 65536 / 256) / 64
  (List.range 4).map (fun i => bufUnit e.slot 0 + i) ++ [recAddr e.slot / 64, descAddr l r / 64] ++
    (List.range (mapAddr l r ((e.off + e.size - 1) % 65536 / 256) / 64 + 1 - map0)).map (· + map0)

/-- The ring structures of an entry are read with their ECC: an uncorrectable unit is rebuilt first (04 R155, 13 R407). -/
def State.bufferRead (s : State) (p : Nat) (e : Entry) : State :=
  let h := hallOf p
  let pg := pgRng h
  let u := bufUnit e.slot 0
  let dry := (s.hdr pg).injDry
  let s1 := match s.injection pg 0 (some p) with
    | 0 => s
    | 1 => (s.disarm pg).drcCorrected h true dry
    | _ => ((s.disarm pg).drcUncorrectable h u 1 true dry).ringUnc h u (some p) true
  each ((s1.hall h).dramBad.filter (e.units p).contains) (fun x t => (t.drcUncorrectable h x (unitArea x)).ringUnc h x (some p) false) s1

/-- COMMIT_START: the INTENT record, the state COMMITTING, and the FL_OPs (04 R141, 05 R165); with no ledger space none is sent
(05 R167). An entry whose structures were lost is not committed. -/
def State.commitStart (s : State) (p : Nat) : State :=
  match (s.port p).ring.head with
  | some e =>
    if !s.commitReady p then s
    else if !s.ledgerRoom then s.raiseP (pgGln (hallOf p)) 10 p
    else
      let s0 := s.bufferRead p e
      if s0.commitReady p && (s0.port p).ring.head == some e then
        let s1 := (s0.intent p e).entryTo p e.seq .committing 0
        s1.startJob p (.commit e.seq) (commitReqs (s1.port p) e)
      else s0
  | none => s

def execCommitStart (p : PortId) (s : State) : Host.Outcome State Fault Refusal := (s.commitStart p).done

/-! ### Decisions -/

/-- RNG_DEC_CMD (04 R145): the warden's decision on the selected port. -/
def State.decCmd (s : State) (h : Nat) (r : Requester) (allow : Bool) (count : Nat) : State :=
  let p := s.selPort h (pgRng h) 0x04C r
  let d := s.decide p allow (s.hall h).decFirst count 0 0xFF
  d.1.modHall h (fun x => { x with decResult := d.2.1, decApplied := d.2.2 })

def execAllow (h : HallId) (r : Requester) (count : Nat) (s : State) : Host.Outcome State Fault Refusal :=
  (s.access17 (pgRng h) 0x078 r (fun t => t.decCmd h r true (count % 65536))).done

def execRefuse (h : HallId) (r : Requester) (count : Nat) (s : State) : Host.Outcome State Fault Refusal :=
  (s.access17 (pgRng h) 0x078 r (fun t => t.decCmd h r false (count % 65536))).done

/-- The earliest windows of a port expire (04 R146); while it is QUARANTINED none runs. -/
def State.authExpiry (s : State) (p : Nat) : State :=
  match (s.port p).ring.nextExpiry with
  | some d => if s.alive && (s.port p).st != .quarantined then s.expireAt p d else s
  | none => s

def execAuthWindowExpiry (p : PortId) (s : State) : Host.Outcome State Fault Refusal := (s.authExpiry p).done

/-! ### Checkpoints and read-back -/

/-- Every 10 s a CHECKPOINT for every port with entries (04 R150). -/
def State.checkpoints (s : State) (h : Nat) : State :=
  if s.alive && (s.hall h).phase == .run then
    let s1 := s.toHall ((s.hall h).ckptAt + 8000000000)
    let s2 := s1.modHall h (fun x => { x with ckptAt := s1.hnow })
    each ((s2.portsOf h).filter (fun p => !(s2.port p).ring.entries.isEmpty)) (fun p t => t.checkpoint p) s2
  else s

def execJournalCheckpointTimer (h : HallId) (s : State) : Host.Outcome State Fault Refusal := (s.checkpoints h).done

/-- Classification starts as soon as the port is HELD or ADOPTED (04 R152). -/
def execReadbackStart (p : PortId) (s : State) : Host.Outcome State Fault Refusal :=
  let v := s.port p
  let busy := v.ring.jobs.any (fun j => match j.kind with
    | .readback _ _ => true
    | .reissue _ => true
    | _ => false)
  (s.when (s.alive && s.flAllowed p && (v.st == .held || v.st == .adopted) && v.ring.readbackPending && !busy)
    (fun t => t.readbackNext p)).done

/-! ### Patrol scrub -/

/-- The leaf of a mirror unit is being refilled (03 R120). -/
def Port.refilling (v : Port) (leaf : Nat) : Bool := v.ring.jobs.any (fun j => j.kind == .refill leaf)

/-- A patrol read of DRAM unit u (17 Table 17.11). A corrected unit whose memory device has failed stays so (03 R118, log 64). An
uncorrectable one is noted: ring structures are rebuilt (04 R155), and a mirror unit that had failed before, of a leaf that is being
refilled, quarantines its port (03 R120). -/
def State.scrub (s : State) (h u : Nat) (o : DramOutcome) : State :=
  if s.alive && (s.hall h).phase == .run && (s.hall h).scrubEn then
    let pg := pgDrc h
    let dry := (s.hdr pg).injDry
    let m := s.injection pg 0 none
    let s1 := s.modHall h (fun x => { x with scrubPos := (u + 1) % 0x18000000 })
    let s2 := if m = 1 then (s1.disarm pg).drcCorrected h true dry
      else if m = 2 then (s1.disarm pg).drcUncorrectable h u (unitArea u) true dry else s1
    match o with
    | .good => s2
    | .corrected => s2.drcCorrected h
    | .deviceFailed =>
      (s2.modHall h (fun x => { x with dramWeak := if x.dramWeak.contains u then x.dramWeak else x.dramWeak ++ [u] })).drcCorrected h
    | _ =>
      let again := (s.hall h).dramBad.contains u
      let s3 := (s2.modHall h (fun x => { x with dramBad := if again then x.dramBad else x.dramBad ++ [u] })).drcUncorrectable
        h u (unitArea u)
      let p := 256 * h + u / 0x100000
      match ringPart u with
      | some x => (s3.when (o == .unrecoverable) (fun t => t.acceptLost h x)).ringUnc h u none false
      | none => if unitArea u = 0 && again && (s.port p).refilling (u % 0x100000 / 64) then s3.quarantine p 17 else s3
  else s

def execPatrolScrubRead (h : HallId) (unit : Nat) (o : DramOutcome) (s : State) : Host.Outcome State Fault Refusal :=
  (s.scrub h unit o).done

/-! ### RING messages (04 Table 4.15) -/

/-- The state that RING_QUERY reports of an entry whose journal records were reclaimed (04 R157). -/
def State.seenState (s : State) (p : Nat) (e : Entry) : Nat :=
  if !e.jlost then esCode e.state
  else if s.excLog.contains (p, e.seq) then esCode e.state
  else if (s.port p).ring.dropped = 0 then 4 else 0xFF

/-- Sixteen bytes of one entry. -/
def State.ringEntry (s : State) (p q : Nat) : Bytes :=
  match (s.port p).ring.entry q with
  | some e =>
    le 6 q ++ le 1 (s.seenState p e) ++ le 1 e.cause ++ le 1 (ekCode e.kind) ++ le 1 e.policy ++ le 1 e.cls ++
      le 1 (b2n e.chained + 2 * b2n e.qheld + 4 * b2n (e.readback && e.state == .committing) + 8 * b2n e.jlost) ++ le 4 e.off
  | none => le 6 q ++ zeros 10

/-- RING_DETAIL of an entry (04 Table 4.15). One that was never decided reads decider 0 and session 0xFF (DESIGN CHOICE, log 98). -/
def State.ringDetailBytes (s : State) (p q : Nat) : Bytes :=
  s.ringEntry p q ++ (match (s.port p).ring.entry q with
    | some e => le 8 e.accTime ++ le 8 (if e.final then e.finTime else 0) ++ le 1 e.decider ++ le 1 e.session ++ le 1 e.rbClass ++
        le 1 (b2n e.found) ++ (if e.found then e.foundDig ++ zeros (48 - e.foundDig.length) else zeros 48) ++ le 2 e.regTag ++ le 2 e.bankTag
    | none => zeros 16 ++ [0, 0xFF, 0xFF, 0] ++ zeros 52)

def State.ringSummaryBytes (s : State) (p : Nat) : Bytes :=
  let r := (s.port p).ring
  let n := fun (st : EState) => (r.entries.filter (fun e => e.state == st)).length
  le 6 r.next ++ le 6 r.low ++ le 4 r.held ++ le 4 (n .accepted) ++ le 4 (n .held) ++ le 4 (n .committing) ++
    le 6 r.commitT ++ le 6 r.refuseT ++ le 6 r.partialT ++ le 6 r.lostT ++ le 2 r.dropped

/-- A message body names a port (log 17). -/
def portOk (b : Bytes) : Bool := num b 0 2 < 1024

/-- The hall of a message's port does not run: STATE (13 R402; a message without a result field answers one byte 2, log 17). -/
def State.hallRuns (s : State) (p : Nat) : Bool := (s.hall (hallOf p)).phase == .run && !s.hallResetting (hallOf p)

def execRingQuery (x : SessId) (body : Bytes) (s : State) : Host.Outcome State Fault Refusal :=
  let p := num body 0 2
  let n := num body 8 2
  (s.serveRead x 0x28 true (body.length == 10 && portOk body && 1 ≤ n && n ≤ 64) (fun t =>
    if t.hallRuns p then (List.range n).flatMap (fun i => t.ringEntry p (num body 2 6 + i)) else [2])).done

def execRingDetail (x : SessId) (body : Bytes) (s : State) : Host.Outcome State Fault Refusal :=
  let p := num body 0 2
  (s.serveRead x 0x29 true (body.length == 8 && portOk body) (fun t =>
    if t.hallRuns p then t.ringDetailBytes p (num body 2 6) else [2])).done

/-- The decider code of a role (04 Table 4.11): Owner 2, Operator 3, Service 4. -/
def deciderOf (role : Nat) : Nat := if role = 1 then 2 else if role = 2 then 3 else 4

def State.hostDecide (s : State) (x : Nat) (body : Bytes) : Bytes × State :=
  let p := num body 0 2
  let d := num body 10 1
  if !portOk body then (le 1 1 ++ le 2 0, s)
  else if !s.hallRuns p then (le 1 2 ++ le 2 0, s)
  else if d ≠ 1 ∧ d ≠ 2 then (le 1 1 ++ le 2 0, s)
  else
    let r := s.decide p (d == 1) (num body 2 6) (num body 8 2) (deciderOf (s.ses x).eff) x
    (le 1 r.2.1 ++ le 2 r.2.2, r.1)

def execRingDecide (x : SessId) (body : Bytes) (s : State) : Host.Outcome State Fault Refusal :=
  (s.serveNow x 0x2A ((s.ses x).eff != 4) (body.length == 11) (fun t => t.hostDecide x body)).done

def execRingSummary (x : SessId) (body : Bytes) (s : State) : Host.Outcome State Fault Refusal :=
  let p := num body 0 2
  (s.serveRead x 0x2B true (body.length == 2 && portOk body) (fun t =>
    if t.hallRuns p then t.ringSummaryBytes p else [2])).done

end Sys2Proof.Machine
end

