-- ==== Sys2Proof/Machine/Line.lean ====
section
/-! DEFINITION. Line position, gaps, scheduled changes and the line-position control page (07 R219 to R231, 17 R496, R497). -/

namespace Sys2Proof.Machine

/-! ### Hard encoder inputs (07 R219, R220) -/

/-- The document-present edge whose filter has been met takes effect at the position where DP first changed. -/
def State.settleDp (s : State) (n : Nat) : State :=
  let e := s.enc n
  match e.cand with
  | some (level, pos, held) =>
    if e.filter ≤ held then
      let s1 := s.modEnc n (fun x => { x with dp := level, cand := none })
      if (s1.tr n).st = .off then s1
      else if level then s1.leadEdge n pos 0 (pgEnc n) 4
      else s1.trailEdge n pos
    else s
  | none => s

/-- What the position of a hard transport sets off: the window ahead opens, an open one that is passed closes. -/
def State.passGap (s : State) (t : Nat) : State :=
  match (s.tr t).gap with
  | some g => if posAfter (s.tr t).pos g.dlPos then s.closeGap t 0 else s
  | none => s.reachGap t

/-- k valid edges of one direction are counted. -/
def State.countEdges (s : State) (n k : Nat) (fwd : Bool) : State :=
  let x := s.tr n
  let pos := if fwd then posAdd x.pos k else posAdd x.pos (posMod - k)
  let s1 := s.modEnc n (fun e => { e with
    backward := !fwd, rateCnt := e.rateCnt + k, fwd := if fwd then e.fwd + k else e.fwd,
    cand := if fwd then e.cand.map (fun c => (c.1, c.2.1, c.2.2 + k)) else e.cand })
  ((s1.moveTo n pos).settleDp n).passGap n

/-- A and B change in one sample. -/
def State.quadErr (s : State) (n : Nat) : State :=
  ((s.modEnc n (fun e => { e with quad := satAdd 16 e.quad 1 })).raise (pgEnc n) 1).faultTr n 2

/-- The receiver of an input works: its domain is on. -/
def State.encOn (s : State) (n : Nat) : Bool := s.alive && s.domOn (1058 + n)

def State.encCount (s : State) (n : Nat) (e : EncEdge) : State :=
  if !s.encOn n then s
  else match e with
    | .both => s.quadErr n
    | .aLeads => s.countEdges n 1 (!(s.enc n).dirInv)
    | .bLeads => s.countEdges n 1 (s.enc n).dirInv

def execEncoderCount (n : InputId) (e : EncEdge) (s : State) : Host.Outcome State Fault Refusal := (s.encCount n e).done

/-- A rising index edge: the forward counts since the last one are checked. -/
def State.indexRise (s : State) (n : Nat) : State :=
  let e := s.enc n
  let off := if e.fwd ≤ e.period then e.period - e.fwd else e.fwd - e.period
  let bad := e.indexEn && e.period != 0 && e.idxSeen && e.tol < off
  let s1 := s.modEnc n (fun x => { x with fwd := 0, idxSeen := true, indexN := if bad then satAdd 16 x.indexN 1 else x.indexN })
  if bad then (s1.raise (pgEnc n) 2).faultTr n 3 else s1

def execIndexEdge (n : InputId) (s : State) : Host.Outcome State Fault Refusal :=
  (s.when (s.encOn n) (fun t => t.indexRise n)).done

def execLineFault (n : InputId) (s : State) : Host.Outcome State Fault Refusal :=
  (s.when (s.encOn n) (fun t => (t.raise (pgEnc n) 0).faultTr n 1)).done

/-- The end of a measuring interval of 1 ms. -/
def State.rateMeasure (s : State) (n : Nat) : State :=
  let s1 := s.toLoft ((s.lnow / 600000 + 1) * 600000)
  let r := (s.enc n).rateCnt * 1000
  let s2 := s1.modEnc n (fun e => { e with rate := r, rateCnt := 0 })
  if (s.tr n).blk.enabled && (s.tr n).blk.maxRate < r then (s2.raise (pgEnc n) 3).faultTr n 4 else s2

def execRateMeasureTick (n : InputId) (s : State) : Host.Outcome State Fault Refusal :=
  (s.when (s.encOn n) (fun t => t.rateMeasure n)).done

/-- The document-present filter holds a level as its candidate. -/
def Encoder.candIs (e : Encoder) (level : Bool) : Bool :=
  match e.cand with
  | some c => c.1 == level
  | none => false

/-- The level of the DP input in the sense of DP_INV: back at the settled one it drops the candidate, else it becomes one and, with
DP_FILTER 0, an edge at once, whose window may open at that position (07 R220, R224). -/
def State.evalDp (s : State) (n : Nat) : State :=
  let e := s.enc n
  let active := e.raw != e.dpInv
  if active = e.dp then s.modEnc n (fun x => { x with cand := none })
  else if e.candIs active then s
  else ((s.modEnc n (fun x => { x with cand := some (active, (s.tr n).pos, 0) })).settleDp n).passGap n

/-- The DP input of a hard encoder input changes (07 R220): in backward motion no edge, whatever the settled level. -/
def State.dpChange (s : State) (n : Nat) (level : Bool) : State :=
  let e := s.enc n
  let s1 := s.modEnc n (fun x => { x with raw := level })
  if level = e.raw then s
  else if e.backward then
    let s2 := (s1.modEnc n (fun x => { x with dp := level != x.dpInv, cand := none })).raise (pgEnc n) 5
    s2.modTr n (fun x => { x with doc := x.doc.map (fun d => { d with flags := d.flags ||| 16 }) })
  else s1.evalDp n

/-- A write of ENC_CTRL: with another DP_INV the present level of the DP input counts in its new sense; in backward motion it makes no
edge (log 98). -/
def State.encCtrl (s : State) (n : Nat) (dir dpInv index : Bool) : State :=
  let old := s.enc n
  let s1 := s.modEnc n (fun e => { e with dirInv := dir, dpInv := dpInv, indexEn := index })
  if dpInv = old.dpInv then s1
  else if old.backward then s1.modEnc n (fun e => { e with dp := e.raw != e.dpInv, cand := none })
  else s1.evalDp n

def execDpInputChange (n : InputId) (level : Bool) (s : State) : Host.Outcome State Fault Refusal :=
  (s.when (s.encOn n) (fun t => t.dpChange n level)).done

/-! ### Idle transports and gap windows (07 R223 to R225) -/

/-- The position has not changed for 2 s. -/
def State.idleTimeout (s : State) (t : Nat) : State :=
  if s.alive && (s.tr t).st == .moving then (s.toLoft ((s.tr t).changedAt + 1200000000)).enterIdle t else s

def execTransportIdleTimeout (t : TransId) (s : State) : Host.Outcome State Fault Refusal := (s.idleTimeout t).done

/-- The next idle gap of an IDLE transport opens. -/
def State.idleGapDue (s : State) (t : Nat) : State :=
  match (s.tr t).idleNext with
  | some c =>
    if s.alive && (s.tr t).st == .idle then
      let s1 := ((s.toLoft c).closeGap t 0 true).modTr t (fun x => { x with idleNext := some (max s.lnow c + 60000000) })
      s1.openGap t true (s1.tr t).pos
    else s
  | none => s

def execIdleGapTimer (t : TransId) (s : State) : Host.Outcome State Fault Refusal := (s.idleGapDue t).done

/-- The 50 ms of an idle gap are over. -/
def State.idleGapOver (s : State) (t : Nat) : State :=
  match (s.tr t).idleGap with
  | some g => if s.alive then (s.toLoft (g.dlCyc + 1)).closeGap t 0 true else s
  | none => s

def execIdleGapExpiry (t : TransId) (s : State) : Host.Outcome State Fault Refusal := (s.idleGapOver t).done

/-- A hard transport moves on to the expiry position of its open window (07 R10, R224). -/
def State.gapPosExpiry (s : State) (t : Nat) : State :=
  match (s.tr t).gap with
  | some g =>
    if t < 16 ∧ s.alive = true then
      (let k := (posAdd g.dlPos 1 + posMod - (s.tr t).pos) % posMod
       if posAfter (s.tr t).pos g.dlPos then s.closeGap t 0 else s.countEdges t k true)
    else s
  | none => s

def execGapWindowExpiry (t : TransId) (s : State) : Host.Outcome State Fault Refusal := (s.gapPosExpiry t).done

/-- The guarantee of a reported transport's window ends. -/
def State.guaranteeOver (s : State) (t : Nat) : State :=
  match (s.tr t).gap with
  | some g => if 16 ≤ t ∧ (s.alive && g.said) = true then (s.toHall g.dlCyc).closeGap t 0 else s
  | none => s

def execGapGuaranteeEnd (t : TransId) (s : State) : Host.Outcome State Fault Refusal := (s.guaranteeOver t).done

/-! ### Notices, changes and reports (07 R226 to R231) -/

/-- A gap-open notice arrives at a hall when it is the oldest traffic on its way there (01 R22). -/
def State.noticeIn (s : State) (h : Nat) : State :=
  match (s.hall h).inq with
  | .opened n :: rest => (s.modHall h (fun x => { x with inq := rest })).gapOpenAt h n
  | _ => s

def execGapOpenNotice (h : HallId) (s : State) : Host.Outcome State Fault Refusal :=
  (s.when s.alive (fun t => t.noticeIn h)).done

/-- A gap-close notice arrives when it is the oldest traffic on its way to the hall (01 R22). -/
def State.endIn (s : State) (h : Nat) : State :=
  match (s.hall h).inq with
  | .closed n :: rest => (s.modHall h (fun x => { x with inq := rest })).gapCloseAt h n
  | _ => s

def execGapCloseNotice (h : HallId) (s : State) : Host.Outcome State Fault Refusal :=
  (s.when s.alive (fun t => t.endIn h)).done

/-- The bound change of a port whose DEFER window ends first. -/
def firstDefer (bs : List Bound) : Option (Bound × Nat) :=
  bs.foldl (fun a b => match b.win, a with
    | some w, none => some (b, w.dl)
    | some w, some c => if w.dl < c.2 then some (b, w.dl) else a
    | none, _ => a) none

/-- A DEFER window expires: the change is applied unscheduled (07 R230). -/
def State.deferExpiry (s : State) (p : Nat) : State :=
  match firstDefer (s.port p).bounds with
  | some (b, dl) =>
    let s1 := (s.toHall (dl + 1)).modPort p (fun v => { v with bounds := v.bounds.erase b })
    if s1.changeApplies p b.kind then
      ({ (s1.applyChange p b.kind false) with lpForced := satAdd 16 s1.lpForced 1 }).raise pgLp 3
    else s1.dropChange p b.kind
  | none => s

def execDeferWindowExpiry (p : PortId) (s : State) : Host.Outcome State Fault Refusal :=
  (s.when s.alive (fun t => t.deferExpiry p)).done

/-- A change report reaches the Loft when it is the oldest traffic of its hall (07 R231, 01 R22). -/
def State.reportIn (s : State) (h : Nat) : State :=
  match (s.hall h).outq with
  | .change r :: rest => (((s.modHall h (fun x => { x with outq := rest })).stairGood h).takeReport r).confOpen r
  | _ => s

def execHallChangeReport (h : HallId) (s : State) : Host.Outcome State Fault Refusal :=
  (s.when s.alive (fun t => t.reportIn h)).done

/-! ### Transport parameter blocks (17 R496) -/

/-- A parameter block as the six words of a stage (07 Table 7.3). -/
def TrBlock.words (b : TrBlock) : List Nat :=
  [b2n b.enabled + 65536 * b.report, b.openOfs, b.gapLen, b.maxRate, b.startCounts, b.deferMs]

def blockOf (w : List Nat) : TrBlock :=
  { enabled := bit (w.getD 0 0) 0, report := bits (w.getD 0 0) 31 16, openOfs := w.getD 1 0, gapLen := w.getD 2 0,
    maxRate := w.getD 3 0, startCounts := w.getD 4 0, deferMs := w.getD 5 0 }

/-- Check 1 of COMMIT: RANGE. -/
def stageRange (t : Nat) (w : List Nat) : Bool :=
  let b := blockOf w
  bits (w.getD 0 0) 15 1 ≠ 0 || [1, 2, 3, 4].any (fun k => w.getD k 0 ≥ 2 ^ 24) || b.deferMs ≥ 65536 ||
  (16 ≤ t && b.report > 1023) || b.gapLen = 0 || b.maxRate < 1 || b.maxRate > 10000000 || b.deferMs < 100 || b.deferMs > 60000

/-- A port tied to the transport bars its disabling. -/
def Port.barsDisable (v : Port) : Bool :=
  v.st == .released || v.st == .adopted || v.bounds.any (fun b => chgOrder b.kind == 4 || chgOrder b.kind == 5)

/-- The checks of COMMIT in order: 0 OK, 1 STATE, 3 RANGE. -/
def State.commitCode (s : State) (t : Nat) (w : List Nat) : Nat :=
  let old := (s.tr t).blk
  let new := blockOf w
  if stageRange t w then 3
  else if old.enabled && { new with enabled := true } != old then 1
  else if old.enabled && !new.enabled && (s.tied t).any (fun p => (s.port p).barsDisable) then 1
  else 0

def State.lpResultSet (s : State) (r : Requester) (c : Nat) : State := { s with lpResult := tabSet s.lpResult (reqNum r) c }

def State.loadStage (s : State) (r : Requester) (t : Nat) : State :=
  { s with lpStage := tabSet s.lpStage (reqNum r) (s.tr t).blk.words }

/-- ENABLED becomes 1: IDLE, and the chain receives OPEN and STATE, which wait for a recovery sheaf that is due (07 R240). -/
def State.enableTr (s : State) (t : Nat) : State :=
  let s1 := (s.when (t < 16) (fun u => u.domSet (1058 + t) true)).modTr t (fun x => { x with st := .idle, faultCause := 0, changedAt := s.lnow })
  (s1.when (!(s.tr t).needsRec) (fun u => u.openChain t (s.tr t).openReason)).enterIdle t

/-- ENABLED becomes 0: the gap closes, the chain receives CLOSE, the encoder's domain goes off. -/
def State.disableTr (s : State) (t : Nat) : State :=
  let s1 := ((s.closeGap t 4).closeGap t 4 true).when (s.tr t).opened (fun u => u.closeChain t 1 6)
  let s2 := s1.modTr t (fun x => { x with st := .off, ahead := none, lastDl := none, idleNext := none, doc := none, orderPos := none, afterTrail := false })
  s2.when (t < 16) (fun u => u.domSet (1058 + t) false)

def selTr (s : State) (r : Requester) : Nat := s.getSel pgLp 0x044 r

/-- LP_TR_CMD COMMIT: the whole stage in one cycle, or nothing. -/
def State.commitStage (s : State) (r : Requester) : State :=
  let t := selTr s r
  let w := tabGet [0, 0, 0, 0, 0, 0] s.lpStage (reqNum r)
  let c := s.commitCode t w
  if c ≠ 0 then s.lpResultSet r c
  else
    let was := (s.tr t).blk.enabled
    let s1 := s.modTr t (fun x => { x with blk := blockOf w })
    let s2 := if (blockOf w).enabled && !was then s1.enableTr t
      else if was && !(blockOf w).enabled then s1.disableTr t else s1
    (s2.loadStage r t).lpResultSet r 0

def execCommit (r : Requester) (s : State) : Host.Outcome State Fault Refusal :=
  (s.access17 pgLp 0x060 r (fun t => t.commitStage r)).done

/-- The fault condition of a transport is still present: the input's receiver is off, or the measured rate is too high. -/
def State.faultStays (s : State) (t : Nat) : Option (Nat × Nat) :=
  if t < 16 ∧ s.domOn (1058 + t) = false then some (1, 0)
  else if (s.tr t).faultCause = 4 ∧ (s.tr t).blk.maxRate < (s.enc t).rate then some (4, 3)
  else none

/-- LP_TR_CMD FAULT_CLR: MOVING, and FAULTED again in the next Loft cycle while the condition is present. -/
def State.faultClear (s : State) (r : Requester) : State :=
  let t := selTr s r
  if (s.tr t).st ≠ .faulted then s.lpResultSet r 1
  else
    let s1 := (s.modTr t (fun x => { x with st := .moving, faultCause := 0, changedAt := s.lnow })).lpResultSet r 0
    match s.faultStays t with
    | some (cause, b) => ((s1.toLoft (s1.lnow + 1)).raise (pgEnc t) b).faultTr t cause
    | none => s1

def execFaultClr (r : Requester) (s : State) : Host.Outcome State Fault Refusal :=
  (s.access17 pgLp 0x060 r (fun t => t.faultClear r)).done

/-- LP_TR_CMD RELOAD. -/
def State.reloadStage (s : State) (r : Requester) : State := (s.loadStage r (selTr s r)).lpResultSet r 0

def execReload (r : Requester) (s : State) : Host.Outcome State Fault Refusal :=
  (s.access17 pgLp 0x060 r (fun t => t.reloadStage r)).done

/-- Writing LP_TR_SEL selects a transport and loads the stage. -/
def State.trSelWrite (s : State) (r : Requester) (t : Nat) : State := (s.setSel pgLp 0x044 r t).loadStage r t

def execLpTrSelWrite (r : Requester) (t : TransId) (s : State) : Host.Outcome State Fault Refusal :=
  (s.access17 pgLp 0x044 r (fun u => u.trSelWrite r t.val)).done

/-! ### Ties (07 R227, 17 R497) -/

/-- Ports tied to a transport, but one, with the tie writes under way. -/
def State.tieCount (s : State) (t but : Nat) : Nat :=
  let pend := [0, 1, 2, 3].flatMap (fun h => (s.hall h).ties)
  let ps := (s.tied t).filter (fun p => p ≠ but && !pend.any (fun w => w.port == p))
  ps.length + ((pend.filter (fun w => w.entry % 512 == t && w.port ≠ but)).map (·.port)).eraseDups.length

/-- A write to LP_TIE_DATA: checked, then sent to the hall of the selected port. -/
def State.tieWrite (s : State) (r : Requester) (v : Nat) : State :=
  let p := s.getSel pgLp 0x078 r % 1024
  let e := v % 65536
  let t := e % 512
  if bits e 15 10 ≠ 0 ∨ t > 0x100 then s.lpResultSet r 3
  else if t < 256 ∧ 128 ≤ s.tieCount t p then s.lpResultSet r 2
  else s.modHall (hallOf p) (fun h => { h with inq := h.inq ++ [.tie ⟨reqNum r, p, e⟩] })

def execLpTieDataWrite (r : Requester) (v : Word) (s : State) : Host.Outcome State Fault Refusal :=
  (s.access17 pgLp 0x07C r (fun t => t.tieWrite r v.toNat)).done

def tieStates : List PortState := [.absent, .held, .verifying, .quarantined, .retired]

/-- A tie write, the oldest traffic on its way to a hall, is decided there by the state rule of R227. -/
def State.tieIn (s : State) (h : Nat) : State :=
  match (s.hall h).inq with
  | .tie w :: rest =>
    let s1 := s.modHall h (fun x => { x with inq := rest })
    if tieStates.contains (s.port w.port).st then
      let t := w.entry % 512
      let tie := if t < 256 then some t else none
      let s2 := (s1.modPort w.port (fun v => { v with tie := tie, notify := bit w.entry 9 }))
      let s3 := { s2 with lpResult := tabSet s2.lpResult w.r 0 }
      if tie.isNone then s3.unbind w.port else s3
    else { s1 with lpResult := tabSet s1.lpResult w.r 1 }
  | _ => s

def execTieWriteArrival (h : HallId) (s : State) : Host.Outcome State Fault Refusal :=
  (s.when s.alive (fun t => t.tieIn h)).done

end Sys2Proof.Machine
end

