-- ==== Sys2Proof/Machine/Seals.lean ====
section
/-! DEFINITION. The seal engine's timers, flushes and host messages (07 R236 to R244). -/

namespace Sys2Proof.Machine

/-- SHEAF_MS have passed since the first record not yet covered. -/
def State.sheafDue (s : State) (t : Nat) : State :=
  match (s.tr t).firstAt with
  | some a => if s.alive then (s.toLoft (a + s.sheafMs * 600000)).queueSheaf t 0 else s
  | none => s

def execSheafTimer (t : TransId) (s : State) : Host.Outcome State Fault Refusal := (s.sheafDue t).done

/-- A sheaf job has waited longer than SHEAF_MS. -/
def State.sheafWaits (s : State) (t : Nat) : State :=
  let x := s.tr t
  if s.alive && x.job && !x.jobLate && s.pkeQ.any (fun j => j.tag == .sheaf t) then
    (((s.toLoft (x.jobAt + s.sheafMs * 600000 + 1)).modTr t (fun y => { y with jobLate := true }))).raise 0x1F 0
  else s

def execSheafLate (t : TransId) (s : State) : Host.Outcome State Fault Refusal := (s.sheafWaits t).done

/-- At module start: a recovery sheaf over records that no sheaf covers, else the OPEN record of an enabled transport (R240). -/
def State.sealRecover (s : State) (t : Nat) : State :=
  let x := s.tr t
  if s.alive && s.gran.ready && !x.opened && !x.job && s.modState != .loftBoot && s.modState != .shutter then
    if x.needsRec then (s.modTr t (fun y => { y with recovering := true })).queueSheaf t 5
    else if x.blk.enabled then s.openChain t x.openReason
    else s
  else s

def execSealRecovery (t : TransId) (s : State) : Host.Outcome State Fault Refusal := (s.sealRecover t).done

/-- The transports whose chains hold records. -/
def State.chains (s : State) : List Nat := (s.trs.filter (fun e => e.2.everMade)).map (·.1)

/-- SEAL_FLUSH: one transport, or all with 0x100. -/
def State.sealFlushReg (s : State) (t : Nat) : State :=
  if t = 0x100 then each s.chains (fun k u => u.queueSheaf k 3) s
  else if t < 256 then s.queueSheaf t 3
  else s

def execSealFlush (r : Requester) (tr : BitVec 9) (s : State) : Host.Outcome State Fault Refusal :=
  (s.access17 0x1F 0x060 r (fun t => t.sealFlushReg tr.toNat)).done

/-! ### Host messages (R241) -/

def trOk (b : Bytes) : Bool := num b 0 2 < 256

def State.sealStatusBytes (s : State) (t : Nat) : Bytes :=
  let x := s.tr t
  let oldest := match x.kept with
    | r :: _ => r.no
    | [] => 0
  le 1 (trCode x.st) ++ le 6 x.recNo ++ le 6 x.docNo ++ le 6 (x.sheafNo - 1) ++ le 6 x.signed ++ le 6 oldest ++ le 4 x.gapNo

def execSealStatus (x : SessId) (body : Bytes) (s : State) : Host.Outcome State Fault Refusal :=
  (s.serveRead x 0x24 true (body.length == 2 && trOk body) (fun t => t.sealStatusBytes (num body 0 2))).done

/-- Whole records from the front of a list, as many as fit in a body of 4,608 bytes and at most n. -/
def fitRecs : Nat → Nat → List SealRec → List SealRec
  | 0, _, _ => []
  | _, _, [] => []
  | n + 1, room, r :: rest => if r.bytes.length ≤ room then r :: fitRecs n (room - r.bytes.length) rest else []

/-- SEAL_RECORDS: status 0 OK, 1 GONE, 2 NOT_YET. -/
def State.sealRecordsBytes (s : State) (t sel v n : Nat) : Bytes :=
  let x := s.tr t
  let next := if sel = 0 then x.recNo else x.docNo
  let at_ := fun (r : SealRec) => if sel = 0 then r.no == v else r.docNo == v
  if next ≤ v then le 1 2 ++ le 1 0
  else if v = 0 ∨ x.kept.any at_ = false then le 1 1 ++ le 1 0
  else
    let rs := fitRecs n 4606 (x.kept.dropWhile (fun r => !at_ r))
    le 1 0 ++ le 1 rs.length ++ rs.flatMap (·.bytes)

def execSealRecords (x : SessId) (body : Bytes) (s : State) : Host.Outcome State Fault Refusal :=
  let n := num body 9 1
  (s.serveRead x 0x25 true (body.length == 10 && trOk body && num body 2 1 < 2 && 1 ≤ n && n ≤ 64) (fun t =>
    t.sealRecordsBytes (num body 0 2) (num body 2 1) (num body 3 6) n)).done

/-- SEAL_SHEAF: a sheaf by its number, or the latest. -/
def State.sealSheafBytes (s : State) (t no : Nat) : Bytes :=
  let x := s.tr t
  let want := if no = 2 ^ 48 - 1 then x.sheafNo - 1 else no
  match x.sheaves.find? (fun h => h.no == want) with
  | some h => le 1 0 ++ h.bytes
  | none => if x.sheafNo ≤ want ∨ (want = 0 ∧ no ≠ 0) then le 1 2 else le 1 1

def execSealSheaf (x : SessId) (body : Bytes) (s : State) : Host.Outcome State Fault Refusal :=
  (s.serveRead x 0x26 true (body.length == 8 && trOk body) (fun t => t.sealSheafBytes (num body 0 2) (num body 2 6))).done

/-- The sheaf that covers the newest record of a transport: signed, under way, or the next. -/
def Transport.coverNo (x : Transport) : Nat :=
  if x.recNo ≤ x.signed + 1 then x.sheafNo - 1
  else if x.job && x.jobLast + 1 < x.recNo then x.sheafNo + 1
  else x.sheafNo

/-- SEAL_FLUSH_REQ: a transport that is OFF has nothing to flush (STATE), nor has a module in SHUTTER. -/
def State.flushReq (s : State) (t : Nat) : Bytes × State :=
  if s.modState = .shutter then (le 1 1 ++ le 6 0, s)
  else if t = 0xFFFF then (le 1 0 ++ le 6 0, each s.chains (fun k u => u.queueSheaf k 3) s)
  else if (s.tr t).st = .off then (le 1 1 ++ le 6 0, s)
  else
    let s1 := s.queueSheaf t 3
    (le 1 0 ++ le 6 (s1.tr t).coverNo, s1)

def execSealFlushReq (x : SessId) (body : Bytes) (s : State) : Host.Outcome State Fault Refusal :=
  let r := (s.ses x).eff
  (s.serveNow x 0x27 (r == 1 || r == 2) (body.length == 2 && (trOk body || num body 0 2 == 0xFFFF)) (fun t =>
    t.flushReq (num body 0 2))).done

end Sys2Proof.Machine
end

