-- ==== Sys2Proof/Machine/Sideband.lean ====
section
/-! DEFINITION. Sideband messages of platforms (02 Table 2.3): position reports (07 R221), image reports (07 R235),
confirmations (08 R260) and watchdog services (12 R373). -/

namespace Sys2Proof.Machine

/-- A position report refused whole (07 R221). -/
def State.refuseReport (s : State) : State := ({ s with lpRefused := satAdd 16 s.lpRefused 1 }).raise pgLp 0

/-- The enabled reported transports that a port reports for (log 47). -/
def State.reportsFor (s : State) (p : Nat) : List Nat :=
  (s.trs.filter (fun e => 16 ≤ e.1 ∧ e.2.blk.enabled = true ∧ e.2.blk.report = p)).map (·.1)

/-- An SB_MSG 0x50. -/
def State.posReport (s : State) (p : Nat) (data : Bytes) : State :=
  let n := num data 1 1
  let ts := s.reportsFor p
  if ts.isEmpty ∨ (s.port p).served = false ∨ n < 1 ∨ n > 15 ∨ data.length < 4 + 16 * n then s.refuseReport
  else each ts (fun t u => takeReports t ((List.range n).map (parseReport data)) u) s

/-- An SB_MSG 0x52: an IMAGE record for one of the last 256 documents of the port's transport. -/
def State.imageReport (s : State) (p : Nat) (data : Bytes) : State :=
  let d := num data 2 6
  let drop := { s with dropImage := satAdd 16 s.dropImage 1 }
  match (s.port p).tie with
  | none => drop
  | some t =>
    let x := s.tr t
    if data.length < 64 ∨ x.opened = false ∨ d < 1 ∨ x.docNo ≤ d ∨ d + 256 < x.docNo then drop
    else s.sealPut t 4 0 (le 6 d ++ le 2 p ++ le 2 (num data 8 2) ++ sub data 16 48)

/-- An SB_MSG 0x60, answered by SB_REPLY 0x61. -/
def State.confirmMsg (s : State) (p : Nat) (data : Bytes) : State :=
  let r := s.confirmation p (num data 1 1) (num data 4 8) (num data 12 8)
  r.2.sbReply p (le 1 0x61 ++ le 1 r.1)

/-- A sideband message by its first byte; one with no meaning here is dropped. -/
def State.sideband (s : State) (p : Nat) (data : Bytes) : State :=
  match num data 0 1 with
  | 0x50 => s.posReport p data
  | 0x52 => s.imageReport p data
  | 0x60 => s.confirmMsg p data
  | 0x70 => s.pwdServe p data
  | _ => s

def execSbMsg (p : PortId) (data : Bytes) (s : State) : Host.Outcome State Fault Refusal :=
  (s.rxSeq p .vc3 1 (fun t => t.sideband p data)).done

/-- An SB_MSG whose first byte is the code of the command. -/
def State.sbWith (s : State) (p : Nat) (code : Nat) (data : Bytes) (act : State → State) : State :=
  s.rxSeq p .vc3 1 (fun t => if num data 0 1 = code then act t else t)

def execPositionReport (p : PortId) (data : Bytes) (s : State) : Host.Outcome State Fault Refusal :=
  (s.sbWith p 0x50 data (fun t => t.posReport p data)).done

def execImageReport (p : PortId) (data : Bytes) (s : State) : Host.Outcome State Fault Refusal :=
  (s.sbWith p 0x52 data (fun t => t.imageReport p data)).done

def execConfirmation (p : PortId) (data : Bytes) (s : State) : Host.Outcome State Fault Refusal :=
  (s.sbWith p 0x60 data (fun t => t.confirmMsg p data)).done

def execPwdService (p : PortId) (data : Bytes) (s : State) : Host.Outcome State Fault Refusal :=
  (s.sbWith p 0x70 data (fun t => t.pwdServe p data)).done

end Sys2Proof.Machine
end

