-- ==== Sys2Proof/Machine/Update.lean ====
section
/-! DEFINITION. Updates: staging, manifests, guarded and warden activations (08 R245 to R275). -/

namespace Sys2Proof.Machine

/-! ### Staging (R248, R249, R272) -/

/-- The Owner and Service roles, with the rights a session has. -/
def State.ownerOrService (s : State) (x : Nat) : Bool := (s.ses x).eff == 1 || (s.ses x).eff == 3

/-- Block n of image k waits for the barn. -/
def State.blockWaits (s : State) (k n : Nat) : Bool := s.barnQ.any (fun q => match q with
  | .block a b _ _ => a == k && b == n
  | _ => false)

/-- The blocks of an image that are durable. -/
def State.heldBlocks (s : State) (k : Nat) (g : Image) : Tab Bytes := g.blocks.filter (fun b => !s.blockWaits k b.1)
def State.heldCount (s : State) (k : Nat) (g : Image) : Nat := (s.heldBlocks k g).length
def State.missingBlock (s : State) (k : Nat) (g : Image) : Nat :=
  ((List.range g.blockCount).find? (fun i => (tabFind (s.heldBlocks k g) i).isNone)).getD 0xFFFFFFFF

/-- STAGE_OPEN: a held identity is named; else a handle and room are reserved. -/
def State.stageOpenBody (s : State) (b : Bytes) : Bytes × State :=
  let kind := num b 0 1
  let id := num b 4 8
  let ver := num b 12 8
  let len := num b 20 4
  let inRange := (kind == 1 && 1 ≤ len && len ≤ 67108864) || (kind == 2 && 4096 ≤ len && len ≤ 33554432)
  if s.stagingBarred then s.failBody 6 11
  else if !inRange then s.failBody 4 11
  else match s.findImage kind id ver with
    | some e => (le 1 0 ++ le 1 e.2.st ++ le 2 e.1 ++ le 4 e.2.blockCount ++ le 4 (s.heldCount e.1 e.2), s)
    | none =>
      match (List.range 256).find? (fun k => (s.image k).isNone) with
      | some k =>
        if s.stagingUsed + imageSpace len > stagingArea then (s.raise pgBarn 6).failBody 2 11
        else
          let g : Image := { kind := kind, imageId := id, version := ver, length := len }
          (le 1 0 ++ le 1 1 ++ le 2 k ++ le 4 g.blockCount ++ le 4 0, { s with images := tabSet s.images k g })
      | none => (s.raise pgBarn 6).failBody 2 11

def execStageOpen (x : SessId) (body : Bytes) (s : State) : Host.Outcome State Fault Refusal :=
  (s.serveNow x 0x10 (s.ownerOrService x) (body.length == 24) (fun t => t.stageOpenBody body)).done

/-- An answer that carries the blocks held after its result. -/
def State.stageAnswer (s : State) (res k : Nat) : Bytes := le 1 res ++ le 4 (match s.image k with
  | some g => s.heldCount k g
  | none => 0)

/-- STAGE_BLOCK: the CRC of the received data, then the block is placed; its OK follows when it is durable. -/
def State.stageBlockBody (s : State) (x seq : Nat) (b : Bytes) : Option Bytes × State :=
  let k := num b 0 2
  let n := num b 2 4
  let crc := num b 6 4
  let data := b.drop 10
  if s.stagingBarred then (some (s.stageAnswer 6 k), s)
  else match s.image k with
    | none => (let r := s.failBody 4 4; (some r.1, r.2))
    | some g =>
      if g.blockCount ≤ n ∨ data.length ≠ g.blockLen n then (some (s.stageAnswer 4 k), s)
      else if (crc32c data).toNat ≠ crc then (let t := s.raise pgBarn 0; (some (t.stageAnswer 1 k), t))
      else match tabFind g.blocks n with
        | some old =>
          if crc32c old ≠ crc32c data then (some (s.stageAnswer 3 k), s)
          else if s.blockWaits k n then (none, { s with barnQ := s.barnQ ++ [.block k n x seq] })
          else (some (s.stageAnswer 0 k), s)
        | none =>
          if g.st = 5 then (some (s.stageAnswer 8 k), s)
          else if g.st ≠ 1 then (some (s.stageAnswer 6 k), s)
          else (none, { s.modImage k (fun i => { i with blocks := tabSet i.blocks n data }) with
            barnQ := s.barnQ ++ [.block k n x seq] })

def execStageBlock (x : SessId) (body : Bytes) (s : State) : Host.Outcome State Fault Refusal :=
  (s.serve x 0x11 (s.ownerOrService x) (11 ≤ body.length && body.length ≤ 4106) (fun seq t => t.stageBlockBody x seq body)).done

def execStageStatus (x : SessId) (body : Bytes) (s : State) : Host.Outcome State Fault Refusal :=
  (s.serveNow x 0x12 true (body.length == 2) (fun t =>
    let k := num body 0 2
    match t.image k with
    | none => t.failBody 4 57
    | some g => (le 1 0 ++ le 1 g.st ++ le 4 (t.heldCount k g) ++ le 4 (t.missingBlock k g) ++
        (if g.st = 1 then zeros 48 else sub (g.root ++ zeros 48) 0 48), t))).done

/-- STAGE_CLOSE: with every block held, the hash lanes start on the tree; the answer follows the CLOSE record. -/
def State.stageCloseBody (s : State) (x seq : Nat) (b : Bytes) : Option Bytes × State :=
  let k := num b 0 2
  let bad := fun (r : Nat) => (let t := s.failBody r 52; (some t.1, t.2))
  if s.stagingBarred then bad 6
  else match s.image k with
    | none => bad 4
    | some g =>
      let miss := s.missingBlock k g
      if g.st = 5 then bad 8
      else if g.st ≠ 1 ∨ g.closing.isSome then bad 6
      else if miss ≠ 0xFFFFFFFF then
        (let t := s.failBody 5 48; (some (le 1 5 ++ le 4 miss ++ t.1.drop 1), t.2))
      else (none, s.modImage k (fun i => { i with closing := some (x, seq) }))

def execStageClose (x : SessId) (body : Bytes) (s : State) : Host.Outcome State Fault Refusal :=
  (s.serve x 0x13 (s.ownerOrService x) (body.length == 2) (fun seq t => t.stageCloseBody x seq body)).done

/-- The image's digest tree is computed and its CLOSE record is placed (R249). -/
def State.treeComputed (s : State) (k : Nat) : State :=
  match s.image k with
  | some g =>
    if s.alive && g.closing.isSome && g.leaves.isEmpty then
      let ls := (List.range g.blockCount).map (fun i => (i, leafDigest i (g.leaf i)))
      { s.modImage k (fun i => { i with leaves := ls, root := treeRoot (ls.map (·.2)) }) with
        barnQ := s.barnQ ++ [.imageClose k] }
    else s
  | none => s

def execStageTreeComputed (handle : Nat) (s : State) : Host.Outcome State Fault Refusal := (s.treeComputed handle).done

/-- The CLOSE record is durable: the image is CLOSED and the request is answered. -/
def State.imageClosed (s : State) (k : Nat) : State :=
  match s.image k with
  | some g =>
    let s1 := (s.ulogPut 0x40 (le 1 k ++ le 1 g.kind ++ le 8 g.imageId ++ le 8 g.version ++ le 4 g.length ++ g.root)).modImage k
      (fun i => { i with st := 2, closing := none })
    match g.closing with
    | some (x, seq) => (s1.respond x seq (le 1 0 ++ le 4 0xFFFFFFFF ++ g.root)).useImages
    | none => s1.useImages
  | none => s

/-- A staged block is durable: every request that brought it is answered OK. -/
def State.blockDurable (s : State) (k n : Nat) : State :=
  let waits := s.barnQ.filterMap (fun q => match q with
    | .block a b x seq => if a = k ∧ b = n then some (x, seq) else none
    | _ => none)
  let s1 := { s with barnQ := s.barnQ.filter (fun q => match q with
    | .block a b _ _ => !(a == k && b == n)
    | _ => true) }
  each waits (fun w t => t.respond w.1 w.2 (t.stageAnswer 0 k)) s1

/-- The oldest write placed for the barn becomes durable (04 R149). -/
def State.barnDurable (s : State) : State :=
  match s.barnQ with
  | [] => s
  | q :: rest =>
    if !s.alive then s
    else
      let s1 := { s with barnQ := rest }
      match q with
      | .healStart p => s1.modGln p (fun g => match g.heal with
          | some h => { g with heal := some { h with durable := true } }
          | none => g)
      | .treeCopy p slot => s1.copyDurable p slot
      | .block k n _ _ => s.blockDurable k n
      | .imageClose k => s1.imageClosed k
      | .revertCopies => s1.modAct (fun a => { a with durable := true })

/-- The wear that a write leaves in the barn's NAND (BRN_WEAR): the spec gives no rule of it, so the two counts are free and only rise
(log 94). At 24,000 cycles BARN_WEAR is set (15 R463). -/
def State.barnWear (s : State) : State :=
  let m := max s.maxPe (Config.freeNat s.freeCtr % 65536)
  let b := max s.badBlocks (Config.freeNat (s.freeCtr + 1) % 65536)
  ({ s with maxPe := m, badBlocks := b, freeCtr := s.freeCtr + 2 } : State).when (s.maxPe < 24000 && 24000 ≤ m) (fun t => t.raise pgPwr 6)

def execBarnWriteDurable (s : State) : Host.Outcome State Fault Refusal :=
  ((s.when s.alive (fun t => t.barnWear)).barnDurable).done

/-- STAGE_DISCARD frees an image in RECEIVING, CLOSED or DAMAGED; requests that wait for its blocks or its closing are answered STATE
(log 98). -/
def State.stageDiscardBody (s : State) (b : Bytes) : Bytes × State :=
  let k := num b 0 2
  match s.image k with
  | none => (le 1 4, s)
  | some g =>
    if g.st = 3 ∨ g.st = 4 then (le 1 6, s)
    else
      let close := match g.closing with
        | some (x, seq) => [(x, seq)]
        | none => []
      let waits := s.barnQ.filterMap (fun q => match q with
        | .block a _ x seq => if a = k then some (x, seq) else none
        | _ => none)
      let s1 := { s with images := tabDel s.images k, barnQ := s.barnQ.filter (fun q => match q with
        | .block a _ _ _ => a != k
        | .imageClose a => a != k
        | _ => true) }
      let s2 := each waits (fun w t => t.respond w.1 w.2 (t.stageAnswer 6 k)) s1
      (le 1 0, each close (fun w t => t.respond w.1 w.2 (le 1 6 ++ zeros 52)) s2)

def execStageDiscard (x : SessId) (body : Bytes) (s : State) : Host.Outcome State Fault Refusal :=
  (s.serveNow x 0x14 (s.ownerOrService x) (body.length == 2) (fun t => t.stageDiscardBody body)).done

def State.stageListBytes (s : State) (first n : Nat) : Bytes :=
  let es := ((List.range 256).filterMap (fun k => if k < first then none else (s.image k).map (fun g => (k, g)))).take n
  le 1 0 ++ le 1 es.length ++ es.flatMap (fun e =>
    le 2 e.1 ++ le 1 e.2.st ++ le 1 e.2.kind ++ le 8 e.2.imageId ++ le 8 e.2.version ++ le 4 e.2.length ++
    le 4 (s.heldCount e.1 e.2) ++ zeros 4)

def execStageList (x : SessId) (body : Bytes) (s : State) : Host.Outcome State Fault Refusal :=
  let n := num body 2 1
  (s.serveRead x 0x15 true (body.length == 3 && 1 ≤ n && n ≤ 32) (fun t => t.stageListBytes (num body 0 2) n)).done

/-! ### Manifests (R250 to R254, R273) -/

/-- The slot's manifest is the one of the open activation. -/
def State.slotBusy (s : State) (k : Nat) : Bool := s.act.opened && s.act.slot == k

/-- MANIFEST_LOAD: offset 0 empties the slot; later parts follow on what is held (log 49). -/
def State.manifestLoadBody (s : State) (b : Bytes) : Bytes × State :=
  let k := num b 0 1
  let off := num b 4 4
  let data := b.drop 8
  let m := s.manSlot k
  if 4 ≤ k then s.failBody 4 4
  else if s.slotBusy k ∨ m.checking ≠ [] ∨ (off ≠ 0 ∧ m.complete) then (le 1 6 ++ le 4 m.bytes.length, s)
  else if (off ≠ 0 ∧ m.bytes.length ≠ off) ∨ 32768 < off + data.length then (le 1 4 ++ le 4 m.bytes.length, s)
  else
    let all := (if off = 0 then [] else m.bytes) ++ data
    (le 1 0 ++ le 4 all.length, s.modMan k (fun _ => { bytes := all, complete := bit (num b 1 1) 0 }))

def execManifestLoad (x : SessId) (body : Bytes) (s : State) : Host.Outcome State Fault Refusal :=
  (s.serveNow x 0x18 (s.ownerOrService x) (8 ≤ body.length && body.length ≤ 4104) (fun t => t.manifestLoadBody body)).done

/-- The answer of MANIFEST_CHECK. -/
def State.checkAnswer (s : State) (k : Nat) (r : Nat × Nat) : Bytes :=
  let m := (s.manSlot k).bytes
  le 1 r.1 ++ le 1 r.2 ++ le 4 (mSerial m) ++ le 1 (mCount m) ++ le 1 (mMode m) ++
    le 2 (if mFormat m then (s.changedPorts m).length else 0)

/-- A check of a slot ends with a result: its requests are answered (R252); a failed check sets MANIFEST_REFUSED. -/
def State.checkEnds (s : State) (k : Nat) (r : Nat × Nat) (waits : List (Nat × Nat)) : State :=
  let s1 := s.modMan k (fun m => { m with checking := [], checked := m.checked || r.1 == 0 })
  let s2 := s1.when (r.1 != 0) (fun t => t.raise pgBarn 1)
  each waits (fun w t => t.respond w.1 w.2 (t.checkAnswer k r)) s2

/-- MANIFEST_CHECK: checks 1 to 3, then the signature job in the UPDATE class; checks asked for while one runs share its
result. -/
def State.manifestCheck (s : State) (x seq k : Nat) : State :=
  let m := s.manSlot k
  if m.checking ≠ [] then s.modMan k (fun u => { u with checking := u.checking ++ [(x, seq)] })
  else
    let r := if m.complete then s.checkEarly m.bytes else 1
    if r ≠ 0 then s.checkEnds k (r, 0xFF) [(x, seq)]
    else
      (s.modMan k (fun u => { u with checking := [(x, seq)] })).queueJob
        (manifestJob 3 (.manifest k) m.bytes)

/-- The signature job of a slot's check ended: a warden part's header signature is next, else checks 5 to 11. -/
def State.manifestSigDone (s : State) (k : Nat) (ok : Bool) : State :=
  let m := s.manSlot k
  if m.checking = [] then s
  else if !ok then s.checkEnds k (4, 0xFF) m.checking
  else if (mParts m.bytes).any (fun x => pKind x == 2) then
    let x := mPart m.bytes 0
    let hdr := match s.findImage 2 (pImage x) (pVersion x) with
      | some g => g.2.bytes.take 280
      | none => []
    s.queueJob (verifyJob 3 (.header k) (hdr.take 184) (sub hdr 184 96) (sub hdr 80 97))
  else s.checkEnds k (s.checkLate m.bytes false) m.checking

/-- The header signature job of a slot's check ended (R264). -/
def State.headerSigDone (s : State) (k : Nat) (ok : Bool) : State :=
  let m := s.manSlot k
  if m.checking = [] then s
  else
    let s1 := s.modMan k (fun u => { u with hdrOk := ok })
    s1.checkEnds k (s1.checkLate m.bytes ok) m.checking

def execManifestCheck (x : SessId) (body : Bytes) (s : State) : Host.Outcome State Fault Refusal :=
  (s.serve x 0x19 (s.ownerOrService x) (body.length == 1 && num body 0 1 < 4) (fun seq t =>
    (none, t.manifestCheck x seq (num body 0 1)))).done

/-- The result of MANIFEST_ACTIVATE (R252): 12, 13, 14, then checks 5 to 11 again. -/
def State.activateResult (s : State) (k : Nat) : Nat × Nat :=
  let m := s.manSlot k
  let bad := fun (p : Nat) => let st := (s.port p).st
    st == .absent || st == .linking || st == .pairing || st == .quarantined
  if !m.checked then (12, 0xFF)
  else if s.act.opened then (13, 0xFF)
  else if s.modState != .serving || (s.changedPorts m.bytes).any bad then (14, 0xFF)
  else s.checkLate m.bytes m.hdrOk true

def State.manifestActivateBody (s : State) (k : Nat) : Bytes × State :=
  let m := (s.manSlot k).bytes
  let r := s.activateResult k
  if r.1 ≠ 0 then
    let t := s.raise pgBarn 1
    (le 1 r.1 ++ le 1 r.2 ++ le 4 t.act.no, t)
  else
    let t := if (mParts m).any (fun x => pKind x == 2) then s.beginWarden k m else s.beginGuarded k m
    (le 1 0 ++ le 1 0xFF ++ le 4 t.act.no, t)

def execManifestActivate (x : SessId) (body : Bytes) (s : State) : Host.Outcome State Fault Refusal :=
  (s.serveNow x 0x1A ((s.ses x).eff == 1) (body.length == 1 && num body 0 1 < 4) (fun t =>
    t.manifestActivateBody (num body 0 1))).done

/-- Changed ports through the current stage (R273, Table 8.15). -/
def State.actDone (s : State) : Nat :=
  (s.act.changed.filter (fun p => let v := s.port p; match s.act.stage with
    | 1 => v.drained && v.tree.resident
    | 2 => v.upd.copied
    | 3 => v.upd.copied
    | 4 => v.upd.confirmed
    | 5 => v.upd.copied
    | _ => false)).length

def State.actConfirmedCount (s : State) : Nat := (s.act.changed.filter (fun p => (s.port p).upd.confirmed)).length
def State.actFailedCount (s : State) : Nat :=
  (s.act.changed.filter (fun p => let v := s.port p; v.upd.changed && (v.st == .quarantined || v.upd.revertPend || v.upd.failed))).length

/-- Time left in a window on the Loft clock, in whole milliseconds (log 50). -/
def State.msLeft (s : State) (w : Window) : Nat := (w.dl + 1 - s.lnow) / 600000

def State.leastConfirm (s : State) : Nat :=
  match s.act.changed.filterMap (fun p => (s.port p).upd.confWin.map s.msLeft) with
  | [] => 0
  | a :: l => l.foldl min a

def State.manifestStatusBytes (s : State) : Bytes :=
  let a := s.act
  le 1 a.stage ++ le 1 a.kind ++ le 1 a.mode ++ le 1 a.outcome ++ le 1 a.reason ++ le 4 a.no ++ le 2 a.changed.length ++
    le 2 s.actDone ++ le 2 s.actConfirmedCount ++ le 2 s.actFailedCount ++ le 4 s.leastConfirm

def execManifestStatus (x : SessId) (body : Bytes) (s : State) : Host.Outcome State Fault Refusal :=
  (s.serveRead x 0x1B true (body.length == 0) (fun t => t.manifestStatusBytes)).done

/-- A warden activation that the Owner cancels: abandoned before the handover, else a forced fallback in the next Loft
cycle (R268). -/
def State.cancelWarden (s : State) : State :=
  if s.act.stage = 8 then (s.toLoft (s.lnow + 1)).forcedFallback 1 else s.wdnAbandon 1

/-- MANIFEST_CANCEL (Table 8.6, R268). -/
def State.manifestCancelBody (s : State) (no : Nat) : Bytes × State :=
  let st := s.act.stage
  if !s.act.opened ∨ s.act.no ≠ no ∨ st = 5 then (le 1 6 ++ le 1 st, s)
  else (le 1 0 ++ le 1 st, if s.act.kind = 1 then s.cancelWarden else s.actFails 1 0xFFFF)

def execManifestCancel (x : SessId) (body : Bytes) (s : State) : Host.Outcome State Fault Refusal :=
  (s.serveNow x 0x1C ((s.ses x).eff == 1) (body.length == 4) (fun t => t.manifestCancelBody (num body 0 4))).done

/-- As many whole byte strings as fit in n bytes. -/
def fitting : Nat → List Bytes → List Bytes
  | _, [] => []
  | n, b :: l => if b.length ≤ n then b :: fitting (n - b.length) l else []

/-- MANIFEST_HISTORY: the records kept from a number on. -/
def State.manifestHistoryBytes (s : State) (first n : Nat) : Bytes :=
  let oldest := match s.ulog with
    | r :: _ => r.no
    | [] => s.uRecNo
  if s.uRecNo ≤ first then le 1 2 ++ le 1 0
  else if first < oldest then le 1 1 ++ le 1 0
  else
    let rs := fitting 4606 (((s.ulog.filter (fun r => first ≤ r.no)).take n).map URec.bytes)
    le 1 0 ++ le 1 rs.length ++ rs.flatten

def execManifestHistory (x : SessId) (body : Bytes) (s : State) : Host.Outcome State Fault Refusal :=
  let n := num body 8 1
  (s.serveRead x 0x1D true (body.length == 9 && 1 ≤ n && n ≤ 64) (fun t => t.manifestHistoryBytes (num body 0 8) n)).done

/-- MANIFEST_DISCARD empties a slot; a check in progress on it is answered as FORMAT (log 49). -/
def State.manifestDiscardBody (s : State) (k : Nat) : Bytes × State :=
  if s.slotBusy k then (le 1 13, s)
  else
    let waits := (s.manSlot k).checking
    let s1 := s.modMan k (fun _ => {})
    (le 1 0, if waits = [] then s1 else s1.checkEnds k (1, 0xFF) waits)

def execManifestDiscard (x : SessId) (body : Bytes) (s : State) : Host.Outcome State Fault Refusal :=
  (s.serveNow x 0x1E (s.ownerOrService x) (body.length == 1 && num body 0 1 < 4) (fun t => t.manifestDiscardBody (num body 0 1))).done

/-! ### Guarded activations (R255 to R263) -/

/-- The ports that the revert reaches while they are ABSENT become REVERT_PENDING (R262): after a reset, those whose hall runs with its
taps powered once the bring-up is over (log 99). -/
def State.revertReach (s : State) : State :=
  each (s.revertOpen.filter (fun p => (s.port p).upd.again && (s.port p).st == .absent && s.modState != .hallBringup &&
      (s.hall (hallOf p)).phase == .run && (s.hall (hallOf p)).galOn == 4)) (fun p t => t.modUpd p (fun u => { u with revertPend := true })) s

/-- The end of a drain (R256, R262): at DRAINING the revert copies are placed; at REVERTING the copies back start. -/
def State.drainDone (s : State) : State :=
  let a := s.act
  if !s.alive ∨ !a.opened ∨ a.kind ≠ 0 then s
  else if a.stage = 1 ∧ !a.saved then
    (if a.changed.all (fun p => (s.port p).drained && (s.port p).tree.resident) then
      { (each a.changed (fun p t => t.saveCopy p) s).modAct (fun y => { y with saved := true }) with
        barnQ := s.barnQ ++ [.revertCopies] }
    else s)
  else if a.stage = 5 then
    let s := s.revertReach
    let ps := s.revertOpen.filter (fun p => !(s.port p).upd.copying && !(s.port p).upd.copied && !(s.port p).upd.again)
    (if s.revertOpen = [] then s.revertDone
    else if ps.all (fun p => (s.port p).drained) then each ps (fun p t => t.startCopy p false) s
    else s)
  else s

def execActDrainDone (s : State) : Host.Outcome State Fault Refusal := s.drainDone.done

/-- The revert copies are durable: ACT_COPY, and every changed port enters VERIFYING with its copy (R257, R258); with no changed
port every later stage is complete at once. -/
def State.copyBegins (s : State) : State :=
  let a := s.act
  if s.alive && a.opened && a.kind == 0 && a.stage == 1 && a.saved && a.durable then
    let s1 := (s.ulogPut 0x42 (le 4 s.copiesSaved)).modAct (fun y => { y with stage := 2 })
    if a.changed = [] then s1.actCommit.actConfirmed else each a.changed (fun p t => t.startCopy p false) s1
  else s

def execActCopy (s : State) : Host.Outcome State Fault Refusal := s.copyBegins.done

def execConfirmWindowExpiry (p : PortId) (s : State) : Host.Outcome State Fault Refusal := (s.confirmExpires p).done

/-! ### Warden activations (R264 to R268, R274) -/

def wdnCmdOff : Nat := 0x6C

/-- A write to BRN_WDN_CMD that is not accepted: ignored, with an access error. -/
def State.wdnCmd (s : State) (key : BitVec 16) (ok : Bool) (act : State → State) : State :=
  if !s.alive then s
  else if key ≠ 0x7E81 then s.accErr pgBarn wdnCmdOff 4 .warden
  else if !ok then s.accErr pgBarn wdnCmdOff 5 .warden
  else act s

/-- The landing is the active one and runs. -/
def State.fromActive (s : State) (l : Landing) : Bool := landNum l == s.loft.active && s.loft.landing s.loft.active == 1
def State.fromStandby (s : State) (l : Landing) : Bool := landNum l != s.loft.active && s.loft.landing (landNum l) == 2

/-- The tree root of a byte string as of a staged image (R249). -/
def imageRoot (b : Bytes) : Bytes :=
  treeRoot ((groups 4096 (ceilDiv b.length 4096) b).zipIdx.map (fun x =>
    leafDigest x.2 (x.1 ++ List.replicate (4096 - x.1.length) 0xFF)))

/-- Step 1 of R266 ends: the slot holds what is read back from it, whose tree root is TREE_ROOT, or the activation is abandoned. -/
def State.slotWritten (s : State) (back : Bytes) : State :=
  let a := s.act
  let x := mPart a.man 0
  let resumed := !a.resume || s.modState == .serving
  if s.alive && a.opened && a.kind == 1 && a.stage == 6 && resumed then
    let s1 := { s with wslots := tabSet s.wslots a.newSlot back }
    if (s.findImage 2 (pImage x) (pVersion x)).isSome && back.length == pLength x && imageRoot back == pRoot x then
      (s1.wdnStep 0 s.loft.active a.newSlot).modAct (fun y => { y with stage := 7, resume := false })
    else s1.wdnAbandon 8
  else s

def execWdnSlotWritten (back : Bytes) (s : State) : Host.Outcome State Fault Refusal := (s.slotWritten back).done

/-- The boot ROM's load path on the slot written: its header with the signature, its code, and the version floor held in OTP (R265, R266
step 2). -/
def State.loadPathOk (s : State) : Bool := s.slotPasses s.act.newSlot

/-- LOAD_STANDBY: a failed check abandons the activation; else the standby landing leaves reset; READY must come within 10 s (R266 step 2). -/
def State.loadStandby (s : State) (l : Landing) (key : BitVec 16) : State :=
  let other := 1 - s.loft.active
  let ok := s.fromActive l && !s.retained.trial && s.act.opened && s.act.stage == 7 && s.loft.landing other == 0
  s.wdnCmd key ok (fun t => if t.loadPathOk then (t.modLoft (fun f => f.land other 2)).modAct (fun a => { a with
    readyDl := some (mkWin t.lnow 6000000000).dl, standbyReady := false }) else t.wdnAbandon 8)

def execLoadStandby (src : Landing) (key : BitVec 16) (s : State) : Host.Outcome State Fault Refusal := (s.loadStandby src key).done

/-- No READY within 10 s. -/
def State.readyTimeout (s : State) : State :=
  match s.act.readyDl with
  | some d => if s.alive && s.act.opened && s.act.stage == 7 then (s.toLoft (d + 1)).wdnAbandon 8 else s
  | none => s

/-- READY: the new warden runs in standby mode; after the deadline the time-out has come first (00 R7). -/
def State.standbyReadyCmd (s : State) (l : Landing) (key : BitVec 16) : State :=
  let s1 := match s.act.readyDl with
    | some d => if d < s.lnow then s.readyTimeout else s
    | none => s
  s1.wdnCmd key (s1.fromStandby l && s1.act.readyDl.isSome) (fun t =>
    (t.wdnStep 1 (landNum l) t.act.newSlot).modAct (fun a => { a with standbyReady := true, readyDl := none }))

def execReady (src : Landing) (key : BitVec 16) (s : State) : Host.Outcome State Fault Refusal := (s.standbyReadyCmd src key).done
def execStandbyReadyTimeout (s : State) : Host.Outcome State Fault Refusal := s.readyTimeout.done

/-- Steps 2 and 3 of Table 8.9, in the cycle after HAND_OVER; an expiry of the old landing's watchdog in that cycle takes
effect instead (12 R363). -/
def State.handOver (s : State) : State :=
  let old := s.loft.active
  let new := 1 - old
  let s1 := s.toLoft (s.lnow + 1)
  if s1.wwd.running && s1.wwd.start + s1.wwd.cycles ≤ s1.lnow then (s1.wdnAbandon 7).wwdFault 1
  else
    let s2 := s1.modLoft (fun l => { (l.land old 3).land new 1 with active := new })
    let s3 := (s2.modRet (fun r => r.putSlot (fun x => { x with trial := true, trialSlot := s.act.newSlot }))).setWarden s.act.newSlot
    let s4 := (s3.wdnStep 2 new s.act.newSlot).modAct (fun a => { a with
      stage := 8, parked := true, oldLanding := old, standbyReady := false,
      trialWin := some (mkWin s3.lnow (a.confS s3.defConf * 600000000)) })
    (s4.wwdStart).deliverNmi

def State.handOverCmd (s : State) (src : Landing) (key : BitVec 16) : State :=
  s.wdnCmd key (s.fromActive src && !s.retained.trial && s.act.opened && s.act.stage == 7 && s.act.standbyReady)
    (fun t => t.handOver)

def execHandOver (src : Landing) (key : BitVec 16) (s : State) : Host.Outcome State Fault Refusal := (s.handOverCmd src key).done

/-- The expiry of the trial window: a forced fallback in the next Loft cycle (R268). -/
def State.trialExpires (s : State) : State :=
  match s.act.trialWin with
  | some w => if s.alive && s.inTrial then (s.toLoft (w.dl + 1)).forcedFallback 4 else s
  | none => s

def execTrialWindowExpiry (s : State) : Host.Outcome State Fault Refusal := s.trialExpires.done

/-- A trial command after the window: the expiry has come first (00 R7). -/
def State.trialFirst (s : State) : State :=
  match s.act.trialWin with
  | some w => if w.dl < s.lnow then s.trialExpires else s
  | none => s

/-- CONFIRM in the trial (R268). -/
def State.wdnConfirmed (s : State) : State :=
  let (no, s1) := s.keepMan s.act.man
  let s2 := { s1 with wdnMan := no }.pruneKept
  let s3 := s2.modRet (fun r => { r.putSlot (fun x => { x with
    actSlot := x.trialSlot, actLanding := s.loft.active, otherOk := true, trial := false }) with serial := mSerial s.act.man })
  let s4 := (s3.modLoft (fun l => l.land s.act.oldLanding 0)).settleImages
  (s4.actEnd 1 0 0).modAct (fun a => { a with parked := false, fallback := false })

def State.confirmCmd (s : State) (src : Landing) (key : BitVec 16) : State :=
  let t := s.trialFirst
  t.wdnCmd key (t.fromActive src && t.retained.trial && t.inTrial) (fun u => u.wdnConfirmed)

def execConfirm (src : Landing) (key : BitVec 16) (s : State) : Host.Outcome State Fault Refusal := (s.confirmCmd src key).done

/-- HAND_BACK in the trial: the handover in reverse (R268). -/
def State.handBack (s : State) : State :=
  let new := s.loft.active
  let old := s.act.oldLanding
  let s1 := s.toLoft (s.lnow + 1)
  if s1.wwd.running && s1.wwd.start + s1.wwd.cycles ≤ s1.lnow then s1.wwdFault 1
  else
    let s2 := s1.modLoft (fun l => { (l.land new 0).land old 1 with active := old })
    let s3 := (s2.modRet (fun r => r.putSlot (fun x => { x with trial := false }))).setWarden s2.retained.actSlot
    let s4 := (s3.wdnStep 3 old s3.retained.actSlot).actEnd 2 5 0
    (s4.modAct (fun a => { a with parked := false })).wwdStart.deliverNmi

def State.handBackCmd (s : State) (src : Landing) (key : BitVec 16) : State :=
  let t := s.trialFirst
  t.wdnCmd key (t.fromActive src && t.retained.trial && t.inTrial) (fun u => u.handBack)

def execHandBack (src : Landing) (key : BitVec 16) (s : State) : Host.Outcome State Fault Refusal := (s.handBackCmd src key).done

/-- A write to BRN_WDN_CMD from a landing: the command of its CMD field; a code that names none is ignored and records an access
error (R274). -/
def State.wdnCmdWrite (s : State) (src : Landing) (v : Nat) : State :=
  let key := BitVec.ofNat 16 (v / 65536)
  match v % 16 with
  | 1 => s.loadStandby src key
  | 2 => s.handOverCmd src key
  | 3 => s.confirmCmd src key
  | 4 => s.handBackCmd src key
  | 5 => s.standbyReadyCmd src key
  | _ => s.wdnCmd key false (fun t => t)

end Sys2Proof.Machine
end

