-- ==== Sys2Proof/Machine/Keys.lean ====
section
/-! DEFINITION. Key operations, the epoch roll, attestation and the granary's commands (09 R289 to R303). -/

namespace Sys2Proof.Machine

/-! ### KEY_OP (R290 to R297, R300) -/

/-- A KEY_OP request of one operation (Table 9.10): the Owner's, with a key of the length it states. -/
def State.keyOp (s : State) (x op : Nat) (b : Bytes) (act : Nat → State → Option Bytes × State) : State :=
  if num b 0 1 = op then
    s.serve x 0x23 ((s.ses x).eff == 1) (10 ≤ b.length && b.length == 10 + num b 8 2 && (num b 2 2 < 1024 || op ≤ 3)) act
  else s

def koSlot (b : Bytes) : Nat := num b 1 1
def koPort (b : Bytes) : Nat := num b 2 2
def koKey (b : Bytes) : Bytes := b.drop 10

/-- A KEY_OP that completes or fails at once. -/
def State.keyOpNow (s : State) (code : Nat) (act : State → State) (stale : Bool := false) : Option Bytes × State :=
  if code = 0 then (let t := act s; (some (t.keyResp 0 stale), t)) else (some (s.keyResp code), s)

/-- The result of a SET (R300, 14 R422). -/
def State.setCode (s : State) (b : Bytes) : Nat :=
  let k := koSlot b
  let n := (koKey b).length
  let iter := num (koKey b) 16 4
  if s.keyOpBar ≠ 0 then s.keyOpBar
  else if k < 7 ∨ 11 < k then 5
  else if num b 4 4 ≠ 0 then 4
  else if k = 7 then (if 32 ≤ n ∧ n ≤ 48 then 0 else 9)
  else if k ≤ 9 then (if n = 32 then 0 else 9)
  else if n = 68 ∧ 100000 ≤ iter ∧ iter ≤ 10000000 then 0 else 9

/-- ALG and usage bits of the slots that the Owner sets. -/
def ownerAttr (k : Nat) : Nat × Nat := if k = 7 then (2, 4) else (12, 1)

/-- A slot of the key store takes its slot's content, or loses it. -/
def State.store (s : State) (k : Nat) : State :=
  let v := s.slot k
  { s with kstore := if v.alg ≠ 0 ∧ v.persist then tabSet s.kstore k v else tabDel s.kstore k }

/-- SET: PREPARE, the slot takes the key, COMMIT. -/
def State.setKey (s : State) (k : Nat) (key : Bytes) : State :=
  let a := ownerAttr k
  let attr := ({ alg := a.1, usage := a.2, persist := true, fixed := true } : KeySlot).attr
  let s1 := s.prepare 1 k 0xFFFF attr 0 key
  ((s1.fillSlot k a.1 a.2 true true 0xFF key).store k).commitOp 1

def execSet (x : SessId) (body : Bytes) (s : State) : Host.Outcome State Fault Refusal :=
  (s.keyOp x 1 body (fun _ t => t.keyOpNow (t.setCode body) (fun u => u.setKey (koSlot body) (koKey body))
    (isAncestor t.gran.slots (koSlot body) keySlots (17 + 2 * x)))).done

def State.clearCode (s : State) (b : Bytes) : Nat :=
  let k := koSlot b
  if s.keyOpBar ≠ 0 then s.keyOpBar else if k = 7 ∨ k = 9 ∨ k = 10 ∨ k = 11 then 0 else 5

def State.clearKey (s : State) (k : Nat) : State :=
  let s1 := s.prepare 2 k 0xFFFF (s.slot k).attr 0 []
  ((s1.clearSlot k).store k).commitOp 2

def execClear (x : SessId) (body : Bytes) (s : State) : Host.Outcome State Fault Refusal :=
  (s.keyOp x 2 body (fun _ t => t.keyOpNow (t.clearCode body) (fun u => u.clearKey (koSlot body))
    (isAncestor t.gran.slots (koSlot body) keySlots (17 + 2 * x)))).done

/-- EPOCH_ROLL (R296): PREPARE, then the burn of the lowest clear bit; the answer follows the CERT record
(Table 9.7 step 8), or the start of the next roll. -/
def State.epochRoll (s : State) (x seq : Nat) : Option Bytes × State :=
  if s.keyOpBar ≠ 0 then (some (s.keyResp s.keyOpBar), s)
  else if s.otp.locked 15 then (some (s.keyResp 8), s)
  else match s.otp.nextEpochBit with
    | none => (some (s.keyResp 7), s)
    | some i =>
      let s0 := match s.gran.rollTo with
        | some (y, n) => s.respond y n (s.keyResp 0)
        | none => s
      let s1 := (s0.prepare 3 0 0xFFFF 0 0 []).modGran (fun g => { g with opOpen := some 3, burnBit := i, rollTo := some (x, seq) })
      (none, { s1 with kOpen := some s.epoch })

def execEpochRoll (x : SessId) (body : Bytes) (s : State) : Host.Outcome State Fault Refusal :=
  (s.keyOp x 3 body (fun seq t => t.epochRoll x seq)).done

/-- Every epoch-key user sees the new epoch: the twin row's shadow takes the bit (11 R338). -/
def Otp.reread (o : Otp) (r : Nat) : Otp := { o with shadow := tabSet o.shadow r (o.classify r) }

/-- A code other than OK that the spec does not name (log 48). -/
def State.freeCode (s : State) : Nat × State := (1 + Config.freeNat s.freeCtr % 9, { s with freeCtr := s.freeCtr + 1 })

/-- Step 6 of Table 6.3, by which the journal buffer has been flushed, is past: no record is placed any more (R296). -/
def State.pastFlush (s : State) : Bool :=
  match s.shutter with
  | some x => s.modState == .shutter && x.w0 + 36000000 < s.lnow
  | none => false

/-- The burn of an epoch roll ends (R296, R297): COMMIT and the derivation of the new epoch, or ABORT. -/
def State.epochBurned (s : State) (ok : Bool) : State :=
  if !s.alive ∨ s.kOpen.isNone ∨ s.gran.opOpen ≠ some 3 ∨ s.otp.run.isSome then s
  else
    let i := s.gran.burnBit
    if s.pastFlush then s.modOtp (fun o => if ok then (o.burnEpoch i true true).reread (174 + i / 20) else o)
    else if ok then
      (s.modOtp (fun o => (o.burnEpoch i true true).reread (174 + i / 20))).rollCommit false
    else
      let s0 := s.epochCut
      let (code, s1) := s0.freeCode
      let s2 := ({ s1 with kOpen := none }.abortOp 3 code).raise pgOtp 6
      let s3 := match s2.gran.rollTo with
        | some (x, seq) => s2.respond x seq (s2.keyResp code)
        | none => s2
      s3.modGran (fun g => { g with rollTo := none })

def execEpochBurnDone (ok : Bool) (s : State) : Host.Outcome State Fault Refusal := (s.epochBurned ok).done

/-- TAP_SET: the new secret becomes PENDING (R290). -/
def State.tapSetKey (s : State) (p : Nat) (key : Bytes) : State :=
  let s1 := s.prepare 4 0 p 0 0 key
  ((s1.modKey p (fun k => { k with pending := some key })).pksSync p).commitOp 4

def State.tapSetCode (s : State) (b : Bytes) : Nat :=
  if s.keyOpBar ≠ 0 then s.keyOpBar else if (koKey b).length ≠ 32 then 9 else 0

def execTapSet (x : SessId) (body : Bytes) (s : State) : Host.Outcome State Fault Refusal :=
  (s.keyOp x 4 body (fun _ t => t.keyOpNow (t.tapSetCode body) (fun u => u.tapSetKey (koPort body) (koKey body)))).done

/-- TAP_PROMOTE of a port without a PENDING secret returns STATE (R291). -/
def State.promoteCode (s : State) (p : Nat) : Nat :=
  if s.keyOpBar ≠ 0 then s.keyOpBar else if (s.port p).key.pending.isNone then 8 else 0

/-- The promotion that the Loft starts after a PENDING match: now, or after the open operation (R291). -/
def State.loftPromote (s : State) (p : Nat) : State :=
  let v := s.port p
  if !s.alive ∨ !v.link.newMatch then s
  else if s.keyOpBar ≠ 0 ∨ v.key.pending.isNone then s.askPromote p
  else s.promote p

def State.hostPromote (s : State) (x : SessId) (b : Bytes) : State :=
  s.keyOp x 5 b (fun _ t => t.keyOpNow (t.promoteCode (koPort b)) (fun u => u.promote (koPort b)))

def execTapPromote (src : PromoteSrc) (s : State) : Host.Outcome State Fault Refusal :=
  (match src with
    | .host x b => s.hostPromote x b
    | .loft p => s.loftPromote p).done

/-- TAP_CLEAR removes both secrets. -/
def State.tapClearKey (s : State) (p : Nat) : State :=
  let s1 := s.prepare 6 0 p 0 0 []
  ((s1.modKey p (fun k => { k with current := none, pending := none })).pksSync p).commitOp 6

def execTapClear (x : SessId) (body : Bytes) (s : State) : Host.Outcome State Fault Refusal :=
  (s.keyOp x 6 body (fun _ t => t.keyOpNow t.keyOpBar (fun u => u.tapClearKey (koPort body)))).done

/-! ### Attestation (R299, R300) -/

def attOk (b : Bytes) : Bool := b.length == 35
def attFirst (b : Bytes) : Nat := num b 32 2
def attN (b : Bytes) : Nat := num b 34 1
/-- A count above 60, or ports beyond the last, are answered LENGTH. -/
def attRange (b : Bytes) : Bool := attN b ≤ 60 && attFirst b + attN b ≤ 1024

def attAnswer (report auth : Bytes) : Bytes := le 1 0 ++ le 1 0 ++ le 2 report.length ++ report ++ auth

/-- A request answered with a code (R303). -/
def State.attFail (s : State) (code : Nat) : Bytes × State := (le 1 code ++ zeros 3, s.attRefused)

def State.attestBody (s : State) (b : Bytes) : Bytes × State :=
  if !attRange b then s.attFail 9
  else if !s.att.hmacEn then s.attFail 5
  else
    let (c, s1) := s.useKey 7 .mac true
    if c ≠ 0 then s1.attFail c
    else
      let r := s1.report9 0x30 (b.take 32) (attFirst b) (attN b)
      (attAnswer r (hmacSha384 (s1.slot 7).key r), { s1 with att := { s1.att with made := satAdd 16 s1.att.made 1 } })

def execAttest (x : SessId) (body : Bytes) (s : State) : Host.Outcome State Fault Refusal :=
  (s.serveNow x 0x20 true (attOk body) (fun t => t.attestBody body)).done

/-- QUOTE: the report is assembled and its signature job queued in the QUOTE class; without room there, BUSY. Before the
certificate of the epoch it is KEY_STALE (R298); while QUOTE is derived again its use fails so at the grant (R297). -/
def State.quoteBody (s : State) (x seq : Nat) (b : Bytes) : Option Bytes × State :=
  let fail := fun (c : Nat) => (let r := s.attFail c; (some r.1, r.2))
  if !attRange b then fail 9
  else if !s.att.quoteEn then fail 5
  else if (tabFind s.certs s.epoch).isNone && !(s.slot 6).rederiv then fail 2
  else if 32 ≤ s.queued 4 then fail 6
  else
    let r := s.report9 0x31 (b.take 32) (attFirst b) (attN b)
    (none, s.queueJob (signJob 4 (.quote x seq r) 6 r))

def execQuote (x : SessId) (body : Bytes) (s : State) : Host.Outcome State Fault Refusal :=
  (s.serve x 0x21 true (attOk body) (fun seq t => t.quoteBody x seq body)).done

/-- The signature job of a quote ended, with a use code or a signature. -/
def State.quoteDone (s : State) (x seq : Nat) (report sig : Bytes) (code : Nat) : State :=
  if code ≠ 0 then (let r := s.attFail code; r.2.respond x seq r.1)
  else { s with att := { s.att with quotes := satAdd 16 s.att.quotes 1 } }.respond x seq (attAnswer report sig)

/-- The DEVID public key, which never changes (R282). -/
def State.devidPublic (s : State) : Bytes := p384.encode (p384.mul 1 (beNat (s.slot 3).key) p384.gen)

/-- KEY_PUBLIC: the DEVID public key and the certificate of an epoch. -/
def State.keyPublicBody (s : State) (b : Bytes) : Bytes × State :=
  let e := if num b 0 4 = 0xFFFFFFFF then s.epoch else num b 0 4
  match tabFind s.certs e with
  | some c => (le 1 0 ++ s.devidPublic ++ c, s)
  | none => s.failBody 1 425

def execKeyPublic (x : SessId) (body : Bytes) (s : State) : Host.Outcome State Fault Refusal :=
  (s.serveNow x 0x22 true (body.length == 4) (fun t => t.keyPublicBody body)).done

/-! ### Granary commands of the warden (R289, R302) -/

def grnSel (s : State) (r : Requester) : Nat := s.getSel pgGran 0x048 r % 256
def State.grnResult (s : State) (c : Nat) : State := s.modGran (fun g => { g with opRes := c })

/-- A GRN_OP command: slots 32 to 255 only. -/
def State.grnSlotOp (s : State) (r : Requester) (act : Nat → State → State) : State :=
  if grnSel s r < 32 then s.grnResult 5 else act (grnSel s r) s

def State.grnOp (s : State) (r : Requester) (act : Nat → State → State) : State :=
  s.access17 pgGran 0x05C r (fun t => t.grnSlotOp r act)

/-- A persistent slot changes only by a key operation (R293): its bar, 0 when there is none. -/
def State.slotBar (s : State) (k : Nat) (persist : Bool) : Nat := if (s.slot k).persist || persist then s.keyOpBar else 0

def State.grnClearSlot (s : State) (k : Nat) : State :=
  let c := s.slotBar k false
  if c ≠ 0 then s.grnResult c
  else if (s.slot k).persist then (s.clearKey k).grnResult 0
  else (s.clearSlot k).grnResult 0

def execGrnClear (r : Requester) (s : State) : Host.Outcome State Fault Refusal := (s.grnOp r (fun k t => t.grnClearSlot k)).done

/-- A persistent WARDEN slot takes new content by a key operation of OP SET (R293); any other slot takes it at once. -/
def State.changeSlot (s : State) (k : Nat) (v : KeySlot) : State :=
  if v.persist then
    let s1 := s.prepare 1 k 0xFFFF v.attr v.limit v.key
    ((s1.setSlot k v).store k).commitOp 1
  else s.setSlot k v

/-- INVALIDATE sets STALE (R287). -/
def State.invalidateSlot (s : State) (k : Nat) : State :=
  let c := s.slotBar k false
  if c ≠ 0 then s.grnResult c
  else ((s.invalidated k).changeSlot k { s.slot k with stale := true }).grnResult 0

def execInvalidate (r : Requester) (s : State) : Host.Outcome State Fault Refusal := (s.grnOp r (fun k t => t.invalidateSlot k)).done

/-- The bits that a DERIVE takes for an algorithm (R302). -/
def deriveLen (alg : Nat) : Option Nat :=
  if alg = 1 ∨ alg = 3 ∨ alg = 4 ∨ alg = 7 ∨ alg = 9 then some 256
  else if alg = 2 then some 384 else if alg = 5 then some 448 else none

/-- DERIVE (R302): KDF(PARENT, "SKW-OEM", MODULE_ID ‖ GRN_OP_CTX). -/
def State.deriveSlot (s : State) (k v : Nat) : State :=
  let parent := bits v 15 8
  let alg := bits v 19 16
  let usage := bits v 25 20
  let persist := bit v 26
  match deriveLen alg with
  | none => s.grnResult 4
  | some l =>
    let bar := s.slotBar k persist
    if bar ≠ 0 then s.grnResult bar
    else
      let (c, s1) := s.useKey parent .derive false
      if c ≠ 0 then s1.grnResult c
      else
        let raw := kdf (s1.slot parent).key "SKW-OEM" (s1.moduleId ++ le 4 s1.gran.opCtx) l
        let key := if alg = 5 then p384scalar raw else raw
        let op := (s1.slot k).persist || persist
        let attr := ({ alg := alg, usage := usage, persist := persist, parent := parent } : KeySlot).attr
        let s2 := s1.when op (fun t => t.prepare 1 k 0xFFFF attr 0 key)
        let s3 := s2.fillSlot k alg usage persist false parent key
        (if op then (s3.store k).commitOp 1 else s3).grnResult 0

def execDerive (r : Requester) (v : Word) (s : State) : Host.Outcome State Fault Refusal :=
  (s.grnOp r (fun k t => t.deriveSlot k v.toNat)).done

/-- GRN_LIMIT: the use limit of a WARDEN slot (R289); written to another slot it has no effect. -/
def State.setLimit (s : State) (k v : Nat) : State :=
  if k < 32 then s
  else if s.slotBar k false ≠ 0 then s.grnResult (s.slotBar k false)
  else s.changeSlot k { s.slot k with limit := v }

def execGrnLimitWrite (r : Requester) (v : Word) (s : State) : Host.Outcome State Fault Refusal :=
  (s.access17rw pgGran 0x058 v.toNat r (fun t => t.setLimit (grnSel t r) v.toNat)).done

end Sys2Proof.Machine
end

