-- ==== Sys2Proof/Machine/Pke.lean ====
section
/-! DEFINITION. The commands of the public-key engines: submission, abort, grant, completion, tests (10 R310 to R330). -/

namespace Sys2Proof.Machine

/-! ### Submission (R313, R329) -/

/-- PKE_SUB_RESULT of a page. -/
def State.subResult (s : State) (e code : Nat) : State := s.modEng e (fun g => { g with subRes := code })

/-- SUBMIT of the descriptor at PKE_SUB_ADDR: refused DESC_INVALID, DISABLED or FULL, or queued in the UPDATE class. -/
def State.submitDesc (s : State) (e : Nat) (pin : Bool) (b block : Bytes) : State :=
  let d := (b ++ zeros 64).take 64
  let g := s.eng e
  if descBad d then s.subResult e 2
  else if pin && !g.enable then s.subResult e 5
  else if 64 ≤ s.queued 3 then (s.subResult e 1).modEng e (fun y => { y with wantRoom := true })
  else
    let j := descJob d g.subAddr (if pin then some e else none) block
    ((s.queueJob j).subResult e 0)

def execSubmit (r : Requester) (e : EngineId) (pin : Bool) (d : PkeSubmission) (s : State) : Host.Outcome State Fault Refusal :=
  (s.access17 (pgPke e.val) 0x054 r (fun t => t.submitDesc e.val pin d.desc d.block)).done

/-! ### Results to the requesters -/

/-- A sheaf that could not be signed: its records wait for the next sheaf (07 R237, log 52). -/
def State.sheafLost (s : State) (t : Nat) : State :=
  let x := s.tr t
  let s1 := s.modTr t (fun y => { y with job := false, wants := [], firstAt := some s.lnow })
  match x.wants with
  | k :: _ => s1.queueSheaf t k
  | [] => s1

/-- A sheaf is signed; after a recovery sheaf the chain opens (07 R240). -/
def State.sheafSigned (s : State) (t : Nat) (sig : Bytes) : State :=
  let rec_ := (s.tr t).recovering
  let s1 := s.sheafDone t sig
  if rec_ then
    let s2 := s1.modTr t (fun x => { x with recovered := true })
    (s2.when ((s2.tr t).blk.enabled && !(s2.tr t).opened && s2.modState != .shutter) (fun u => u.openChain t 2)).raise 0x1F 3
  else s1

/-- A CERT record is placed (09 R297, R298): the certificate of the current epoch ends REDERIVING and answers the roll. -/
def State.certDone (s : State) (body sig : Bytes) : State :=
  let e := num body 4 4
  let cert := body ++ sig
  let s1 := { s.kput 0x65 [{ plain := cert }] with certs := tabSet s.certs e cert }
  if e ≠ s.epoch then s1
  else
    let s2 := (s1.setSlot 5 { s1.slot 5 with rederiv := false }).setSlot 6 { s1.slot 6 with rederiv := false }
    let s3 := match s2.gran.rollTo with
      | some (x, seq) => s2.respond x seq (s2.keyResp 0)
      | none => s2
    s3.modGran (fun g => { g with rolling := false, rollTo := none })

/-- The last result of a job of the Loft's own functions reaches them. -/
def State.ownResult (s : State) (tag : JobTag) (res : Nat) (out : Bytes) : State :=
  let ok := res = 0
  match tag with
  | .sheaf t => if ok then s.sheafSigned t out else s.sheafLost t
  | .boot man => s.bootResult man ok
  | .manifest k => s.manifestSigDone k ok
  | .header k => s.headerSigDone k ok
  | .quote x seq r =>
    (if ok then s.quoteDone x seq r out 0
     else if res ≤ 9 then s.quoteDone x seq r [] res
     else (let c := s.freeCode; c.2.quoteDone x seq r [] c.1))
  | .keygen k => if ok then s.modGran (fun g => { g with pubs := tabSet g.pubs k out, fresh := k :: g.fresh }) else s
  | .cert body => if ok then s.certDone body out else s
  | .sesKey x => s.sesKeyDone x ok out
  | .sesEcdh x => s.sendChallenge x ok
  | .warden _ => s
  | .enrol p => s.enrolSig p ok

/-! ### Grant (R314, R315, R317, R326) -/

/-- The granary's own KEYGEN of a fixed key's public half runs while the slot is derived again (09 R297, log 53). -/
def State.keyAdmit (s : State) (j : PkeJob) : Nat × State :=
  if j.keySlot = 0xFF then (0, s)
  else match j.tag with
    | .keygen k => (0, s.countUse k)
    | _ =>
      let alg := if j.cmd = 3 ∨ j.cmd = 1 ∨ j.cmd = 4 then some j.alg else none
      s.useKey j.keySlot j.use j.own alg

/-- Admission of a job: a DEST_SLOT that holds a persistent key changes only by a key operation, which must be able to start (09 R293). -/
def State.jobAdmit (s : State) (j : PkeJob) : Nat × State :=
  if (s.slot j.dest).persist && s.keyOpBar ≠ 0 then (s.keyOpBar, s) else s.keyAdmit j

/-- A sheaf names the epoch of the key that signs it (09 R297): its digest is taken with it. -/
def State.sheafEpoch (s : State) (j : PkeJob) : State × PkeJob :=
  match j.tag with
  | .sheaf t =>
    let s1 := s.modTr t (fun x => { x with jobBytes := x.jobBytes.take 144 ++ le 4 s.epoch ++ x.jobBytes.drop 148 })
    (s1, { j with ins := [sha384 (s1.tr t).jobBytes] })
  | _ => (s, j)

/-- A job that fails admission ends at once; a sheaf whose key is stale is queued again (09 R297). -/
def State.notAdmitted (s : State) (e : Nat) (j : PkeJob) (code : Nat) : State :=
  match j.tag with
  | .warden _ => (s.writeDesc j code 0xFF false).when j.irq (fun t => t.irq (pgPke e) 0)
  | .sheaf t => if code = 2 then s.queueJob j else s.sheafLost t
  | tag => s.ownResult tag code []

/-- LOAD: the key and the inputs enter the operand memory, random values are drawn, and the lengths of the phases stand. -/
def State.pkeLoad (s : State) (e : Nat) (j : PkeJob) : State :=
  let key := if j.keySlot = 0xFF then [] else (s.slot j.keySlot).key
  let g := { s.eng e with
    job := some j, grantAt := s.lnow, stale := false, released := none, mem := j.memory key, keyLen := key.length, seed := s.freeCtr,
    load := j.loadLen, rel := j.relLen, jobs := satAdd 32 (s.eng e).jobs 1 }
  let n := j.compLen (g.outcome j).tried
  { s with freeCtr := s.freeCtr + 1 }.modEng e (fun _ => { g with comp := n - j.chkLen n, chk := j.chkLen n })

/-- The first cycle in which a job's key can be admitted (09 R285). -/
def State.admitAt (s : State) (j : PkeJob) : State := if j.keySlot = 0xFF then s else s.toLoft s.gran.nextUse

/-- Engine e takes the next job of the arbiter; after a job that is not admitted it may take another in the next cycle. -/
def State.grant (s : State) (e : Nat) : State :=
  match s.nextJob e with
  | some (i, j) =>
    let (c, s1) := ((s.admitAt j).dequeue i).jobAdmit j
    if c ≠ 0 then (s1.modEng e (fun g => { g with freeAt := s1.lnow + 1 })).notAdmitted e j c
    else
      let (s2, j2) := s1.sheafEpoch j
      s2.pkeLoad e j2
  | none => s

/-- Engine e may take a job now. -/
def State.engReady (s : State) (e : Nat) : Bool := (s.eng e).free && (s.eng e).freeAt ≤ s.lnow && (s.nextJob e).isSome

/-- The grant of engine e, with those of lower-numbered engines that could grant in the same cycle before it (R314). -/
def State.grantTurn (s : State) (e : Nat) : State :=
  let s0 := s.toLoft (s.eng e).freeAt
  let s1 := each (List.range e) (fun k t => t.when (t.engReady k) (fun u => u.grant k)) s0
  s1.when (s1.engReady e) (fun u => u.grant e)

def execPkeGrant (e : EngineId) (s : State) : Host.Outcome State Fault Refusal :=
  (s.when (s.alive && (s.eng e.val).free && (s.nextJob e.val).isSome) (fun t => t.grantTurn e.val)).done

/-! ### Completion (R315 to R322, R325) -/

/-- WIPE has ended: nothing of the job is left, and the engine is free in the following cycle; its busy time counts. -/
def State.engineDone (s : State) (e : Nat) : State :=
  s.modEng e (fun g => { g with
    job := none, zeroing := none, stale := false, mem := [], seed := 0, keyLen := 0, released := none, freeAt := s.lnow + 1,
    busy := g.busy + (s.lnow - g.grantAt) })

/-- A result reaches its requester; a hardware requester repeats a FAULT once on another engine (R318). -/
def State.deliver (s : State) (e : Nat) (j : PkeJob) (res : Nat) (out : Bytes) (stale : Bool) : State :=
  if j.own then
    (if res = 21 ∧ j.avoid.isNone then s.queueJob { j with avoid := some e } else s.ownResult j.tag res out)
  else (s.writeDesc j res e stale).when j.irq (fun t => t.irq (pgPke e) 0)

/-- The result of a job that ends after WIPE. -/
def Engine.result (g : Engine) (j : PkeJob) : Nat :=
  let c := (g.outcome j).code
  if c = 0 ∧ g.released ≠ some true then 21 else c

/-- RESULT, ENGINE and DONE in the cycle after WIPE. -/
def State.pkeEnds (s : State) (e : Nat) : State :=
  let g := s.eng e
  match g.job with
  | none => s
  | some j =>
    let res := g.result j
    let s1 := (s.engineDone e).when (res == 21) (fun t => t.modEng e (fun y => { y with faults := satAdd 16 y.faults 1 }))
    s1.deliver e j res (if res = 0 then (g.outcome j).outs.flatten else []) g.stale

/-- The job on an engine runs to its end: the clock moves to RELEASE, or to the end of VALIDATE when that failed, then past WIPE. f: the
hardware faults met on the way. -/
def State.pkeJobDone (s : State) (e : Nat) (f : PkeFault) : State :=
  let g := s.eng e
  match g.job with
  | none => s
  | some j =>
    if f.opmemUnc && g.released.isNone then s.opmemUnc e false (s.hdr (pgPke e)).injDry
    else
      let s1 := (s.toLoft (if (g.outcome j).invalid then g.validated j else g.releaseAt j)).when g.released.isNone (fun t => t.opmemRead e)
      if (s1.eng e).zeroing.isSome then s1
      else
        let s2 := s1.pkeCheck e f.checkFault
        (s2.toLoft ((s2.eng e).doneAt j)).pkeEnds e

def execPkeJobDone (e : EngineId) (f : PkeFault) (s : State) : Host.Outcome State Fault Refusal :=
  (s.when (s.alive && (s.eng e.val).zeroing.isNone) (fun t => t.pkeJobDone e.val f)).done

/-! ### Abort (R323) -/

/-- A grant of the present cycle is taken back: the job never ran and no use is counted (R323). -/
def State.ungrant (s : State) (e : Nat) (j : PkeJob) : State :=
  let s1 := s.modEng e (fun g => { g with job := none, mem := [], seed := 0, keyLen := 0, jobs := g.jobs - 1 })
  if j.keySlot = 0xFF then s1 else s1.setSlot j.keySlot { s1.slot j.keySlot with uses := (s1.slot j.keySlot).uses - 1 }

/-- The engine that runs the warden's job at an address. -/
def State.runningAt (s : State) (addr : Nat) : Option (Nat × PkeJob) :=
  (List.range 8).findSome? (fun e => match (s.eng e).job with
    | some j => if j.tag = .warden addr then some (e, j) else none
    | none => none)

/-- ABORT of the warden's job at PKE_SUB_ADDR, by the phase that the job is in; a job whose DONE has come is no longer found. -/
def State.abortAt (s : State) (e : Nat) : State :=
  let addr := (s.eng e).subAddr
  match s.pkeQ.findIdx? (fun j => j.tag == .warden addr), s.runningAt addr with
  | some i, _ =>
    match s.pkeQ[i]? with
    | some j => (((s.dequeue i).writeDesc j 22 0xFF false).subResult e 0)
    | none => s
  | none, some (g, j) =>
    let v := s.eng g
    if v.zeroing.isSome then s.subResult e 4
    else if v.grantAt = s.lnow then ((s.ungrant g j).writeDesc j 22 0xFF false).subResult e 0
    else if v.doneAt j ≤ s.lnow then (s.pkeJobDone g ⟨false, false⟩).subResult e 3
    else if v.phase s.lnow ≤ 4 then (s.abortEngine g 22).subResult e 0
    else s.subResult e 4
  | none, none => s.subResult e 3

def execAbort (r : Requester) (e : EngineId) (s : State) : Host.Outcome State Fault Refusal :=
  (s.access17 (pgPke e.val) 0x054 r (fun t => t.abortAt e.val)).done

/-- After the zeroing of a block reset the engine is tested (13 Table 13.9, R328). -/
def State.testAfterReset (s : State) (e : Nat) : State :=
  s.when (s.engineInReset e) (fun t => t.modEng e (fun y => { y with kat := true, katDone := false }))

/-- The zeroing of an aborted job ends (R323): ABORTED or FAULT is written. -/
def State.abortZeroed (s : State) (e : Nat) : State :=
  let g := s.eng e
  match g.zeroing, g.job with
  | some (res, _), some j =>
    let s1 := (s.engineDone e).modEng e (fun y =>
      if res = 22 then { y with aborted := satAdd 16 y.aborted 1 } else { y with faults := satAdd 16 y.faults 1 })
    (if j.own ∧ res ≠ 21 then s1 else s1.deliver e j res [] g.stale).testAfterReset e
  | some _, none => (s.modEng e (fun y => { y with zeroing := none })).testAfterReset e
  | none, _ => s

def execPkeAbortZeroed (e : EngineId) (s : State) : Host.Outcome State Fault Refusal :=
  (s.when s.alive (fun t => t.abortZeroed e.val)).done

/-- 65,536 cycles without progress (R321): the job ends FAULT, its memory is zeroed. -/
def State.stall (s : State) (e : Nat) : State :=
  let g := s.eng e
  if s.alive && g.job.isSome && g.zeroing.isNone then
    ((s.toLoft (g.grantAt + 65536)).raise (pgPke e) 3).abortEngine e 21
  else s

def execPkeStallTimeout (e : EngineId) (s : State) : Host.Outcome State Fault Refusal := (s.stall e.val).done

/-! ### Known-answer tests and ENABLE (R327, R328) -/

/-- KAT_RUN tests an idle engine in SERVING. -/
def State.katStart (s : State) (e : Nat) : State :=
  let g := s.eng e
  if s.modState = .serving ∧ g.job.isNone ∧ g.zeroing.isNone ∧ g.kat = false then
    s.modEng e (fun y => { y with kat := true, katDone := false })
  else s

def execKatRun (r : Requester) (e : EngineId) (s : State) : Host.Outcome State Fault Refusal :=
  (s.access17b (pgPke e.val) 0x040 2 r (fun t => t.katStart e.val)).done

def execPkeKatDone (e : EngineId) (pass : Bool) (s : State) : Host.Outcome State Fault Refusal :=
  (s.when (s.alive && (s.eng e.val).kat) (fun t => t.katResult e.val pass)).done

/-- ENABLE: a running job completes, queued PINNED jobs end DROPPED. -/
def State.enableWrite (s : State) (e : Nat) (v : Bool) : State :=
  let s1 := s.modEng e (fun g => { g with enable := v })
  if v then s1 else s1.dropPinned e

def execPkeEnableWrite (r : Requester) (e : EngineId) (v : Bool) (s : State) : Host.Outcome State Fault Refusal :=
  (s.access17b (pgPke e.val) 0x040 1 r (fun t =>
    if t.frozen (pgPke e.val) 0x040 (b2n v) then t.accErr (pgPke e.val) 0x040 2 r else t.enableWrite e.val v)).done

end Sys2Proof.Machine
end

