-- ==== Sys2Proof/Machine/OtpCmd.lean ====
section
/-! DEFINITION. The commands of the one-time-programmable memory (11 R339 to R343). -/

namespace Sys2Proof.Machine

/-- A command written to OTP_CMD with its target and data (Table 11.4). -/
def State.otpKeyed (s : State) (cmd key : Nat) (accept : Bool) : State :=
  s.otpStart key { cmd := cmd, row := s.otp.row, reg := s.otp.region, data := s.otp.wdata } accept

def State.otpCmd (s : State) (r : Requester) (cmd : Nat) (key : BitVec 16) (accept : Bool) : State :=
  s.access17 pgOtp 0x044 r (fun t => t.otpKeyed cmd key.toNat accept)

def execProgram (r : Requester) (key : BitVec 16) (s : State) : Host.Outcome State Fault Refusal := (s.otpCmd r 1 key false).done
def execProgramTwin (r : Requester) (key : BitVec 16) (s : State) : Host.Outcome State Fault Refusal := (s.otpCmd r 2 key false).done
def execLock (r : Requester) (key : BitVec 16) (acceptIncomplete : Bool) (s : State) : Host.Outcome State Fault Refusal :=
  (s.otpCmd r 3 key acceptIncomplete).done
def execRepulse (r : Requester) (key : BitVec 16) (s : State) : Host.Outcome State Fault Refusal := (s.otpCmd r 4 key false).done
def execMarginRead (r : Requester) (key : BitVec 16) (s : State) : Host.Outcome State Fault Refusal := (s.otpCmd r 5 key false).done

/-- The sessions hold the access that the OTP bits now give them; reopened access stays (14 R437). -/
def State.accessAgain (s : State) : State :=
  each (allSes.filter (fun x => (s.ses x).st == 2)) (fun x t => t.modSes x (fun v => t.access x v)) s

/-- SVC_CLOSE is answered with the OTP result (14 R437). -/
def State.svcCloseAnswer (s : State) (x seq : Nat) (mask : Nat) : State :=
  (s.when (s.otp.result == 0 && mask != 0) (fun t => t.raise pgSvc 2)).respond x seq (le 1 s.otp.result)

/-- The running command ends: array, shadow, result; a closed access takes effect, and a SVC_CLOSE request is answered. -/
def State.otpEnds (s : State) (o : OtpOutcome) : State :=
  match s.otp.run with
  | none => s
  | some c =>
    let free := Config.freeNat s.freeCtr % 2 = 1
    let s1 := { s with otp := s.otp.finish c o free, freeCtr := s.freeCtr + 1 }
    let s2 := s1.when (s1.otp.result == 7) (fun t => t.raise pgOtp 6)
    let s3 := s2.when (c.cmd == 2 && c.row == 173 && s2.otp.result == 0) (fun t => t.accessAgain)
    match c.ses with
    | some (x, seq) => s3.svcCloseAnswer x seq c.data
    | none => s3

def execOtpCommandDone (o : OtpOutcome) (s : State) : Host.Outcome State Fault Refusal := (s.when s.alive (fun t => t.otpEnds o)).done

end Sys2Proof.Machine
end

