-- ==== Sys2Proof/Machine/Sessions.lean ====
section
/-! DEFINITION. Host sessions and the crossing (14 R411 to R442): partners, opening, closing, events, service access. -/

namespace Sys2Proof.Machine

/-! ### The crossing (R414 to R416, R439) -/

/-- PARTNER: a partner that is gone closes its session. -/
def State.partnerIs (s : State) (x : Nat) (present : Bool) : State :=
  let s1 := if present then s else s.closeSes x none none
  s1.modSes x (fun v => { v with partner := present, gwq := if present then v.gwq else [] })

/-- A serial frame at the gateway: one that is wrong is discarded and counted; a right one makes the partner present, and a poll on HP4 is
answered (R411, R412). A frame with a record comes with the record's own command, which makes the answer (log 102). -/
def State.serialArrives (s : State) (x : Nat) (raw : Bytes) : State :=
  if !serialOk raw then { s with xng := { s.xng with badFrames := s.xng.badFrames + 1 } }
  else
    let s1 := s.modSes x (fun v => { v with partner := true })
    if serialRecord raw = [] then s1.serialIn x else s1

def execPartner (x : SessId) (o : PartnerObs) (s : State) : Host.Outcome State Fault Refusal :=
  (s.when s.alive (fun t => if 4 ≤ x.val ∧ o.raw ≠ [] then t.serialArrives x o.raw else t.partnerIs x o.present)).done

/-- The last cycle in which a GW_STATUS keeps the gateway up. -/
def State.gwEnd (s : State) : Nat := (mkWin (max s.xng.gwAt (s.loftAt / 4)) 1200000000).dl

/-- No GW_STATUS for 2 s (R416): every session closes without an EVENT. -/
def State.gwSilent (s : State) : State :=
  if s.alive && !s.xng.silent then
    let s1 := (s.toLoft (s.gwEnd + 1)).closeAll none
    { s1 with xng := { s1.xng with gwUp := false, silent := true } }.raise pgXng 4
  else s

def execGwSilentTimeout (s : State) : Host.Outcome State Fault Refusal := s.gwSilent.done

/-- The address in use of a network port, from GW_STATUS; a change made by a setting closes the session (R439). -/
def State.netReport (s : State) (x addr : Nat) : State :=
  let n := if x = 0 then s.xng.net0 else s.xng.net1
  let m : NetPort := { n with lease := addr, changed := n.changed && n.lease == addr }
  let s1 := { s with xng := if x = 0 then { s.xng with net0 := m } else { s.xng with net1 := m } }
  if n.changed && n.lease ≠ addr then s1.closeSes x (some 6) none else s1

/-- GW_STATUS: the gateway is up; one that comes after 2 s of silence finds it declared silent (00 R7). -/
def State.gwReport (s : State) (g : GwReport) : State :=
  let s0 := if s.gwEnd < s.lnow then s.gwSilent else s
  let s1 := { s0 with xng := { s0.xng with gwUp := true, gwAt := s0.lnow, silent := false, gwBad := s0.xng.badFrames } }
  (s1.netReport 0 g.addr0.toNat).netReport 1 g.addr1.toNat

def execGwStatus (g : GwReport) (s : State) : Host.Outcome State Fault Refusal :=
  (s.when s.alive (fun t => t.gwReport g)).done

/-- A dropped frame is counted by the check that it failed (R415). -/
def State.countDrop (s : State) (inward : Bool) (why : XngCheck) : State :=
  match why with
  | .crc => { s with xng := { s.xng with dCrc := satAdd 32 s.xng.dCrc 1 } }.raise pgXng 3
  | .type => { s with xng := { s.xng with dType := satAdd 32 s.xng.dType 1 } }.raise pgXng 0
  | .len => { s with xng := { s.xng with dLen := satAdd 32 s.xng.dLen 1 } }.raise pgXng 1
  | .rate =>
    if inward then { s with xng := { s.xng with dIn := satAdd 16 s.xng.dIn 1 } }.raise pgXng 2
    else { s with xng := { s.xng with dOut := satAdd 16 s.xng.dOut 1 } }.raise pgXng 2

/-- A frame that the crossing drops (R415); an outgoing record that is dropped no longer waits to be taken. -/
def State.frameDrop (s : State) (inward : Bool) (raw : Bytes) : State :=
  let s1 := s.countDrop inward (xngCheck inward raw)
  if !inward && xngPort raw ≤ 5 && (s.ses (xngPort raw)).handed.isSome then s1.modSes (xngPort raw) Ses.leaves else s1

def execCrossingFrameDrop (inward : Bool) (raw : Bytes) (s : State) : Host.Outcome State Fault Refusal :=
  (s.when s.alive (fun t => t.frameDrop inward raw)).done

/-- The network settings of one port as GW_CONFIG carries them (the spec gives no layout, log 54). -/
def NetPort.bytes (n : NetPort) : Bytes := le 1 (b2n n.enable + 2 * b2n n.dhcp) ++ le 4 n.addr ++ le 4 n.mask ++ le 4 n.router

/-- A changed setting is sent within 500 ms of its write (R439). -/
def State.configSend (s : State) : State :=
  match s.xng.changedAt with
  | some _ =>
    if s.alive then
      let b := s.xng.net0.bytes ++ s.xng.net1.bytes
      { s with xng := { s.xng with changedAt := none }, out := .gwConfig b (xngFrame 0x84 0 b) :: s.out }
    else s
  | none => s

def execGwConfigSend (s : State) : Host.Outcome State Fault Refusal := s.configSend.done

/-! ### Opening (R419 to R425) -/

def execHello (x : SessId) (body : Bytes) (s : State) : Host.Outcome State Fault Refusal :=
  (s.when s.alive (fun t => (t.serialIn x).helloRecord x body)).done

def execProof (x : SessId) (body : Bytes) (s : State) : Host.Outcome State Fault Refusal :=
  (s.when s.alive (fun t => (t.serialIn x).proofRecord x body)).done

/-- The PROOF window ends: the session is CLOSED and a failure is counted (R423). -/
def State.proofExpires (s : State) (x : Nat) : State :=
  match (s.ses x).proofWin with
  | some w => if s.alive && (s.ses x).st == 1 then ((s.toLoft (w.dl + 1)).closeSes x none none).sesFailure x else s
  | none => s

def execProofWindowExpiry (x : SessId) (s : State) : Host.Outcome State Fault Refusal := (s.proofExpires x).done

/-- The 60 s block of a port ends (R423). -/
def State.blockEnds (s : State) (x : Nat) : State :=
  match (s.ses x).blockEnd with
  | some d => if s.alive then (s.toLoft (d + 1)).modSes x (fun v => { v with blockEnd := none, fails := 0 }) else s
  | none => s

def execPortBlockExpiry (x : SessId) (s : State) : Host.Outcome State Fault Refusal := (s.blockEnds x).done

/-- A sealed record out of sequence, with a wrong tag, or for a session that is not OPEN (R419). -/
def State.sealedFail (s : State) (x : Nat) : State :=
  if s.alive then (((s.lapse x).serialIn x).closeSes x none none).raise (pgSes x) 1 else s

/-- The record is the last accepted request again, on a serial port where that is no failure (R413). -/
def State.mayRepeat (s : State) (x : Nat) : Bool := s.alive && 4 ≤ x && ((s.lapse x).ses x).st == 2 && 1 ≤ ((s.lapse x).ses x).rxSeq

/-- A repeat is not executed; the response to the original, when it has been sent, is sent again as it was (R413). -/
def State.repeated (s : State) (x : Nat) : State :=
  if !chainOk s.gran.slots keySlots (16 + 2 * x) then ((s.serialIn x).staleOf (16 + 2 * x)).closeSes x none (some 5)
  else
    let s1 := ((s.serialIn x).countUse (16 + 2 * x)).modSes x (fun v => { v with lastRec := s.lnow })
    match (s.ses x).lastResp with
    | some (type, b, rc) => ({ s1 with out := responseOut x type b rc :: s1.out }).modSes x (fun v => v.waits s.lnow rc)
    | none => s1

/-- repeated: the record carries the number of the last accepted request and its tag verifies. -/
def execSealedRequestFail (x : SessId) (repeated : Bool) (s : State) : Host.Outcome State Fault Refusal :=
  (if repeated && s.mayRepeat x then (s.lapse x).repeated x else s.sealedFail x).done

/-! ### SESSION messages (R431) -/

/-- CLOSE: its response is sent, then the session closes. -/
def execClose (x : SessId) (body : Bytes) (s : State) : Host.Outcome State Fault Refusal :=
  (s.serve x 0x05 true (body.length == 0) (fun seq t => (none, (t.respond x seq []).closeSes x none none))).done

def execPing (x : SessId) (body : Bytes) (s : State) : Host.Outcome State Fault Refusal :=
  (s.serveRead x 0x06 true (body.length == 8) (fun _ => body)).done

def State.infoBytes (s : State) (x : Nat) : Bytes :=
  let v := s.ses x
  le 1 x ++ le 1 v.role ++ le 1 v.flags ++ le 1 (modCode s.modState) ++ le 8 (v.rxSeq + 1) ++ le 2 v.outst.length ++
    le 1 v.events.length ++ le 1 v.minCode

def execSessionInfo (x : SessId) (body : Bytes) (s : State) : Host.Outcome State Fault Refusal :=
  (s.serveRead x 0x07 true (body.length == 0) (fun t => t.infoBytes x)).done

/-! ### Events (R428, R431) -/

/-- EVENT_FILTER sets MIN_CODE. -/
def execEventFilter (x : SessId) (body : Bytes) (s : State) : Host.Outcome State Fault Refusal :=
  let c := num body 0 1
  (s.serveNow x 0x2D true (body.length == 1 && c ≤ 5) (fun t =>
    (le 1 0 ++ le 4 t.root.nextNo, t.modSes x (fun v => { v with minCode := c })))).done

/-- EVENT_FETCH: entries of the root history. -/
def State.fetchBytes (s : State) (first n : Nat) : Bytes :=
  let oldest := match s.root.hist with
    | e :: _ => e.no
    | [] => s.root.nextNo
  if s.root.nextNo ≤ first then le 1 2 ++ le 1 0
  else if first < oldest then le 1 1 ++ le 1 0
  else
    let es := (s.root.hist.filter (fun e => first ≤ e.no)).take n
    le 1 0 ++ le 1 es.length ++ es.flatMap HEntry.bytes

def execEventFetch (x : SessId) (body : Bytes) (s : State) : Host.Outcome State Fault Refusal :=
  let n := num body 4 1
  (s.serveRead x 0x2E true (body.length == 5 && 1 ≤ n && n ≤ 64) (fun t => t.fetchBytes (num body 0 4) n)).done

def execEventStatus (x : SessId) (body : Bytes) (s : State) : Host.Outcome State Fault Refusal :=
  (s.serveRead x 0x2F true (body.length == 0) (fun t =>
    let v := t.ses x
    le 4 t.root.nextNo ++ le 4 t.root.lost ++ le 4 t.root.merged ++ le 1 v.events.length ++
      le 1 (b2n (v.missedF || v.missed.isSome)))).done

/-! ### Hand-over to the gateway (R429, R430) -/

/-- A record not taken within 5 s closes the session. -/
def State.drained (s : State) (x : Nat) : State :=
  match (s.ses x).handed with
  | some a => if s.alive then (s.toLoft (a + 3000000000)).closeSes x none (some 4) else s
  | none => s

def execDrainTimeout (x : SessId) (s : State) : Host.Outcome State Fault Refusal := (s.drained x).done

/-- The gateway takes the record that was handed over; after 5 s the time-out has come first (00 R7). -/
def State.recordTaken (s : State) (x : Nat) : State :=
  match (s.ses x).handed with
  | some a => if !s.alive then s else if a + 3000000000 ≤ s.lnow then s.drained x
    else each ((s.ses x).recs.take 1) (fun r t => t.gwTake x r.2) (s.modSes x Ses.leaves)
  | none => s

def execSessionRecordTaken (x : SessId) (s : State) : Host.Outcome State Fault Refusal := (s.recordTaken x).done

/-- No sealed record for IDLE_S. -/
def State.idleCloses (s : State) (x : Nat) : State :=
  if s.alive && (s.ses x).st == 2 then (s.toLoft ((s.ses x).idleEnd + 1)).closeSes x (some 5) (some 6) else s

def execSessionIdleTimeout (x : SessId) (s : State) : Host.Outcome State Fault Refusal := (s.idleCloses x).done

/-- SES_CLOSE (R440). -/
def State.sesCloseCmd (s : State) (x : Nat) (r : Requester) (key : Nat) : State :=
  if key ≠ 0x5C1E then s.accErr (pgSes x) 0x064 4 r else s.closeSes x (some 4) none

def execSesClose (x : SessId) (r : Requester) (key : BitVec 16) (s : State) : Host.Outcome State Fault Refusal :=
  (s.access17 (pgSes x) 0x064 r (fun t => t.sesCloseCmd x r key.toNat)).done

/-! ### Service and test access (R435 to R437) -/

def execSvcStatus (x : SessId) (body : Bytes) (s : State) : Host.Outcome State Fault Refusal :=
  (s.serveRead x 0x38 true (body.length == 0) (fun t =>
    le 1 (b2n t.otp.svcClosed + 2 * b2n t.otp.testClosed) ++ le 1 (t.ses x).flags ++ le 1 (modCode t.modState) ++ le 1 0 ++
      le 8 t.loft.wdnId ++ le 8 t.loft.wdnVer ++ t.moduleId)).done

/-- The challenge closes at the end of its window. -/
def State.chalExpired (s : State) : State := { s with svc := { s.svc with chal := none } }

/-- A challenge past its window is closed (00 R7). -/
def State.chalCheck (s : State) : State :=
  match s.svc.chal with
  | some (_, _, _, w) => if w.dl < s.lnow then s.chalExpired else s
  | none => s

/-- SVC_CHALLENGE (R436): one challenge is open in the module; the session's new one replaces its own. -/
def State.svcChal (s : State) (x scope : Nat) : Bytes × State :=
  let s0 := s.chalCheck
  let other := match s0.svc.chal with
    | some (y, _, _, _) => y != x
    | none => false
  let bad := fun (c : Nat) => (let r := s0.failBody c 36; (r.1.take 1 ++ zeros 3 ++ r.1.drop 1, r.2))
  if other then bad 5
  else if scope = 2 ∧ (s0.ses x).svc = false then bad 1
  else
    let (nc, s1) := s0.draw 32
    let w := mkWin s1.lnow 360000000000
    (le 1 0 ++ zeros 3 ++ nc ++ le 4 600000, { s1 with svc := { s1.svc with chal := some (x, scope, nc, w) } })

def execSvcChallenge (x : SessId) (body : Bytes) (s : State) : Host.Outcome State Fault Refusal :=
  let sc := num body 0 1
  (s.serveNow x 0x39 ((s.ses x).role == 3) (body.length == 1 && 1 ≤ sc && sc ≤ 2) (fun t => t.svcChal x sc)).done

def execSvcChallengeExpiry (s : State) : Host.Outcome State Fault Refusal :=
  (match s.svc.chal with
    | some (_, _, _, w) => s.when s.alive (fun t => (t.toLoft (w.dl + 1)).chalExpired)
    | none => s).done

/-- A failed SVC_REOPEN. -/
def State.reopenFails (s : State) (x code : Nat) : Bytes × State :=
  let s1 := { s with svc := { s.svc with fails := satAdd 16 s.svc.fails 1 } }
  (le 1 code ++ le 1 (s1.ses x).flags, s1)

/-- SVC_REOPEN (R436): the first one of the session consumes its challenge; no response is right without a usable OWNER_PSK. -/
def State.svcReopenBody (s : State) (x scope : Nat) (resp : Bytes) : Bytes × State :=
  match s.svc.chal with
  | none => s.reopenFails x 2
  | some (y, sc, nc, w) =>
    if y ≠ x then s.reopenFails x 2
    else
      let s1 := s.chalExpired
      if w.dl < s.lnow then s1.reopenFails x 3
      else if scope = 2 ∧ (s.ses x).svc = false then s1.reopenFails x 1
      else
        let s1 := if chainOk s.gran.slots keySlots 8 then s1.countUse 8 else s1.staleOf 8
        let want := (hmacSha384 (s.slot 8).key (ascii "RELMAL-REOPEN" ++ s.moduleId ++ le 1 scope ++ le 1 x ++ nc)).take 16
        if scope ≠ sc ∨ resp ≠ want ∨ !chainOk s.gran.slots keySlots 8 then (s1.raise pgSvc 0).reopenFails x 4
        else
          let s2 := (s1.modSes x (fun v => s1.access x (if scope = 1 then { v with svcRe := true } else { v with testRe := true }))).raise
            pgSvc 1
          let s3 := { s2 with svc := { s2.svc with reopens := satAdd 16 s2.svc.reopens 1 } }
          (le 1 0 ++ le 1 (s3.ses x).flags, s3)

def execSvcReopen (x : SessId) (body : Bytes) (s : State) : Host.Outcome State Fault Refusal :=
  (s.serveNow x 0x3A ((s.ses x).role == 3) (body.length == 20) (fun t => t.svcReopenBody x (num body 0 1) (sub body 4 16))).done

/-- SVC_CLOSE: the ACCESS row is programmed; the answer is the OTP result (R437). -/
def State.svcCloseBody (s : State) (x seq mask : Nat) : Option Bytes × State :=
  let t := s.otpStart 0x4D2C { cmd := 2, row := 173, reg := 0, data := mask, ses := some (x, seq) } false
  match t.otp.run with
  | some c => if c.ses = some (x, seq) then (none, t) else (some (le 1 t.otp.result), t)
  | none => (some (le 1 t.otp.result), t)

def execSvcClose (x : SessId) (body : Bytes) (s : State) : Host.Outcome State Fault Refusal :=
  (s.serve x 0x3B ((s.ses x).eff == 1) (body.length == 1) (fun seq t => t.svcCloseBody x seq (num body 0 1 % 4))).done

end Sys2Proof.Machine
end

