-- ==== Sys2Proof/Machine/HostPorts.lean ====
section
/-! DEFINITION. The PORT family of host messages (14 R432 to R434, 06 R205). -/

namespace Sys2Proof.Machine

def State.owner (s : State) (x : Nat) : Bool := (s.ses x).eff == 1

/-- A one-byte answer: result code 0 OK, or the first code that is not 0. -/
def portAns (code : Nat) (s : State) (act : State → State) : Bytes × State :=
  ([BitVec.ofNat 8 code], if code = 0 then act s else s)

/-! ### PORT_STATUS, PORT_INFO -/

/-- The four bytes of a port in PORT_STATUS. -/
def Port.statusBytes (v : Port) : Bytes :=
  le 1 (stCode v.st) ++
  le 1 (b2n v.enr.enrolled + 2 * b2n v.tie.isSome + 4 * b2n v.ring.readbackPending + 8 * b2n v.upd.revertPend +
    16 * b2n v.rls.departed + 32 * b2n v.enr.fallback) ++
  le 1 v.qcause ++ le 1 v.tree.verResult

def execPortStatus (x : SessId) (body : Bytes) (s : State) : Host.Outcome State Fault Refusal :=
  let p := num body 0 2
  let n := num body 2 2
  (s.serveRead x 0x30 true (body.length == 4) (fun t =>
    if n < 1 ∨ 256 < n ∨ 1024 < p + n then 2 :: zeros 3 else zeros 4 ++ (List.range n).flatMap (fun k => (t.port (p + k)).statusBytes))).done

def Port.infoBytes (v : Port) : Bytes :=
  v.identity.take 16 ++ le 1 (b2n v.enr.fallback) ++ le 1 v.enr.wait ++ le 8 v.tree.imageId ++ le 8 v.tree.version ++
  le 1 v.enr.erases ++ le 2 v.enr.maxErase ++ le 2 v.enr.maxProg

def execPortInfo (x : SessId) (body : Bytes) (s : State) : Host.Outcome State Fault Refusal :=
  (s.serveNow x 0x35 true (body.length == 2) (fun t =>
    if portOk body then (zeros 1 ++ (t.port (num body 0 2)).infoBytes, t) else t.failBody 2 39)).done

/-! ### PORT_ENROL (R433) -/

/-- The values of an enrolment lie in their ranges and the limits of 03 R125 (log 56). -/
def enrolRange (b : Bytes) : Bool :=
  let n := num b 2 2
  1 ≤ n && n ≤ 1024 && num b 4 1 ≤ 2 && num b 6 1 < 16 &&
  timingOk (num b 5 1 * 2 ^ 8 + num b 4 1 * 2 ^ 16 + num b 6 1 * 2 ^ 18) && num b 7 1 < 8 && 1 ≤ num b 8 1 && num b 8 1 ≤ 60 &&
  num b 9 1 < 4 && (!bit (num b 7 1) 2 || (1 ≤ num b 26 1 && num b 26 1 ≤ 7))

/-- The manifest slot holds a manifest that passes checks 1 to 3 and has the named part for the port, of a rate that a hall
can carry (01 R33). -/
def State.enrolMan (s : State) (b : Bytes) : Bool :=
  let m := s.manSlot (num b 9 1)
  m.complete && s.checkEarly m.bytes == 0 && (match mPartOf m.bytes (num b 0 2) with
    | some x => pImage x == num b 10 8 && pVersion x == num b 18 8 && pRate x ≤ 23040
    | none => false)

/-- The code of a PORT_ENROL before its signature is known. -/
def State.enrolCode (s : State) (b : Bytes) : Nat :=
  let p := num b 0 2
  let v := s.port p
  if !portOk b || !enrolRange b then 2
  else if s.act.opened || s.enrols.any (fun q => q.port == p) then 5
  else if !s.hallRuns p || !(v.st == .retired || (v.st == .held && v.link.up && !v.enr.ever)) then 1
  else if !s.enrolMan b then 3 else 0

/-- PORT_ENROL: with its checks passed the manifest's signature is verified (check 4), then the port is enrolled. -/
def State.enrolAsk (s : State) (x seq : Nat) (b : Bytes) (d : DeviceRead) : Option Bytes × State :=
  let c := s.enrolCode b
  if c ≠ 0 then (some [BitVec.ofNat 8 c], s)
  else
    let q : EnrolReq := { port := num b 0 2, ses := x, seq := seq, body := b, dev := d, man := (s.manSlot (num b 9 1)).bytes }
    (none, { s with enrols := s.enrols ++ [q] }.queueJob (manifestJob 3 (.enrol q.port) q.man))

def execPortEnrol (x : SessId) (body : Bytes) (dev : DeviceRead) (s : State) : Host.Outcome State Fault Refusal :=
  (s.serve x 0x31 (s.owner x) (body.length == 36) (fun seq t => t.enrolAsk x seq body dev)).done

/-! ### PORT_RETIRE, PORT_QUARANTINE (R434) -/

/-- RANGE for a port number above 1,023, else the code of the port. -/
def rangeOr (b : Bytes) (code : Nat → Nat) : Nat := if portOk b then code (num b 0 2) else 2

def State.retireCode (s : State) (p : Nat) : Nat :=
  if s.act.opened then 5 else if (s.port p).st = .retired ∨ s.hallRuns p = false then 1 else 0

def execPortRetire (x : SessId) (body : Bytes) (s : State) : Host.Outcome State Fault Refusal :=
  let p := num body 0 2
  (s.serveNow x 0x32 (s.owner x) (body.length == 2)
    (fun t => portAns (rangeOr body t.retireCode) t (fun u => u.retireBegin p))).done

/-- A PORT_QUARANTINE message of one action. -/
def State.portQuar (s : State) (x action : Nat) (b : Bytes) (right : Bool) (code : State → Nat) (act : State → State) : State :=
  if num b 2 1 = action then s.serveNow x 0x33 right (b.length == 3) (fun t => portAns (rangeOr b (fun _ => code t)) t act) else s

/-- ENTER of a port that cannot be quarantined is STATE (R434, 01 R40). -/
def State.enterCode (s : State) (p : Nat) : Nat := if canQuarantine (s.port p).st && s.hallRuns p then 0 else 1

def execEnter (x : SessId) (body : Bytes) (s : State) : Host.Outcome State Fault Refusal :=
  let p := num body 0 2
  (s.portQuar x 1 body (s.owner x) (fun t => t.enterCode p) (fun t => t.request p (.quarantine 16 false))).done

def execEnterDiscard (x : SessId) (body : Bytes) (s : State) : Host.Outcome State Fault Refusal :=
  let p := num body 0 2
  (s.portQuar x 2 body (s.owner x) (fun t => t.enterCode p) (fun t => t.request p (.quarantine 16 true))).done

def State.relCode (s : State) (p : Nat) : Nat := if (s.port p).st = .quarantined ∧ s.hallRuns p = true then 0 else 1

def execQuarantineRelease (x : SessId) (body : Bytes) (s : State) : Host.Outcome State Fault Refusal :=
  let p := num body 0 2
  (s.portQuar x 3 body (s.ownerOrService x) (fun t => t.relCode p) (fun t => t.releaseAsk p)).done

/-! ### PORT_DEPART (06 R205) -/

def State.portDepart (s : State) (x action : Nat) (b : Bytes) (code : State → Nat) (act : State → State) : State :=
  if num b 0 1 = action then s.serveNow x 0x34 (s.owner x) (b.length == 1) (fun t => portAns (code t) t act) else s

def State.departCode (s : State) : Nat := if s.act.opened then 5 else if s.modState = .serving then 0 else 1

def execDepartRequest (x : SessId) (body : Bytes) (s : State) : Host.Outcome State Fault Refusal :=
  (s.portDepart x 1 body (fun t => t.departCode) (fun t => t.departBegin)).done

def State.cancelCode (s : State) : Nat := if s.modState = .departing ∧ s.depSent = false then 0 else 1

def execDepartCancel (x : SessId) (body : Bytes) (s : State) : Host.Outcome State Fault Refusal :=
  (s.portDepart x 2 body (fun t => t.cancelCode) (fun t => t.departCancel)).done

end Sys2Proof.Machine
end

