-- ==== Sys2Proof/Machine/Link.lean ====
section
/-! DEFINITION. The commands of the Oxoth link layer (02): training, loss, credits, sequence numbers, HELLO and pairing. -/

namespace Sys2Proof.Machine

def execTapDetect (p : PortId) (s : State) : Host.Outcome State Fault Refusal := (s.detectTap p).done

def execSymbolLock (p : PortId) (s : State) : Host.Outcome State Fault Refusal := (s.lockSymbols p).done

def execTrainingSequenceReceived (p : PortId) (s : State) : Host.Outcome State Fault Refusal := (s.seenTs p).done

def execLinkTrained (p : PortId) (s : State) : Host.Outcome State Fault Refusal := (s.linkIsTrained p).done

def execTrainingWindowExpiry (p : PortId) (s : State) : Host.Outcome State Fault Refusal := (s.trainExpiry p).done

def execTrainRetryTimer (p : PortId) (s : State) : Host.Outcome State Fault Refusal := (s.trainRetry p).done

def execLossOfSync (p : PortId) (why : SyncLoss) (s : State) : Host.Outcome State Fault Refusal := (s.loseSync p why).done

def execLinkIdleEnd (p : PortId) (s : State) : Host.Outcome State Fault Refusal := (s.idleEnds p).done

def execCreditWindowExpiry (p : PortId) (v : Vc) (s : State) : Host.Outcome State Fault Refusal := (s.creditExpiry p v).done

def execReplayWindowExpiry (p : PortId) (s : State) : Host.Outcome State Fault Refusal := (s.replayExpiry p).done

def execNakRepeatTimer (p : PortId) (s : State) : Host.Outcome State Fault Refusal := (s.nakTimer p).done

/-- A frame whose bytes fail check 1 or 2 of R51. -/
def execFrameCrcError (f : RxFrame) (s : State) : Host.Outcome State Fault Refusal :=
  (match rxCheck f.raw with
    | .crcError => (s.overdue f.port).crcError f.port
    | _ => s).done

/-- A frame whose bytes pass checks 1 and 2 of R51 and fail check 3. -/
def execFrameProtocolError (p : PortId) (raw : Bytes) (s : State) : Host.Outcome State Fault Refusal :=
  (match rxCheck raw with
    | .protocolError h => s.rx p (fun t => t.protoError p h)
    | _ => s).done

def execFrameOutOfSequence (p : PortId) (seq : BitVec 8) (s : State) : Host.Outcome State Fault Refusal :=
  (s.rx p (fun t => t.outOfSeq p seq)).done

def execAck (p : PortId) (ackSeq : Option (BitVec 8)) (nak : Bool) (v : Vc) (n : Fin 16) (s : State) :
    Host.Outcome State Fault Refusal := (s.rx p (fun t => t.takeAck p ackSeq nak v n)).done

def execHelloFrame (p : PortId) (h : TapHello) (s : State) : Host.Outcome State Fault Refusal := (s.rx p (fun t => t.takeHello p h)).done

def execPairResp (p : PortId) (rt ct : Bytes) (s : State) : Host.Outcome State Fault Refusal := (s.rx p (fun t => t.takePairResp p rt ct)).done

def execPairDone (p : PortId) (s : State) : Host.Outcome State Fault Refusal := (s.rx p (fun t => t.takePairDone p)).done

def execPairFail (p : PortId) (reason : Byte) (s : State) : Host.Outcome State Fault Refusal := (s.rx p (fun t => t.takePairFail p reason)).done

def execPairingWindowExpiry (p : PortId) (s : State) : Host.Outcome State Fault Refusal := (s.pairExpiry p).done

def execCreditInit (p : PortId) (c : Credits) (s : State) : Host.Outcome State Fault Refusal := (s.rx p (fun t => t.takeCreditInit p c)).done

def execCredit (p : PortId) (c : Credits) (s : State) : Host.Outcome State Fault Refusal := (s.rx p (fun t => t.creditsBack p c)).done

/-- LINK_DOWN from the tap (02 R83); after a departure it counts no fault (R84). -/
def execLinkDownFrame (p : PortId) (s : State) : Host.Outcome State Fault Refusal :=
  (s.rx p (fun t => t.when (t.trained p) (fun u => u.linkDown p false))).done

end Sys2Proof.Machine
end

