-- ==== Sys2Proof/Machine/RegRead.lean ====
section
/-! DEFINITION. What every register reads (the register tables of 03 to 15 and 17), the HI latches (17 R483, R492) and the effect of
a read. A field whose value the spec does not fix reads a free value; every register read takes one draw (log 57). -/

namespace Sys2Proof.Machine

/-- A word from fields: lowest bit, width, value. -/
def pk (l : List (Nat × Nat × Nat)) : Nat := l.foldl (fun a f => a + f.2.2 % 2 ^ f.2.1 * 2 ^ f.1) 0

/-- Word k of a byte string. -/
def wordAt (b : Bytes) (k : Nat) : Nat := num b (4 * k) 4

/-- A word of bits from a predicate on 0 to n - 1. -/
def bitSet (n : Nat) (f : Nat → Bool) : Nat := ((List.range n).filter f).foldl (fun a k => a + 2 ^ k) 0

/-- The ports of a hall that satisfy a condition. -/
def State.countHall (s : State) (h : Nat) (f : Port → Bool) : Nat := ((s.portsOf h).filter (fun p => f (s.port p))).length

/-- The ports of the module in a state; a port that is not listed is ABSENT. -/
def State.countState (s : State) (st : PortState) : Nat :=
  if st = .absent then 1024 - (s.ports.filter (fun e => e.1 < 1024 && e.2.st != .absent)).length
  else (s.ports.filter (fun e => e.1 < 1024 && e.2.st == st)).length

def State.free1 (s : State) : Nat := Config.freeNat s.freeCtr

/-! ### The common header (17 Table 17.2, 13 Table 13.3) -/

/-- CLASS and INSTANCE of PAGE_ID (17 R485). -/
def pageClass (page : Nat) : Nat :=
  match (pageKind page).1 with
  | .hctl => 0x40
  | .hcol => 0x41
  | .drc => 0x42
  | .hsh => 0x43
  | .gln => 0x44
  | .rng => 0x45
  | .rls => 0x46
  | .mir => 0x47
  | .gal => 0x80
  | .pw => 0x81
  | .ls => 0x82
  | .pke => 0x17
  | .enc => 0xC1
  | .ses => 0xE1
  | _ => page

def pageId (page : Nat) : Nat := pk [(0, 8, 1), (8, 8, (pageKind page).2), (16, 16, pageClass page)]

/-- The ERR_STAT word a page shows: on a link statistics page the OR of the gallery's port error words. -/
def State.errStatOf (s : State) (page : Nat) : Nat :=
  if isLsPage page then
    ((List.range 64).foldl (fun (a : BitVec 8) k => a ||| s.perr (64 * pageGal page + k)) 0).toNat
  else (s.hdr page).errStat.toNat

def State.headerVal (s : State) (page off : Nat) (r : Requester) : Nat :=
  let h := s.hdr page
  match off with
  | 0x000 => pageId page
  | 0x004 => pk [(0, 1, b2n ((blockRegs (pageKind page).1).any (fun x => x.sel))), (1, 1, b2n (checkerExists page 0)),
                 (2, 1, b2n (isLsPage page)), (3, 1, b2n (isHallPage page || isGalPage page)), (8, 6, (pageCodes page).length)]
  | 0x00C => pk [(0, 1, b2n (s.pageInReset page || (isHallPage page && s.hallResetting (pageHall page)))), (1, 1, b2n ((s.shadowOf { page := page, bit := 0 }).isSome)),
                 (2, 1, b2n h.cfgLock), (3, 1, b2n h.errLock)]
  | 0x010 => s.errStatOf page
  | 0x014 => h.errMask.toNat
  | 0x018 => pk [(0, 5, h.injChk), (8, 2, h.injMode), (12, 1, b2n h.injDry), (15, 1, b2n h.injArmed), (16, 10, h.injPort)]
  | 0x01C => pk [(0, 5, h.firstBit), (7, 1, b2n h.firstValid), (16, 10, h.firstPort)]
  | 0x020 => h.irqStat.toNat
  | 0x024 => h.irqEn.toNat
  | 0x028 =>
    let b := s.getSel page 0x028 r
    pk [(0, 5, b), (8, 3, if isSource page b then s.codeOf page b else 0)]
  | 0x02C => pk [(0, 1, b2n h.accErr), (1, 3, h.accReq), (4, 12, h.accOff), (16, 4, h.accReason), (24, 8, h.accCount)]
  | 0x030 => pk [(0, 1, b2n h.cfgLock), (1, 1, b2n h.errLock)]
  | _ => 0

/-! ### Hall pages -/

def State.mirVal (s : State) (h off : Nat) (r : Requester) : Nat :=
  let x := s.hall h
  let p := s.selPort h (pgMir h) 0x048 r
  let m := (s.port p).mir
  let sel := s.getSel (pgMir h) 0x058 r
  let w := if sel % 64 ≤ 32 then tabGet 0 (m.bank (bit sel 8)).words (sel % 64) else 0
  match off with
  | 0x040 => pk [(0, 1, b2n x.serveEn), (1, 1, b2n x.logUnk)]
  | 0x044 => pk [(0, 9, s.countHall h (fun v => v.mir.stream.isSome)), (9, 9, s.countHall h (fun v => v.mir.armed))]
  | 0x04C => m.enrLen
  | 0x050 => m.timing
  | 0x054 => pk [(0, 1, b2n m.active), (1, 1, b2n m.bank0.valid), (2, 1, b2n m.bank1.valid), (3, 1, b2n m.armed),
                 (4, 1, b2n m.oldBusy), (5, 1, b2n m.csValid), (16, 16, m.csNew.toNat)]
  | 0x05C => w % 2 ^ 32
  | 0x060 => w / 2 ^ 32
  | 0x068 => pk [(0, 4, x.idxResult), (8, 6, x.idxEntry)]
  | 0x06C => x.uncCnt
  | 0x070 => x.corrCnt
  | 0x074 => pk [(0, 8, x.lastUncPort), (8, 2, x.lastUncArea)]
  | 0x078 => x.lastUncOff
  | 0x07C => x.unkCnt
  | 0x080 => pk [(0, 8, x.unkOp), (8, 4, x.unkMode), (16, 8, x.unkPort)]
  | 0x084 => x.denyCnt
  | 0x088 => x.readBytes
  | 0x08C => x.readBytes / 2 ^ 32
  | _ => 0

/-- The ring engine page (04 Table 4.16). The sequence registers of a port that was never enrolled read their reset value 0. -/
def State.rngVal (s : State) (h off : Nat) (r : Requester) : Nat :=
  let x := s.hall h
  let p := s.selPort h (pgRng h) 0x04C r
  let v := s.port p
  let c := tabGet ({} : AuthClass) x.classes (s.getSel (pgRng h) 0x068 r % 16)
  match off with
  | 0x040 => pk [(0, 1, b2n x.admitEn), (1, 1, b2n x.commitEn)]
  | 0x044 => s.freeShared h
  | 0x048 => pk [(0, 9, s.countHall h (fun u => u.ring.waiting.isSome)), (9, 9, s.countHall h (fun u => u.ring.readbackPending))]
  | 0x050 => v.ring.quota
  | 0x054 => pk [(0, 19, v.ring.held), (19, 1, b2n v.ring.waiting.isSome), (20, 1, b2n v.ring.readbackPending),
                 (21, 1, b2n (v.ring.entries.any (fun e => e.state == .held))), (22, 1, b2n (Decidable.decide (1800 < v.enr.maxErase ∨ 1800000 < v.enr.maxProg)))]
  | 0x058 => if v.enr.ever then v.ring.next else 0
  | 0x05C => if v.enr.ever then v.ring.next / 2 ^ 32 else 0
  | 0x060 => if v.enr.ever then v.ring.low else 0
  | 0x064 => if v.enr.ever then v.ring.low / 2 ^ 32 else 0
  | 0x06C => pk [(0, 3, c.auth), (16, 12, c.timeout)]
  | 0x070 => x.decFirst
  | 0x074 => x.decFirst / 2 ^ 32
  | 0x07C => pk [(0, 4, x.decResult), (8, 16, x.decApplied)]
  | 0x080 => x.ignored
  | 0x084 => x.denied
  | 0x088 => pk [(0, 16, x.partialN), (16, 16, x.lostN)]
  | _ => 0

/-- Lanes that hold a job now: which of the enabled working lanes do is free while a job of the hall reads bytes for one (log 4). -/
def State.lanesBusy (s : State) (h : Nat) : Nat :=
  let x := s.hall h
  if (s.portsOf h).any (fun p => (s.port p).ring.jobs.any needsLane) then
    s.free1 % 256 &&& (x.laneEn % 256 &&& (255 - x.laneFail % 256))
  else 0

/-- The hash lanes page (05 Table 5.8). -/
def State.hshVal (s : State) (h off : Nat) : Nat :=
  let x := s.hall h
  match off with
  | 0x040 => x.laneEn
  | 0x044 => pk [(0, 8, s.lanesBusy h), (8, 8, x.laneFail)]
  | 0x048 => pk [(1, 1, b2n x.testDone), (2, 1, b2n x.testPass)]
  | 0x04C => x.hshFill
  | 0x050 => x.hshCommit
  | 0x054 => x.hshRb
  | 0x058 => x.hshGlean
  | _ => 0

def State.glnVal (s : State) (h off : Nat) (r : Requester) : Nat :=
  let x := s.hall h
  let v := s.port (s.selPort h (pgGln h) 0x048 r)
  let sel := s.getSel (pgGln h) 0x064 r
  let root := match sel / 16 % 4 with
    | 0 => v.tree.root
    | 1 => v.tree.kept
    | 2 => v.tree.spanRoot
    | _ => v.tree.manRoot
  match off with
  | 0x040 => pk [(0, 1, b2n x.glnEn), (16, 12, x.cycleS), (28, 3, x.ratePct)]
  | 0x044 => pk [(0, 9, ((s.portsOf h).filter s.gleanable).length), (9, 9, s.countHall h (fun u => u.gln.late)),
                 (18, 2, if (s.portsOf h).any (fun p => (s.port p).ring.jobs.any isGlean) then s.free1 % 3 else 0)]
  | 0x04C => pk [(0, 2, v.gln.action), (8, 5, v.gln.limit)]
  | 0x050 => pk [(0, 14, v.gln.cursor), (14, 1, b2n v.gln.late), (15, 1, b2n v.gln.heal.isSome),
                 (16, 2, if v.enr.enrolled then v.tree.spanState else 0), (18, 4, v.tree.verResult), (22, 1, b2n v.tie.isSome)]
  | 0x054 => pk [(0, 16, v.gln.cycles), (16, 16, v.gln.lateCyc)]
  | 0x058 => pk [(0, 16, v.gln.diverged), (16, 16, v.gln.transient)]
  | 0x05C => pk [(0, 16, v.gln.healedN), (16, 16, v.gln.healFail)]
  | 0x060 => pk [(0, 8, x.lastDivPort), (8, 14, x.lastDivLeaf), (22, 4, x.lastDivCase)]
  | 0x068 => if sel % 16 < 12 then wordAt root (sel % 16) else s.free1
  | 0x06C => x.overrun
  | 0x070 => x.glnBytes
  | 0x074 => x.glnBytes / 2 ^ 32
  | _ => 0

def State.rlsVal (s : State) (h off : Nat) (r : Requester) : Nat :=
  let x := s.hall h
  let v := s.port (s.selPort h (pgRls h) 0x054 r)
  match off with
  | 0x040 => pk [(0, 1, b2n x.releaseEn), (1, 1, b2n x.finalSweep)]
  | 0x044 => pk [(0, 9, s.countHall h (fun u => u.ready)), (9, 9, s.countHall h (fun u => u.rls.bootWin.isSome)),
                 (18, 1, b2n (!x.flight.isEmpty)), (19, 1, b2n (!x.grpTaken.isEmpty)), (20, 9, s.countHall h (fun u => u.rls.departed))]
  | 0x048 => pk [(0, 16, s.countedSum h), (16, 16, 23040)]
  | 0x04C => pk [(0, 16, x.bootWinMs), (16, 9, x.flightMax)]
  | 0x050 => x.groupWait
  | 0x058 => pk [(0, 8, v.rls.group), (8, 1, b2n v.rls.depMode), (9, 1, b2n v.rls.hold)]
  | 0x05C => pk [(0, 16, v.rls.declared), (16, 16, v.counted)]
  | 0x060 => pk [(0, 1, b2n v.rls.verified), (1, 1, b2n v.rls.bootWin.isSome), (2, 1, b2n v.rls.inFlight), (3, 1, b2n v.rls.swAcked),
                 (4, 1, b2n v.rls.departed), (5, 1, b2n v.rls.given)]
  | 0x068 => x.rlsResult
  | 0x06C => pk [(0, 16, x.flights), (16, 9, x.lastPorts)]
  | _ => 0

/-- Ports of a hall or gallery whose link is trained. -/
def State.linksUp (s : State) (lo n : Nat) : Nat :=
  (s.ports.filter (fun e => lo ≤ e.1 && e.1 < lo + n && e.2.link.phase == .trained)).length

def State.hctlVal (s : State) (h off : Nat) (r : Requester) : Nat :=
  let x := s.hall h
  let v := s.port (s.selPort h (pgHall h) 0x100 r)
  let w := v.pwd
  let n := s.hnow
  let cyc := n - x.relAt
  match off with
  | 0x040 => pk [(0, 1, b2n x.trained), (1, 1, b2n (Decidable.decide (x.laneFail ≠ 255) && x.trained)), (2, 1, b2n x.pksFilled),
                 (4, 9, s.linksUp (256 * h) 256), (13, 9, s.countHall h (fun u => u.enr.enrolled))]
  | 0x044 => cyc
  | 0x048 => cyc / 2 ^ 32
  | 0x04C => pk [(0, 9, s.countHall h (fun u => u.st == .held)), (9, 9, s.countHall h (fun u => u.st == .verifying)),
                 (18, 9, s.countHall h (fun u => u.st == .released))]
  | 0x050 => pk [(0, 9, s.countHall h (fun u => u.st == .adopted)), (9, 9, s.countHall h (fun u => u.st == .quarantined)),
                 (18, 9, 256 - s.countHall h (fun u => u.st != .absent))]
  | 0x054 => x.stairRetry
  | 0x104 => pk [(0, 16, w.period), (16, 2, w.frac)]
  | 0x108 => w.first
  | 0x10C => pk [(0, 1, b2n w.running), (1, 1, b2n (w.running && w.opens ≤ n && Decidable.decide (n < w.start + w.cycles))),
                 (2, 1, b2n (w.running && w.inFirst)), (3, 1, b2n w.bound)]
  | 0x110 => pk [(0, 16, w.services), (16, 16, w.ignored)]
  | 0x114 => w.resets
  | 0x11C => pk [(0, 8, x.pwdLastPort), (8, 2, x.pwdLastKind)]
  | _ => 0

/-- A shadow of a domain is open. -/
def State.shadowOn (s : State) (d : Domain) : Bool := s.root.shadows.any (fun x => x.dom == d && x.open_ (s.dnow d))

def State.hcolVal (s : State) (h off : Nat) (r : Requester) : Nat :=
  let x := s.hall h
  let p := s.selPort h (pgHcol h) 0x054 r
  let hall := s.shadowOn (dHall h)
  let gal := fun (k : Nat) => hall || s.shadowOn (dGal (4 * h + k))
  let inside := fun (q : Nat) => gal (galOf q % 4) || s.shadowOn (dPort q)
  match off with
  | 0x040 => (tabGet 0 s.root.hcol h).toNat
  | 0x044 => (tabGet 0 s.root.gal (4 * h)).toNat
  | 0x048 => (tabGet 0 s.root.gal (4 * h + 1)).toNat
  | 0x04C => (tabGet 0 s.root.gal (4 * h + 2)).toNat
  | 0x050 => (tabGet 0 s.root.gal (4 * h + 3)).toNat
  | 0x058 => (s.perr p).toNat
  | 0x060 => pk [(0, 9, ((List.range 256).filter (fun k => inside (256 * h + k))).length), (9, 4, bitSet 4 gal), (13, 1, b2n hall),
                 (14, 1, b2n (x.phase == .faulted))]
  | 0x064 => pk [(0, 16, x.portResets), (16, 16, x.escal)]
  | 0x068 => x.hallResets
  | _ => 0

def State.drcVal (s : State) (h off : Nat) : Nat :=
  let x := s.hall h
  match off with
  | 0x040 => pk [(0, 1, b2n x.trained), (1, 1, b2n (x.trained && x.scrubEn))]
  | 0x044 => pk [(0, 1, b2n x.scrubEn), (8, 8, x.scrubH)]
  | 0x048 => x.drcCorr
  | 0x04C => x.drcUnc
  | 0x050 => x.drcLast
  | 0x054 => if x.trained then pk [(0, 8, s.free1 % 101), (8, 8, s.free1 / 101 % (101 - s.free1 % 101))] else 0
  | 0x058 => x.scrubPos
  | _ => 0

/-! ### Gallery pages -/

def State.galVal (s : State) (g off : Nat) : Nat :=
  let on := fun (lo : Nat) (k : Nat) => (s.dom (64 * g + lo + k)).on
  match off with
  | 0x040 => pk [(0, 7, s.linksUp (64 * g) 64), (8, 7, s.phyOnCount g)]
  | 0x044 => bitSet 32 (on 0)
  | 0x048 => bitSet 32 (on 32)
  | 0x04C => tabGet 0 s.root.galResets g
  | _ => 0

/-- The port that PW_SEL or LS_SEL of a gallery's page names for a requester. -/
def State.galSel (s : State) (g page : Nat) (r : Requester) : Nat := 64 * g + s.getSel page 0x040 r % 64

def State.pwVal (s : State) (g off : Nat) (r : Requester) : Nat :=
  let v := s.port (s.galSel g (pgPw g) r)
  let l := v.link
  if 0x058 ≤ off ∧ off ≤ 0x074 then
    ((List.range 8).map (fun j => stCode (s.port (64 * g + 8 * ((off - 0x058) / 4) + j)).st * 16 ^ j)).foldl (· + ·) 0
  else match off with
  | 0x044 => pk [(0, 4, stCode v.st), (4, 1, b2n v.enr.enrolled), (5, 1, b2n v.tie.isSome), (6, 1, b2n (l.phase == .trained)),
                 (7, 1, b2n l.fbStored), (8, 1, b2n l.holdLock), (9, 1, b2n v.ring.readbackPending), (10, 1, b2n v.upd.revertPend),
                 (11, 1, b2n v.rls.departed), (12, 1, b2n v.rls.switched), (16, 5, v.qcause), (24, 8, l.waitStored.toNat)]
  | 0x048 => l.tapId.toNat
  | 0x04C => l.tapId.toNat / 2 ^ 32
  | 0x050 => pk [(0, 8, l.caps.toNat), (8, 8, l.platform.toNat), (16, 6, l.lines.toNat)]
  | 0x054 => l.cs.toNat
  | _ => 0

def State.lsVal (s : State) (g off : Nat) (r : Requester) : Nat :=
  let l := (s.port (s.galSel g (pgLs g) r)).link
  match off with
  | 0x044 => pk [(0, 16, l.crcErr), (16, 16, l.protoErr)]
  | 0x048 => pk [(0, 16, l.nakCnt), (16, 16, l.replayCnt)]
  | 0x04C => pk [(0, 16, l.credLate), (16, 16, l.trainFail)]
  | 0x050 => pk [(0, 16, l.los), (16, 16, l.underrun)]
  | 0x054 => pk [(0, 16, l.decodeErr), (16, 16, l.sbDrop)]
  | _ => 0

/-! ### Root, Loft control, root collector -/

def State.rootVal (s : State) (off : Nat) : Nat :=
  match off with
  | 0x040 => pk [(0, 3, modCode s.modState), (3, 3, modCode s.prevState)]
  | 0x044 => pk [(0, 16, 0x1024), (16, 8, s.otp.value 5), (24, 8, Config.romRev.toNat)]
  | 0x048 => wordAt s.moduleId 0
  | 0x04C => wordAt s.moduleId 1
  | 0x050 => wordAt s.moduleId 2
  | 0x054 => wordAt s.moduleId 3
  | 0x058 => pk [(0, 16, s.otp.value 4)]
  | 0x05C => s.cyc
  | 0x060 => s.cyc / 2 ^ 32
  | 0x064 => pk [(0, 11, 1024), (11, 9, 256), (20, 8, 127), (28, 4, 4)]
  | 0x068 => pk [(0, 11, s.countState .released), (11, 11, s.countState .adopted)]
  | 0x06C => pk [(0, 11, s.countState .quarantined), (11, 11, s.countState .absent)]
  | 0x070 => s.cyc / 100000000
  | _ => 0

def State.loftVal (s : State) (off : Nat) : Nat :=
  let l := s.loft
  match off with
  | 0x040 => pk [(0, 1, l.active), (1, 3, l.landA), (4, 3, l.landB), (8, 4, l.bootStep)]
  | 0x044 => l.cause.toNat
  | 0x048 => pk [(0, 8, s.retained.cause)]
  | 0x04C => s.retained.causeAt
  | 0x050 => s.retained.causeAt / 2 ^ 32
  | 0x054 => pk [(0, 1, s.retained.actSlot), (1, 1, b2n l.aPass), (2, 1, b2n l.bPass), (3, 1, b2n l.trialRev), (4, 3, l.bootPke)]
  | 0x058 => l.wdnId
  | 0x05C => l.wdnId / 2 ^ 32
  | 0x060 => l.wdnVer
  | 0x064 => l.wdnVer / 2 ^ 32
  | 0x068 => pk [(0, 3, s.free1), (3, 1, b2n l.katPass)]
  | 0x06C => pk [(0, 14, l.jbufUsed), (16, 14, l.jbufPeak)]
  | _ => 0

def State.rcVal (s : State) (off : Nat) (r : Requester) : Nat :=
  let c := s.root
  if 0x054 ≤ off ∧ off ≤ 0x080 then
    match c.hist.find? (fun e => e.no == s.getSel 0x11 0x050 r) with
    | some e => wordAt e.bytes ((off - 0x054) / 4)
    | none => 0
  else match off with
  | 0x040 => c.stat.toNat
  | 0x044 => c.loftCol.toNat
  | 0x048 => c.hostCol.toNat
  | 0x04C => c.histNext
  | 0x084 => pk [(0, 5, c.fifo.length), (5, 1, b2n c.burst.isSome)]
  | 0x088 => c.lost
  | 0x08C => c.merged
  | 0x090 => c.ack
  | 0x094 => b2n c.modEn
  | 0x098 => pk [(0, 2, c.consec)]
  | _ => 0

/-! ### Loft pages -/

def State.pufVal (s : State) (off : Nat) : Nat :=
  let u := s.puf
  match off with
  | 0x040 => pk [(0, 1, b2n u.rootOk), (1, 1, b2n u.copyB), (2, 1, b2n u.aBad), (3, 1, b2n u.bBad), (4, 2, u.attempts)]
  | 0x044 => pk [(0, 14, u.flips), (14, 6, u.corr)]
  | 0x048 => pk [(0, 14, s.retained.flipsMax)]
  | _ => 0

/-- OTP_RD_INFO of a row. -/
def Otp.info (o : Otp) (r : Nat) : Nat :=
  match otpRegion r with
  | none => 7
  | some g =>
    let x := o.sh r
    pk [(0, 3, x.cls), (3, 1, b2n x.marker), (4, 1, b2n x.corr), (5, 1, b2n x.mism), (6, 6, g), (12, 1, b2n (o.locked g)),
        (13, 1, b2n x.marginal)]

/-- OTP_MARG_ENTRY of list entry k. -/
def Otp.margEntry (o : Otp) (k : Nat) : Nat :=
  match o.margs[k]? with
  | none => 0
  | some r =>
    let x := o.sh r
    pk [(0, 11, r), (16, 1, b2n x.weak), (17, 1, b2n x.leaky), (18, 1, b2n x.mmarg), (19, 1, 1)]

def State.otpVal (s : State) (off : Nat) (r : Requester) : Nat :=
  let o := s.otp
  let row := s.getSel pgOtp 0x054 r
  let ref := s.getSel pgOtp 0x060 r
  let raw := if ref < 3 then o.raw.getD ref 0 else s.free1
  let lk := fun (lo k : Nat) => (otpRowsAll.any (fun q => otpRegion q == some (lo + k))) && o.locked (lo + k)
  match off with
  | 0x040 => pk [(0, 1, b2n o.scanned), (1, 1, b2n (o.run.isSome || s.kOpen.isSome)), (2, 1, b2n s.pumpReady)]
  | 0x048 => pk [(0, 11, o.row), (16, 6, o.region)]
  | 0x04C => o.wdata
  | 0x050 => pk [(0, 4, o.result), (8, 8, o.unmarked)]
  | 0x058 => o.value row
  | 0x05C => o.info row
  | 0x064 => raw
  | 0x068 => raw / 2 ^ 32
  | 0x06C => bitSet 32 (lk 0)
  | 0x070 => bitSet 32 (lk 32)
  | 0x074 => o.incomp
  | 0x078 => o.incomp / 2 ^ 32
  | 0x07C => pk [(0, 11, o.margCnt), (16, 11, s.retained.otpPrev)]
  | 0x084 => o.margEntry (s.getSel pgOtp 0x080 r)
  | 0x088 => pk [(0, 8, o.partN), (8, 8, o.unstN), (16, 8, o.twinFix), (24, 8, o.lockFix)]
  | 0x08C => pk [(0, 5, o.config0), (8, 8, bitSet 8 (fun k => o.slotHeld k)), (16, 8, bitSet 8 (fun k => o.revoked k)),
                 (24, 1, b2n o.wardenOk)]
  | 0x090 => o.floor
  | 0x094 => o.floor / 2 ^ 32
  | _ => 0

def State.grnVal (s : State) (off : Nat) (r : Requester) : Nat :=
  let g := s.gran
  let v := s.slot (grnSel s r)
  match off with
  | 0x040 => pk [(0, 1, b2n g.ready), (1, 1, b2n s.kOpen.isSome), (2, 1, b2n g.rolling)]
  | 0x044 => pk [(0, 8, s.epoch), (8, 8, 160)]
  | 0x04C => v.attr
  | 0x050 => v.attr / 2 ^ 32
  | 0x054 => v.uses
  | 0x058 => v.limit
  | 0x060 => g.opCtx
  | 0x064 => g.opRes
  | 0x068 => g.opNo
  | 0x06C => pk [(0, 2, g.lastOut), (4, 4, g.lastOp)]
  | 0x070 => pk [(0, 16, g.staleCnt), (16, 16, g.exhCnt)]
  | _ => 0

def State.wwdVal (s : State) (off : Nat) : Nat :=
  let w := s.wwd
  let e := w.start + w.cycles
  match off with
  | 0x040 => pk [(0, 14, w.periodMs), (16, 16, w.slotEn.toNat)]
  | 0x048 => pk [(0, 1, b2n w.running), (1, 1, b2n (w.running && s.wwdOpens ≤ s.lnow && Decidable.decide (s.lnow < e))),
                 (2, 1, b2n (w.running && w.first)), (3, 2, s.otp.config0)]
  | 0x04C => w.checked.toNat
  | 0x050 => w.missing.toNat
  | 0x054 => w.dup.toNat
  | 0x058 => if w.running then (e - s.lnow) / 600 else 0
  | 0x05C => pk [(0, 16, w.services), (16, 16, w.refused)]
  | 0x060 => pk [(0, 16, s.retained.restartsA), (16, 16, s.retained.restartsB)]
  | _ => 0

def State.lwdVal (s : State) (off : Nat) : Nat :=
  let w := s.lwd
  match off with
  | 0x040 => pk [(0, 6, w.periodS), (8, 1, b2n (w.clkSel || s.rcOnly))]
  | 0x048 => pk [(0, 1, b2n w.running), (1, 1, b2n w.curRc), (2, 1, b2n s.rcOnly)]
  | 0x04C => if w.running then (s.lwd.ends - s.lwdNow s.lwd.curRc) * 1000 / lwdHz s.lwd.curRc else 0
  | 0x050 => pk [(0, 16, s.retained.lwdResets), (16, 16, s.retained.clkTrips)]
  | _ => 0

/-- The prime candidates that a key generation has tried: all of them from CHECK on, before that a free number (log 51). -/
def State.rsaTried (s : State) (g : Engine) (j : PkeJob) : Nat :=
  if j.cmd = 3 ∧ j.alg = 11 then (if 4 ≤ g.phase s.lnow then (g.outcome j).tried else s.free1 % 65536) else 0

/-- The registers of an engine's page (10 Table 10.10). -/
def State.pkeVal (s : State) (e off : Nat) : Nat :=
  let g := s.eng e
  let busy := g.busy
  match off with
  | 0x040 => b2n g.enable
  | 0x044 => pk [(0, 3, g.phase s.lnow), (3, 3, (g.job.map (fun j => j.cls)).getD 0),
                 (6, 1, b2n ((g.job.map (fun j => j.long)).getD false)), (7, 1, b2n g.katPass), (8, 1, b2n g.katDone)]
  | 0x048 => pk [(0, 3, (g.job.map (fun j => j.cmd)).getD 0), (4, 4, (g.job.map (fun j => j.alg)).getD 0),
                 (8, 16, (g.job.map (s.rsaTried g)).getD 0)]
  | 0x04C => (g.job.map (fun j => j.tagv)).getD 0
  | 0x050 => g.subAddr
  | 0x058 => g.subRes
  | 0x05C => g.jobs
  | 0x060 => pk [(0, 16, g.aborted), (16, 16, g.faults)]
  | 0x064 => min (busy / 600000) (2 ^ 32 - 1)
  | 0x068 => pk [(0, 9, s.queued 1), (16, 11, s.queued 2)]
  | 0x06C => pk [(0, 7, s.queued 3), (16, 6, s.queued 4)]
  | 0x070 => pk [(0, 11, (s.pkeQ.filter (fun j => !j.held && j.aged s.lnow)).length), (11, 2, s.longRunning)]
  | 0x074 => g.corr
  | _ => 0

def State.sealVal (s : State) (off : Nat) (r : Requester) : Nat :=
  let t := s.tr (s.getSel 0x1F 0x04C r)
  match off with
  | 0x040 => pk [(0, 8, s.sheafDocs), (16, 14, s.sheafMs)]
  | 0x044 => pk [(0, 9, (s.trs.filter (fun e => e.2.job)).length), (9, 1, b2n s.areaHigh), (10, 1, b2n (s.trs.any (fun e => e.2.recovering)))]
  | 0x048 => pk [(0, 17, ceilDiv s.sealUsed 1048576)]
  | 0x050 => t.recNo
  | 0x054 => t.recNo / 2 ^ 32
  | 0x058 => t.signed
  | 0x05C => t.signed / 2 ^ 32
  | 0x064 => s.signCnt
  | 0x068 => pk [(0, 16, s.dropSheaf), (16, 16, s.dropImage)]
  | _ => 0

/-- Bytes in use in a barn area (08 Table 8.1), a tree copy in its slot of 1 MiB (05 R166); none for barn control, whose tables the spec
does not size. -/
def State.areaBytes (s : State) (a : Nat) : Option Nat :=
  match a with
  | 0 => some (([0, 1, 2, 3].map (fun h => journalBytes (s.hall h).journal)).foldl (· + ·) 0)
  | 1 => some (s.excLog.length * 32)
  | 2 => some (ledgerBytes s.ledger)
  | 3 => some (s.copies.length * 1048576)
  | 4 => some (s.healCopies.foldl (fun a e => a + e.2.2.length) 0)
  | 6 => some ((s.kjournal.map KRec.size).foldl (· + ·) 0)
  | 5 => some s.sealUsed
  | 7 => some ((s.ulog.map (fun u => u.bytes.length)).foldl (· + ·) 0)
  | 8 => some s.stagingUsed
  | _ => none

def State.barnVal (s : State) (off : Nat) (r : Requester) : Nat :=
  let a := s.act
  match off with
  | 0x040 => pk [(0, 1, b2n s.stageEn), (1, 1, b2n s.diffCopy)]
  | 0x044 => pk [(0, 1, b2n s.brnReady), (1, 1, b2n (Decidable.decide (stagingArea * 9 ≤ s.stagingUsed * 10))),
                 (2, 1, b2n (s.ports.any (fun e => e.2.upd.revertPend)))]
  | 0x04C => pk [(0, 18, match s.areaBytes (s.getSel pgBarn 0x048 r) with
      | some n => ceilDiv n 1048576
      | none => s.free1)]
  | 0x050 => pk [(0, 16, s.maxPe), (16, 16, s.badBlocks)]
  | 0x054 => pk [(0, 4, a.stage), (4, 1, a.kind), (5, 1, a.mode), (8, 2, a.outcome), (12, 4, a.reason)]
  | 0x058 => a.no
  | 0x05C => pk [(0, 11, a.changed.length), (11, 11, s.actDone)]
  | 0x060 => pk [(0, 11, s.actConfirmedCount), (11, 11, s.actFailedCount)]
  | 0x064 => s.defConf
  | 0x068 => pk [(0, 1, s.loft.active), (1, 1, s.retained.actSlot), (2, 1, b2n s.retained.otherOk), (3, 1, b2n s.retained.trial),
                 (4, 1, b2n a.standbyReady), (5, 1, b2n a.parked), (6, 1, b2n a.fallback)]
  | 0x070 => match a.trialWin with
    | some w => s.msLeft w
    | none => 0
  | 0x074 => s.retained.serial
  | 0x078 => pk [(0, 4, bitSet 4 (fun k => (s.manSlot k).complete)), (4, 4, bitSet 4 (fun k => (s.manSlot k).checked))]
  | _ => 0

def State.attVal (s : State) (off : Nat) : Nat :=
  let a := s.att
  match off with
  | 0x040 => pk [(0, 1, b2n a.hmacEn), (1, 1, b2n a.quoteEn)]
  | 0x044 => pk [(0, 1, b2n (Decidable.decide ((s.slot 7).alg ≠ 0))), (1, 1, b2n (tabFind s.certs s.epoch).isSome)]
  | 0x048 => pk [(0, 16, a.made), (16, 16, a.quotes)]
  | 0x04C => a.refused
  | _ => 0

/-! ### Line position, host side, supply, environment -/

def State.lpVal (s : State) (off : Nat) (r : Requester) : Nat :=
  let sel := selTr s r
  let t := s.tr sel
  let n := fun (st : TrState) => (s.trs.filter (fun e => e.2.st == st)).length
  let p := s.port (s.getSel pgLp 0x078 r)
  if 0x048 ≤ off ∧ off ≤ 0x05C then
    (tabGet ((s.tr 0).blk.words.map (fun _ => 0)) s.lpStage (reqNum r)).getD ((off - 0x048) / 4) 0
  else match off with
  | 0x040 => pk [(0, 9, n .idle), (9, 9, n .moving), (18, 9, n .faulted)]
  | 0x064 => pk [(0, 3, trCode t.st), (3, 1, b2n (t.gap.isSome || t.idleGap.isSome)), (4, 1, b2n t.doc.isSome), (5, 3, t.faultCause)]
  | 0x068 => t.pos
  | 0x06C => t.pos / 2 ^ 32
  | 0x070 => t.gapNo
  | 0x074 => (s.tied sel).length
  | 0x07C => pk [(0, 9, p.tie.getD 0x100), (9, 1, b2n p.notify)]
  | 0x080 => pk [(0, 2, tabGet 0 s.lpResult (reqNum r)), (8, 1, b2n ([0, 1, 2, 3].any (fun h => (s.hall h).ties.any (fun w => w.r == reqNum r))))]
  | 0x084 => pk [(0, 16, s.lpRefused), (16, 16, s.lpLate)]
  | 0x088 => pk [(0, 16, s.lpForced)]
  | _ => 0

def State.encVal (s : State) (n off : Nat) : Nat :=
  let e := s.enc n
  let t := s.tr n
  match off with
  | 0x040 => pk [(0, 1, b2n e.dirInv), (1, 1, b2n e.dpInv), (2, 1, b2n e.indexEn)]
  | 0x044 => pk [(0, 3, trCode t.st), (3, 1, b2n e.backward), (4, 1, b2n t.doc.isSome), (5, 1, b2n (t.gap.isSome || t.idleGap.isSome))]
  | 0x048 => t.pos
  | 0x04C => t.pos / 2 ^ 32
  | 0x050 => e.filter
  | 0x054 => e.period
  | 0x058 => e.tol
  | 0x05C => e.rate
  | 0x060 => t.gapNo
  | 0x064 => pk [(0, 16, e.quad), (16, 16, e.indexN)]
  | _ => 0

def Xng.net (x : Xng) (k : Nat) : NetPort := if k = 0 then x.net0 else x.net1

def State.xngVal (s : State) (off : Nat) (r : Requester) : Nat :=
  let x := s.xng
  let n := x.net (s.getSel pgXng 0x054 r % 2)
  match off with
  | 0x040 => pk [(0, 1, b2n x.gwUp), (1, 6, bitSet 6 (fun k => (s.ses k).partner))]
  | 0x044 => x.dType
  | 0x048 => x.dLen
  | 0x04C => pk [(0, 16, x.dIn), (16, 16, x.dOut)]
  | 0x050 => x.dCrc
  | 0x058 => pk [(0, 1, b2n n.enable), (1, 1, b2n n.dhcp)]
  | 0x05C => n.addr
  | 0x060 => n.mask
  | 0x064 => n.router
  | 0x068 => n.lease
  | _ => 0

def State.sesVal (s : State) (x off : Nat) : Nat :=
  let v := s.ses x
  match off with
  | 0x040 => pk [(0, 2, v.st), (2, 3, v.role), (5, 1, b2n v.limited), (6, 1, b2n v.svc), (7, 1, b2n v.test), (8, 7, v.outst.length)]
  | 0x044 => v.rxSeq
  | 0x048 => v.rxSeq / 2 ^ 32
  | 0x04C => v.txSeq
  | 0x050 => v.txSeq / 2 ^ 32
  | 0x054 => pk [(0, 7, v.events.length), (7, 1, b2n (v.missedF || v.missed.isSome)), (8, 3, v.minCode)]
  | 0x058 => pk [(0, 16, v.requests), (16, 16, v.refused)]
  | 0x05C => pk [(0, 3, v.fails), (3, 1, b2n (v.blocked s.lnow)), (16, 16, match v.blockEnd with
      | some e => (e + 1 - s.lnow) / 600000000
      | none => 0)]
  | 0x060 => pk [(0, 12, v.idleS), (16, 4, v.roles)]
  | _ => 0

def State.alarmVal (s : State) (off : Nat) : Nat :=
  let c := s.root
  match off with
  | 0x040 => b2n c.hold
  | 0x044 => pk [(0, 1, b2n c.closed), (1, 1, b2n c.pulseEnd.isSome), (2, 1, b2n c.bootHold)]
  | 0x048 => c.pulses
  | 0x04C => c.lastAlarm
  | _ => 0

def State.svcVal (s : State) (off : Nat) : Nat :=
  match off with
  | 0x040 => pk [(0, 1, b2n s.otp.svcClosed), (1, 1, b2n s.otp.testClosed), (2, 1, b2n s.svc.chal.isSome),
                 (3, 3, (s.svc.chal.map (fun c => c.1)).getD 0), (6, 2, (s.svc.chal.map (fun c => c.2.1)).getD 0)]
  | 0x044 => pk [(0, 16, s.svc.reopens), (16, 16, s.svc.fails)]
  | 0x048 => match s.svc.chal with
    | some c => s.msLeft c.2.2.2
    | none => 0
  | _ => 0

def State.pwrVal (s : State) (off : Nat) (r : Requester) : Nat :=
  let w := s.pwr
  let d := s.dom (selDom s r)
  match off with
  | 0x040 => pk [(0, 1, b2n w.mainsOk), (1, 1, b2n w.warning), (2, 1, b2n w.charging), (3, 1, b2n w.ready), (4, 1, b2n w.testing.isSome)]
  | 0x044 => pk [(0, 16, w.vrms), (16, 16, w.freq)]
  | 0x048 => pk [(0, 16, w.bulk), (16, 16, w.inputW)]
  | 0x04C => pk [(0, 16, w.bankMv), (16, 16, w.energy)]
  | 0x050 => pk [(0, 16, w.capMf), (16, 16, w.esr)]
  | 0x054 => pk [(0, 16, w.full), (16, 16, match w.testAt with
      | some t => min 65535 ((s.lnow - t) / 2160000000000)
      | none => 65535)]
  | 0x060 => pk [(0, 1, b2n (s.domOn (selDom s r))), (1, 1, b2n d.tripped), (2, 1, b2n d.locked),
                 (16, 16, if s.domOn (selDom s r) then s.free1 else 0)]
  | 0x068 => w.result
  | 0x06C => pk [(0, 16, w.dips), (16, 16, s.retained.warnings)]
  | _ => 0

/-- A reading as a 16-bit two's complement word. -/
def int16 (i : Int) : Nat := (i % 65536).toNat

def State.envVal (s : State) (off : Nat) : Nat :=
  if 0x040 ≤ off ∧ off ≤ 0x05C then
    let k := (off - 0x040) / 4
    let x := s.sensor k
    match x.temp with
    | some t => pk [(0, 16, int16 t), (16, 1, b2n (Decidable.decide (s.lnow < x.lastOk + 600000000))), (17, 1, b2n (Decidable.decide (warnAt k ≤ t))),
                    (18, 1, b2n (Decidable.decide (tripAt k ≤ t)))]
    | none => if x.failed then pk [(0, 16, s.free1)] else 0
  else if off = 0x060 then pk [(0, 16, int16 s.env.rise), (16, 1, b2n s.env.airflow)]
  else 0

/-! ### Any register -/

/-- The current value of a block register. -/
def State.blockVal (s : State) (page off : Nat) (r : Requester) : Nat :=
  let k := pageKind page
  let n := k.2
  match k.1 with
  | .root => s.rootVal off
  | .loft => s.loftVal off
  | .rc => s.rcVal off r
  | .otp => s.otpVal off r
  | .puf => s.pufVal off
  | .grn => s.grnVal off r
  | .wwd => s.wwdVal off
  | .lwd => s.lwdVal off
  | .pke => s.pkeVal n off
  | .sealEng => s.sealVal off r
  | .barn => s.barnVal off r
  | .att => s.attVal off
  | .hctl => s.hctlVal n off r
  | .hcol => s.hcolVal n off r
  | .drc => s.drcVal n off
  | .hsh => s.hshVal n off
  | .gln => s.glnVal n off r
  | .rng => s.rngVal n off r
  | .rls => s.rlsVal n off r
  | .mir => s.mirVal n off r
  | .gal => s.galVal n off
  | .pw => s.pwVal n off r
  | .ls => s.lsVal n off r
  | .lp => s.lpVal off r
  | .enc => s.encVal n off
  | .xng => s.xngVal off r
  | .ses => s.sesVal n off
  | .alarm => s.alarmVal off
  | .svc => s.svcVal off
  | .pwr => s.pwrVal off r
  | .env => s.envVal off

/-- The LO registers of a kind of page whose HI register is latched by their read (17 R483): the read-only pairs; the HI register
stands at the next offset. -/
def loRegs : PageKind → List Nat
  | .rng => [0x058, 0x060]
  | .gln => [0x070]
  | .mir => [0x088]
  | .enc => [0x048]
  | .sealEng => [0x050, 0x058]
  | .grn => [0x04C]
  | .otp => [0x064, 0x06C, 0x074, 0x090]
  | .ses => [0x044, 0x04C]
  | .root => [0x05C]
  | .loft => [0x04C, 0x058, 0x060]
  | .hctl => [0x044]
  | .lp => [0x068]
  | .gal => [0x044]
  | _ => []

def isLo (page off : Nat) : Bool := (loRegs (pageKind page).1).contains off
def isHi (page off : Nat) : Bool := 4 ≤ off && (loRegs (pageKind page).1).contains (off - 4)

/-- A register of the port window that PW_STATE latches (17 R492). -/
def isPwLatch (page off : Nat) : Bool := (pageKind page).1 == .pw && 0x048 ≤ off && off ≤ 0x054

/-- A selector that a requester holds (17 R483): it reads the value last written. -/
def isSelReg (page off : Nat) : Bool := 0x40 ≤ off && (regW page off).sel

/-- What a read of a register answers a requester. -/
def State.regVal (s : State) (page off : Nat) (r : Requester) : Nat :=
  (if off < 0x40 then s.headerVal page off r
   else if isSelReg page off then s.getSel page off r
   else if isHi page off || isPwLatch page off then s.getLatch page off r
   else s.blockVal page off r) % 2 ^ 32

/-- The latches that a read takes: the HI register of a LO register, the four registers of PW_STATE. -/
def State.latchRead (s : State) (page off : Nat) (r : Requester) : State :=
  if isLo page off then s.setLatch page (off + 4) r (s.blockVal page (off + 4) r)
  else if (pageKind page).1 = .pw ∧ off = 0x044 then
    each [0x048, 0x04C, 0x050, 0x054] (fun o t => t.setLatch page o r (s.blockVal page o r % 2 ^ 32)) s
  else s

/-- A read of the OTP shadow through OTP_RD_DATA meets an armed injection (13 R407, 11 R338): corrected, or the row is read again
from the array. -/
def State.shadowRead (s : State) (page off : Nat) (r : Requester) : State :=
  if page = pgOtp ∧ off = 0x058 then
    match s.injection pgOtp 0 none with
    | 0 => s
    | 1 => s.disarm pgOtp
    | _ => (s.disarm pgOtp).modOtp (fun o => o.reread (s.getSel pgOtp 0x054 r))
  else s

/-- A read of LFT_JBUF samples the journal buffer, whose use is free (log 57): PEAK is at least every value read, and JBUF_HIGH is set
at the latest by the read that shows 90 % reached (17 R495). -/
def State.jbufSample (s : State) (page off : Nat) : State :=
  if page = 0x10 ∧ off = 0x06C then
    let used := s.free1 % 8193
    let peak := max s.loft.jbufPeak (max used (s.free1 / 8193 % 8193))
    (s.modLoft (fun l => { l with jbufUsed := used, jbufPeak := peak })).when (s.loft.jbufPeak < 7373 && 7373 ≤ peak) (fun t => t.raise 0x10 5)
  else s

/-- A register is read: 17 R484 in reset, else its value with the latches it takes. -/
def State.readReg (s : State) (page off : Nat) (r : Requester) : Option Nat × State :=
  if s.barred page r then (none, s.accErr page off 6 r)
  else
    let s1 := (s.shadowRead page off r).jbufSample page off
    (some (s1.regVal page off r), { s1.latchRead page off r with freeCtr := s1.freeCtr + 1 })

/-- LO_REGISTER_READ: a read of a LO register by a requester. -/
def execLoRegisterRead (r : Requester) (page : BitVec 9) (off : BitVec 12) (s : State) : Host.Outcome State Fault Refusal :=
  (s.when (s.live r && pageExists page.toNat && isLo page.toNat off.toNat) (fun t => (t.readReg page.toNat off.toNat r).2)).done

/-- PW_STATE_READ: the port window of a gallery is latched for a requester. -/
def execPwStateRead (r : Requester) (g : GalleryId) (s : State) : Host.Outcome State Fault Refusal :=
  (s.when (s.live r) (fun t => (t.readReg (pgPw g.val) 0x044 r).2)).done

end Sys2Proof.Machine
end

