-- ==== Sys2Proof/Machine/Registers.lean ====
section
/-! DEFINITION. What a write does to every register (00 R15, the register tables of 03 to 15 and 17), the PAGE messages of a host
(14 R431), the locks (17 R489) and CNT_CLEAR (17 R488). -/

namespace Sys2Proof.Machine

/-- A field takes a value of its range; another value is ignored. -/
def ranged (lo hi v old : Nat) : Nat := if lo ≤ v ∧ v ≤ hi then v else old

/-! ### Error words of the header and of the collectors (13 Table 13.3, R382, R383) -/

/-- ERR_FIRST of a link statistics page loses VALID when the last error word of its gallery becomes 0. -/
def State.lsFirst (s : State) (g : Nat) : State :=
  if (s.portErr.filter (fun e => e.1 / 64 == g)).all (fun e => e.2 == 0) then
    s.modHdr (pgLs g) (fun h => { h with firstValid := false, firstBit := 0, firstPort := 0x3FF })
  else s

/-- A write of ERR_STAT: on a link statistics page it clears the bits in all 64 error words of the gallery. -/
def State.errClear (s : State) (page w : Nat) : State :=
  if isLsPage page then
    let g := pageGal page
    let pe : Tab (BitVec 8) := s.portErr.map (fun e => if e.1 / 64 == g then (e.1, e.2 &&& ~~~(BitVec.ofNat 8 w)) else e)
    { s with portErr := pe }.lsFirst g
  else s.modHdr page (fun h => h.clearErr (BitVec.ofNat 32 w))

/-- HCOL_PORT_ERR of the selected port. -/
def State.portErrClear (s : State) (p w : Nat) : State :=
  { s with portErr := tabSet s.portErr p (s.perr p &&& ~~~(BitVec.ofNat 8 w)) }.lsFirst (galOf p)

/-- A collector word is cleared; a bit whose child is not zero is set again in the cycle (the collectors latch at the end of every
command). -/
def clearBits (c : BitVec 32) (w : Nat) : BitVec 32 := c &&& ~~~(BitVec.ofNat 32 w)

/-! ### CNT_CLEAR (17 R488): the saturating counters of a page; retained counts stay -/

def Link.clearCnt (l : Link) : Link :=
  { l with crcErr := 0, protoErr := 0, nakCnt := 0, replayCnt := 0, credLate := 0, trainFail := 0, los := 0, underrun := 0,
           decodeErr := 0, sbDrop := 0 }

/-- Apply a change to every listed port of a range. -/
def State.onPorts (s : State) (lo n : Nat) (f : Port → Port) : State :=
  let ps : Tab Port := s.ports.map (fun e => if lo ≤ e.1 ∧ e.1 < lo + n then (e.1, f e.2) else e)
  { s with ports := ps }

def State.clearHallCounters (s : State) (k : PageKind) (h : Nat) : State :=
  match k with
  | .mir => s.modHall h (fun x => { x with uncCnt := 0, corrCnt := 0, unkCnt := 0, denyCnt := 0 })
  | .rng => s.modHall h (fun x => { x with ignored := 0, denied := 0, partialN := 0, lostN := 0 })
  | .hsh => s.modHall h (fun x => { x with hshFill := 0, hshCommit := 0, hshRb := 0, hshGlean := 0 })
  | .gln => (s.onPorts (256 * h) 256 (fun v => { v with gln := { v.gln with
      cycles := 0, lateCyc := 0, diverged := 0, transient := 0, healedN := 0, healFail := 0 } })).modHall h (fun x => { x with overrun := 0 })
  | .rls => s.modHall h (fun x => { x with flights := 0 })
  | .drc => s.modHall h (fun x => { x with drcCorr := 0, drcUnc := 0 })
  | .hcol => s.modHall h (fun x => { x with portResets := 0, escal := 0, hallResets := 0 })
  | .hctl => (s.onPorts (256 * h) 256 (fun v => { v with pwd := { v.pwd with services := 0, ignored := 0 } })).modHall h
      (fun x => { x with stairRetry := 0 })
  | _ => s

def State.clearBlockCounters (s : State) (page : Nat) : State :=
  let k := pageKind page
  match k.1 with
  | .gal => s.modRoot (fun r => { r with galResets := tabSet r.galResets k.2 0 })
  | .ls => s.onPorts (64 * k.2) 64 (fun v => { v with link := v.link.clearCnt })
  | .rc => s.modRoot (fun r => { r with lost := 0, merged := 0 })
  | .otp => s.modOtp (fun o => { o with partN := 0, unstN := 0, twinFix := 0 })
  | .grn => { s with gran := { s.gran with staleCnt := 0, exhCnt := 0 } }
  | .wwd => { s with wwd := { s.wwd with services := 0, refused := 0 } }
  | .pke => s.modEng k.2 (fun g => { g with jobs := 0, aborted := 0, faults := 0, busy := 0, corr := 0 })
  | .sealEng => { s with signCnt := 0, dropSheaf := 0, dropImage := 0 }
  | .att => { s with att := { s.att with made := 0, quotes := 0, refused := 0 } }
  | .lp => { s with lpRefused := 0, lpLate := 0, lpForced := 0 }
  | .enc => s.modEnc k.2 (fun e => { e with quad := 0, indexN := 0 })
  | .xng => { s with xng := { s.xng with dType := 0, dLen := 0, dIn := 0, dOut := 0, dCrc := 0 } }
  | .ses => s.modSes k.2 (fun v => { v with requests := 0, refused := 0 })
  | .alarm => s.modRoot (fun r => { r with pulses := 0 })
  | .svc => { s with svc := { s.svc with reopens := 0, fails := 0 } }
  | .pwr => s.modPwr (fun w => { w with dips := 0 })
  | _ => s.clearHallCounters k.1 k.2

/-- CNT_CLEAR: the block's counters and COUNT of ACCESS. -/
def State.clearCounters (s : State) (page : Nat) : State :=
  (s.clearBlockCounters page).modHdr page (fun h => { h with accCount := 0 })

/-! ### Block registers: n is the value the RW fields take, w the bits written -/

def State.putMir (s : State) (h off : Nat) (r : Requester) (n w : Nat) : State :=
  match off with
  | 0x040 => s.modHall h (fun x => { x with serveEn := bit n 0, logUnk := bit n 1 })
  | 0x04C => s.portCfgWrite h r false n
  | 0x050 => s.portCfgWrite h r true n
  | 0x05C => s.idxWrite h r false n
  | 0x060 => s.idxWrite h r true n
  | 0x064 => match bits w 1 0 with
    | 1 => s.idxValidate h r (bit w 8)
    | 2 => s.idxArm h r
    | 3 => s.idxDisarm h r
    | _ => s
  | _ => s

def State.putRng (s : State) (h off : Nat) (r : Requester) (n w : Nat) : State :=
  match off with
  | 0x040 => s.modHall h (fun x => { x with admitEn := bit n 0, commitEn := bit n 1 })
  | 0x050 => s.modRing (s.selPort h (pgRng h) 0x04C r) (fun g => { g with quota := ranged 4096 262144 (bits n 18 0) g.quota })
  | 0x06C => s.modHall h (fun x =>
      let c := s.getSel (pgRng h) 0x068 r % 16
      let old := tabGet ({} : AuthClass) x.classes c
      { x with classes := tabSet x.classes c { auth := bits n 2 0, timeout := ranged 1 3600 (bits n 27 16) old.timeout } })
  | 0x070 => s.modHall h (fun x => { x with decFirst := x.decFirst / 2 ^ 32 * 2 ^ 32 + n })
  | 0x074 => s.modHall h (fun x => { x with decFirst := x.decFirst % 2 ^ 32 + bits n 15 0 * 2 ^ 32 })
  | 0x078 => match bits w 1 0 with
    | 1 => s.decCmd h r true (bits w 31 16)
    | 2 => s.decCmd h r false (bits w 31 16)
    | _ => s
  | _ => s

def State.putGln (s : State) (h off : Nat) (r : Requester) (n : Nat) : State :=
  match off with
  | 0x040 => s.modHall h (fun x => { x with
      glnEn := bit n 0, cycleS := ranged 60 3600 (bits n 27 16) x.cycleS, ratePct := ranged 1 5 (bits n 30 28) x.ratePct })
  | 0x04C => s.modGln (s.selPort h (pgGln h) 0x048 r) (fun g => { g with
      action := bits n 1 0, limit := ranged 1 16 (bits n 12 8) g.limit })
  | _ => s

/-- RLS_PORT_CFG: in RELEASED and ADOPTED only DEPART_MODE is writable (06 R215). -/
def Port.rlsCfg (v : Port) (n : Nat) : Port :=
  let fixed := v.st = .released ∨ v.st = .adopted
  { v with rls := { v.rls with
    depMode := bit n 8, group := if fixed then v.rls.group else bits n 7 0, hold := if fixed then v.rls.hold else bit n 9,
    leftOut := if fixed ∨ bits n 7 0 = v.rls.group then v.rls.leftOut else false } }

def State.putRls (s : State) (h off : Nat) (r : Requester) (n w : Nat) : State :=
  match off with
  | 0x040 => s.modHall h (fun x => { x with releaseEn := bit n 0, finalSweep := bit n 1 })
  | 0x04C => s.modHall h (fun x => { x with
      bootWinMs := ranged 100 60000 (bits n 15 0) x.bootWinMs, flightMax := ranged 1 256 (bits n 24 16) x.flightMax })
  | 0x050 => s.modHall h (fun x => { x with groupWait := ranged 1 3600 (bits n 11 0) x.groupWait })
  | 0x058 => s.modPort (s.selPort h (pgRls h) 0x054 r) (fun v => v.rlsCfg n)
  | 0x064 => match bits w 1 0 with
    | 1 => s.rlsRelease h r
    | 2 => s.rlsReset h r
    | 3 => s.rlsReverify h r
    | _ => s
  | _ => s

def State.putHctl (s : State) (h off : Nat) (r : Requester) (n w : Nat) : State :=
  let p := s.selPort h (pgHall h) 0x100 r
  match off with
  | 0x104 => s.modPwd p (fun x => { x with
      period := if bits n 15 0 = 0 then 0 else ranged 10 65535 (bits n 15 0) x.period, frac := bits n 17 16 })
  | 0x108 => s.modPwd p (fun x => { x with first := ranged 100 65535 (bits n 15 0) x.first })
  | 0x118 => if bit w 0 then s.pwdClear h r else s
  | _ => s

def State.putHcol (s : State) (h off : Nat) (r : Requester) (w : Nat) : State :=
  let gal := fun (k : Nat) => s.modRoot (fun c => { c with gal := tabSet c.gal (4 * h + k) (clearBits (tabGet 0 c.gal (4 * h + k)) w) })
  match off with
  | 0x040 => s.modRoot (fun c => { c with hcol := tabSet c.hcol h (clearBits (tabGet 0 c.hcol h) w) })
  | 0x044 => gal 0
  | 0x048 => gal 1
  | 0x04C => gal 2
  | 0x050 => gal 3
  | 0x058 => s.portErrClear (s.selPort h (pgHcol h) 0x054 r) w
  | 0x05C => match bits w 1 0 with
    | 1 => s.keyedHcol h r (bits w 31 16) (fun t => t.hcolLink h r)
    | 2 => s.keyedHcol h r (bits w 31 16) (fun t => t.hcolHall h)
    | _ => s
  | _ => s

def State.putHsh (s : State) (h off : Nat) (r : Requester) (n w : Nat) : State :=
  match off with
  | 0x040 => s.modHall h (fun x => { x with laneEn := bits n 7 0 })
  | 0x048 => if bit w 0 then s.hshRun h r else s
  | _ => s

def State.putDrc (s : State) (h off n : Nat) : State :=
  if off = 0x044 then s.modHall h (fun x => { x with scrubEn := bit n 0, scrubH := ranged 1 168 (bits n 15 8) x.scrubH }) else s

/-- A word of the requester's stage. -/
def State.stageWord (s : State) (r : Requester) (k n : Nat) : State :=
  let st := tabGet [0, 0, 0, 0, 0, 0] s.lpStage (reqNum r)
  let tb : Tab (List Nat) := tabSet s.lpStage (reqNum r) (st.set k n)
  { s with lpStage := tb }

def State.putLp (s : State) (off : Nat) (r : Requester) (n w : Nat) : State :=
  match off with
  | 0x048 => s.stageWord r 0 n
  | 0x04C => s.stageWord r 1 n
  | 0x050 => s.stageWord r 2 n
  | 0x054 => s.stageWord r 3 n
  | 0x058 => s.stageWord r 4 n
  | 0x05C => s.stageWord r 5 n
  | 0x060 => match bits w 1 0 with
    | 1 => s.commitStage r
    | 2 => s.faultClear r
    | 3 => s.reloadStage r
    | _ => s
  | 0x07C => s.tieWrite r n
  | _ => s

def State.putEnc (s : State) (k off n : Nat) : State :=
  match off with
  | 0x040 => s.encCtrl k (bit n 0) (bit n 1) (bit n 2)
  | 0x050 => s.modEnc k (fun e => { e with filter := bits n 15 0 })
  | 0x054 => s.modEnc k (fun e => { e with period := bits n 23 0 })
  | 0x058 => s.modEnc k (fun e => { e with tol := bits n 7 0 })
  | _ => s

/-- Network settings of the selected gateway port; the gateway is told (14 R438). -/
def State.putXng (s : State) (off : Nat) (r : Requester) (n : Nat) : State :=
  let k := s.getSel pgXng 0x054 r % 2
  let f := fun (p : NetPort) => { (match off with
    | 0x058 => { p with enable := bit n 0, dhcp := bit n 1 }
    | 0x05C => { p with addr := n }
    | 0x060 => { p with mask := n }
    | 0x064 => { p with router := n }
    | _ => p) with changed := true }
  let x := s.xng
  { s with xng := (if k = 0 then { x with net0 := f x.net0, changedAt := some s.lnow }
                   else { x with net1 := f x.net1, changedAt := some s.lnow }) }

def State.putOtp (s : State) (off n w : Nat) : State :=
  match off with
  | 0x044 => if 1 ≤ bits w 2 0 ∧ bits w 2 0 ≤ 5 then s.otpKeyed (bits w 2 0) (bits w 31 16) (bit w 3) else s
  | 0x048 => s.modOtp (fun o => { o with row := bits n 10 0, region := bits n 21 16 })
  | 0x04C => s.modOtp (fun o => { o with wdata := n })
  | _ => s

def State.putGrn (s : State) (off : Nat) (r : Requester) (n w : Nat) : State :=
  match off with
  | 0x058 => s.setLimit (grnSel s r) n
  | 0x05C => match bits w 3 0 with
    | 1 => s.grnSlotOp r (fun k t => t.grnClearSlot k)
    | 2 => s.grnSlotOp r (fun k t => t.invalidateSlot k)
    | 3 => s.grnSlotOp r (fun k t => t.deriveSlot k w)
    | _ => s
  | 0x060 => { s with gran := { s.gran with opCtx := n } }
  | _ => s

/-- PKE_CTRL, PKE_SUB_ADDR, and ABORT; SUBMIT takes its descriptor from the warden's memory and is a command of its own. -/
def State.putPke (s : State) (e off : Nat) (n w m : Nat) : State :=
  match off with
  | 0x040 =>
    let s1 := if bit m 0 then s.enableWrite e (bit n 0) else s
    if bit w 1 then s1.katStart e else s1
  | 0x050 => s.modEng e (fun g => { g with subAddr := n / 64 * 64 })
  | 0x054 => if bits w 1 0 = 2 then s.abortAt e else s
  | _ => s

/-- ALM_CTRL: the contact is closed by HOLD or by a pulse; TEST starts a pulse. -/
def State.putAlarm (s : State) (off n w m : Nat) : State :=
  if off = 0x040 then
    let s1 := if bit m 0 then s.modRoot (fun c => { c with hold := bit n 0, closed := bit n 0 || c.pulseEnd.isSome }) else s
    if bit w 1 then s1.alarmPulse else s1
  else s

def State.putRc (s : State) (off n w : Nat) : State :=
  match off with
  | 0x040 => s.modRoot (fun c => { c with stat := clearBits c.stat w })
  | 0x044 => s.modRoot (fun c => { c with loftCol := clearBits c.loftCol w })
  | 0x048 => s.modRoot (fun c => { c with hostCol := clearBits c.hostCol w })
  | 0x090 => s.modRoot (fun c => { c with ack := n })
  | 0x094 => s.modRoot (fun c => { c with modEn := bit n 0 })
  | _ => s

def State.putWwd (s : State) (off n w : Nat) : State :=
  match off with
  | 0x040 => { s with wwd := { s.wwd with periodMs := ranged 10 10000 (bits n 13 0) s.wwd.periodMs, slotEn := BitVec.ofNat 16 (bits n 31 16) } }
  | 0x054 => { s with wwd := { s.wwd with dup := s.wwd.dup &&& ~~~(BitVec.ofNat 16 w) } }
  | _ => s

/-- LWD_CFG: CLK_SEL 0 is ignored with LWD_RC_ONLY and sets ERR_STAT [1] (12 R366). -/
def State.putLwd (s : State) (off n m : Nat) : State :=
  if off = 0x040 then
    let bad := s.rcOnly && bit m 8 && !bit n 8
    let s1 : State := { s with lwd := { s.lwd with
      periodS := ranged 1 60 (bits n 5 0) s.lwd.periodS, clkSel := if bad then s.lwd.clkSel else bit n 8 } }
    if bad then s1.raise 0x16 1 else s1
  else s

def State.putSeal (s : State) (off n w : Nat) : State :=
  match off with
  | 0x040 => { s with sheafDocs := ranged 1 255 (bits n 7 0) s.sheafDocs, sheafMs := ranged 100 10000 (bits n 29 16) s.sheafMs }
  | 0x060 => s.sealFlushReg (bits w 8 0)
  | _ => s

def State.putBarn (s : State) (off n : Nat) : State :=
  match off with
  | 0x040 => { s with stageEn := bit n 0, diffCopy := bit n 1 }
  | 0x064 => { s with defConf := ranged 10 3600 (bits n 11 0) s.defConf }
  | _ => s

def State.putSes (s : State) (x off : Nat) (r : Requester) (n w : Nat) : State :=
  match off with
  | 0x060 => s.modSes x (fun v => { v with idleS := ranged 60 3600 (bits n 11 0) v.idleS, roles := bits n 19 16 })
  | 0x064 => if bit w 0 then s.sesCloseCmd x r (bits w 31 16) else s
  | _ => s

def State.putPwr (s : State) (off : Nat) (r : Requester) (w : Nat) : State :=
  match off with
  | 0x058 => if bit w 0 then s.testCmd else s
  | 0x064 => match bits w 1 0 with
    | 1 => s.domCmdOn r
    | 2 => s.domCmdOff r
    | _ => s
  | _ => s

/-- A selector of a requester; LP_TR_SEL loads the stage, PWR_DOM_SEL ignores what is no domain, and the warden's RC_HIST_SEL counts as
reading the entry (log 60). -/
def State.putSel (s : State) (page off : Nat) (r : Requester) (n : Nat) : State :=
  if page = pgLp ∧ off = 0x044 then s.trSelWrite r n
  else if page = pgPwr ∧ off = 0x05C ∧ 1073 < n then s
  else
    let s1 := s.setSel page off r n
    if page = 0x11 ∧ off = 0x050 ∧ r = .warden then s1.modRoot (fun c => { c with readTo := max c.readTo n }) else s1

/-- The header registers that have no rule of their own. -/
def State.putHeader (s : State) (page off n w : Nat) : State :=
  match off with
  | 0x008 => if bit w 0 then s.clearCounters page else s
  | 0x010 => s.errClear page w
  | 0x014 => s.modHdr page (fun h => { h with errMask := BitVec.ofNat 32 n })
  | 0x020 => s.modHdr page (fun h => { h with irqStat := clearBits h.irqStat w })
  | 0x024 => s.modHdr page (fun h => { h with irqEn := BitVec.ofNat 32 n })
  | 0x02C => if bit w 0 then s.modHdr page (fun h => { h with accErr := false, accCount := 0 }) else s
  | _ => s

/-- A block register takes n in its RW fields, and its W1C and WO fields the bits w, of the mask m. -/
def State.putBlock (s : State) (page off : Nat) (r : Requester) (n w m : Nat) : State :=
  let k := pageKind page
  let i := k.2
  match k.1 with
  | .loft => if off = 0x044 ∧ r = .warden then s.modLoft (fun l => { l with cause := clearBits l.cause w }) else s
  | .rc => s.putRc off n w
  | .otp => s.putOtp off n w
  | .grn => s.putGrn off r n w
  | .wwd => s.putWwd off n w
  | .lwd => s.putLwd off n m
  | .pke => s.putPke i off n w m
  | .sealEng => s.putSeal off n w
  | .barn => s.putBarn off n
  | .att => if off = 0x040 then { s with att := { s.att with hmacEn := bit n 0, quoteEn := bit n 1 } } else s
  | .hctl => s.putHctl i off r n w
  | .hcol => s.putHcol i off r w
  | .drc => s.putDrc i off n
  | .hsh => s.putHsh i off r n w
  | .gln => s.putGln i off r n
  | .rng => s.putRng i off r n w
  | .rls => s.putRls i off r n w
  | .mir => s.putMir i off r n w
  | .ls => if off = 0x058 ∧ bit w 0 = true then s.modLink (s.galSel i page r) Link.clearCnt else s
  | .lp => s.putLp off r n w
  | .enc => s.putEnc i off n
  | .xng => s.putXng off r n
  | .ses => s.putSes i off r n w
  | .alarm => s.putAlarm off n w m
  | .pwr => s.putPwr off r w
  | _ => s

/-- A write of v to a register by a requester that may write the bits of mask (00 R15, R16): the RW fields are dropped and an access
error recorded while locked (17 R489). -/
def State.setReg (s : State) (page off v : Nat) (r : Requester) (mask : Nat) : State :=
  if off = 0x018 then s.errInj r page v
  else if off = 0x028 then s.reactSel r page v
  else
    let w := regW page off
    let lk := s.frozen page off v && mask &&& w.rw != 0
    let m := if lk then mask &&& (full ^^^ w.rw) else mask
    let s1 := if lk then s.accErr page off 2 r else s
    let n := blend (s1.regVal page off r) v (m &&& w.rw) &&& w.rw
    if m = 0 then s1
    else if off < 0x40 then s1.putHeader page off n (v &&& m)
    else if w.sel then s1.putSel page off r n
    else s1.putBlock page off r n (v &&& m) m

/-! ### The locks (17 R489) -/

/-- The first write of CFG_LOCK after a reset, a 0 included, fixes it (00 R15). -/
def Hdr.setCfgLock (h : Hdr) (v : Bool) : Hdr := if h.cfgSet then h else { h with cfgLock := v, cfgSet := true }

def Hdr.setErrLock (h : Hdr) (v : Bool) : Hdr := if h.errSet then h else { h with errLock := v, errSet := true }

/-- A write of fields of LOCK by the warden, none for a field it does not write: a field written before is left, and the page
records an access error with reason WRITE_ONCE (00 R15). -/
def State.lockWrite (s : State) (page : Nat) (cfg err : Option Bool) : State :=
  let h := s.hdr page
  let put := fun (v : Option Bool) (f : Hdr → Bool → Hdr) (x : Hdr) => match v with
    | some b => f x b
    | none => x
  let s1 := s.modHdr page (fun x => put err Hdr.setErrLock (put cfg Hdr.setCfgLock x))
  if (cfg.isSome && h.cfgSet) || (err.isSome && h.errSet) then s1.accErr page 0x030 1 .warden else s1

def State.lockBy (s : State) (page : Nat) (r : Requester) (cfg err : Option Bool) : State :=
  s.access17 page 0x030 r (fun t => if r = .warden then t.lockWrite page cfg err else t)

/-- CFG_LOCK: a 1 written to that field of LOCK alone (log 98). -/
def execCfgLock (r : Requester) (page : BitVec 9) (s : State) : Host.Outcome State Fault Refusal :=
  (s.lockBy page.toNat r (some true) none).done

/-- ERR_LOCK: a 1 written to that field of LOCK alone (log 98). -/
def execErrLock (r : Requester) (page : BitVec 9) (s : State) : Host.Outcome State Fault Refusal :=
  (s.lockBy page.toNat r none (some true)).done

/-- CNT_CLEAR of a page by a requester. -/
def execCntClear (r : Requester) (page : BitVec 9) (s : State) : Host.Outcome State Fault Refusal :=
  (s.access17 page.toNat 0x008 r (fun t => t.clearCounters page.toNat)).done

/-! ### A warden's write -/

/-- The landing that runs the warden's writes. -/
def Loft.warden (l : Loft) : Landing := if l.active = 0 then .a else .b

/-- The kick registers and BRN_WDN_CMD are decided by the landing that writes; a plain register write of the warden comes from
the active landing (log 7). -/
def State.byLanding (s : State) (page off v : Nat) : Option State :=
  let l := s.loft.warden
  if page = 0x15 ∧ off = 0x044 then some (s.wwdKick (some l) v)
  else if page = 0x16 ∧ off = 0x044 then some (s.lwdKick (some l) v)
  else if page = pgBarn ∧ off = 0x06C then some (s.wdnCmdWrite l v)
  else none

/-- A warden's write to an aligned register: to an index that is no page it is ignored and reported (17 R481). -/
def State.wardenWrite (s : State) (page off v : Nat) : State :=
  if !s.live .warden || off % 4 ≠ 0 then s
  else match s.byLanding page off v with
  | some t => t
  | none =>
  if !pageExists page then s.raise 0x10 3
  else if s.pageInReset page then s.accErr page off 6 .warden
  else if off = 0x030 then s.lockWrite page (some (bit v 0)) (some (bit v 1))
  else s.setReg page off v .warden (s.writeMask page off .warden)

def execRegisterWrite (page : BitVec 9) (off : BitVec 12) (v : Word) (s : State) : Host.Outcome State Fault Refusal :=
  (s.wardenWrite page.toNat off.toNat v.toNat).done

/-! ### The PAGE messages of a host session (14 R431, 17 R490) -/

/-- Run a write and tell whether the page recorded an access error in it. -/
def State.noting (s : State) (page : Nat) (f : State → State) : Bool × State :=
  let probe := f (s.modHdr page (fun h => { h with accErr := false }))
  ((probe.hdr page).accErr, f s)

/-- A write asks for something outside the bits its requester may write: another value of an RW field, or a 1 to a command or
a sticky bit (17 R490: such a write has no effect). -/
def State.asksMore (s : State) (page off v : Nat) (r : Requester) (mask : Nat) : Bool :=
  let w := regW page off
  let out := full ^^^ (mask &&& full)
  ((v ^^^ s.regVal page off r) &&& w.rw &&& out) != 0 || (v &&& (w.w1c ||| w.wo) &&& out) != 0

/-- A host's write of one register: result code and state (0 OK, 2 RIGHTS, 4 ACCESS). -/
def State.hostWrite (s : State) (x page off v : Nat) (hx : x < 6) : Nat × State :=
  let r := Requester.session ⟨x, hx⟩
  let mask := s.writeMask page off r
  if s.barred page r then (4, s.accErr page off 6 r)
  else if mask = 0 then (if ownRule page off then (4, s.accErr page off 3 r) else (2, s))
  else if s.asksMore page off v r mask then (2, s)
  else
    let y := s.noting page (fun t => t.setReg page off v r mask)
    (if y.1 then 4 else 0, y.2)

/-- The words of a PAGE_READ in order, until one is refused. -/
def State.readWords (s : State) (page : Nat) (r : Requester) : List Nat → State × Bytes × Bool
  | [] => (s, [], true)
  | off :: rest =>
    match s.readReg page off r with
    | (none, t) => (t, [], false)
    | (some v, t) =>
      let y := State.readWords t page r rest
      (y.1, le 4 v ++ y.2.1, y.2.2)

/-- The words of a PAGE_WRITE in order, until one is refused: the state, how many were applied, the result. -/
def State.writeWords (s : State) (x page : Nat) (hx : x < 6) : List (Nat × Nat) → State × Nat × Nat
  | [] => (s, 0, 0)
  | (off, v) :: rest =>
    match s.hostWrite x page off v hx with
    | (0, t) =>
      let y := State.writeWords t x page hx rest
      (y.1, y.2.1 + 1, y.2.2)
    | (c, t) => (t, 0, c)

/-- Offset and count of words lie in the page. -/
def spanOk (off n lo hi : Nat) : Bool := off % 4 == 0 && lo ≤ n && n ≤ hi && off + 4 * n ≤ 4096

def State.pageReadMsg (s : State) (x : SessId) (b : Bytes) : Bytes × State :=
  let page := num b 0 2
  let off := num b 2 2
  let n := num b 4 1
  if !pageExists page then (1 :: zeros 3, s)
  else if !spanOk off n 1 64 then (3 :: zeros 3, s)
  else
    let y := s.readWords page (.session x) ((List.range n).map (fun k => off + 4 * k))
    (le 1 (if y.2.2 then 0 else 4) ++ le 1 (y.2.1.length / 4) ++ zeros 2 ++ y.2.1, y.1)

def execPageRead (x : SessId) (body : Bytes) (s : State) : Host.Outcome State Fault Refusal :=
  (s.serveNow x 0x08 true (body.length == 5) (fun t => t.pageReadMsg x body)).done

def State.pageWriteMsg (s : State) (x : SessId) (b : Bytes) : Bytes × State :=
  let page := num b 0 2
  let off := num b 2 2
  let n := num b 4 1
  if !pageExists page then ([1, 0], s)
  else if !spanOk off n 1 16 then ([3, 0], s)
  else
    let y := s.writeWords x.val page x.isLt ((List.range n).map (fun k => (off + 4 * k, num b (8 + 4 * k) 4)))
    (le 1 y.2.2 ++ le 1 y.2.1, y.1)

def execPageWrite (x : SessId) (body : Bytes) (s : State) : Host.Outcome State Fault Refusal :=
  (s.serveNow x 0x09 true (body.length == 8 + 4 * num body 4 1) (fun t => t.pageWriteMsg x body)).done

/-- PAGE_MODIFY: the register is read, combined and written with no access between. -/
def State.pageModifyMsg (s : State) (x : SessId) (b : Bytes) : Bytes × State :=
  let page := num b 0 2
  let off := num b 2 2
  let mask := num b 4 4
  if !pageExists page then s.failRest 1 3 8
  else if !spanOk off 1 1 1 || (regW page off).rw = 0 || off = 0x030 then s.failRest 3 3 8
  else
    match s.readReg page off (.session x) with
    | (none, t) => t.failRest 4 3 8
    | (some old, t) =>
      let v := (old &&& (full ^^^ mask)) ||| (num b 8 4 &&& mask)
      match t.hostWrite x.val page off v x.isLt with
      | (0, u) => (le 4 0 ++ le 4 old ++ le 4 (u.regVal page off (.session x)), u)
      | (c, u) => u.failRest c 3 8

def execPageModify (x : SessId) (body : Bytes) (s : State) : Host.Outcome State Fault Refusal :=
  (s.serveNow x 0x0A true (body.length == 12) (fun t => t.pageModifyMsg x body)).done

/-- A role may write something of a page other than its selectors (17 R490). -/
def mayWritePage (role : Nat) (page : Nat) : Bool :=
  role == 1 || role == 3 || (role == 2 && (match (pageKind page).1 with
    | .rls => true
    | .sealEng => true
    | .alarm => true
    | _ => false))

def State.pageRightsMsg (s : State) (x : SessId) (b : Bytes) : Bytes × State :=
  let page := num b 0 2
  if !pageExists page then
    let (b, t) := s.failBody 1 5
    (b.take 2 ++ zeros 2 ++ b.drop 2, t)
  else (le 1 0 ++ le 1 (1 + 2 * b2n (mayWritePage (s.ses x).eff page)) ++ zeros 2 ++ le 4 (pageId page), s)

def execPageRights (x : SessId) (body : Bytes) (s : State) : Host.Outcome State Fault Refusal :=
  (s.serveNow x 0x0B true (body.length == 2) (fun t => t.pageRightsMsg x body)).done

end Sys2Proof.Machine
end

