-- ==== Sys2Proof/Machine/Dispatch.lean ====
section
/-! DEFINITION. One arm per command of the module: the dispatch to its meaning. -/

namespace Sys2Proof.Machine

def exec (i : Instr) (s : State) : Host.Outcome State Fault Refusal :=
  match i with
  | .tapDetect p => Sys2Proof.Machine.execTapDetect p s
  | .linkTrained p => Sys2Proof.Machine.execLinkTrained p s
  | .trainingWindowExpiry p => Sys2Proof.Machine.execTrainingWindowExpiry p s
  | .trainRetryTimer p => Sys2Proof.Machine.execTrainRetryTimer p s
  | .lossOfSync p why => Sys2Proof.Machine.execLossOfSync p why s
  | .linkIdleEnd p => Sys2Proof.Machine.execLinkIdleEnd p s
  | .creditWindowExpiry p v => Sys2Proof.Machine.execCreditWindowExpiry p v s
  | .replayWindowExpiry p => Sys2Proof.Machine.execReplayWindowExpiry p s
  | .nakRepeatTimer p => Sys2Proof.Machine.execNakRepeatTimer p s
  | .frameCrcError f => Sys2Proof.Machine.execFrameCrcError f s
  | .frameProtocolError p raw => Sys2Proof.Machine.execFrameProtocolError p raw s
  | .frameOutOfSequence p seq => Sys2Proof.Machine.execFrameOutOfSequence p seq s
  | .ack p ackSeq nak v n => Sys2Proof.Machine.execAck p ackSeq nak v n s
  | .helloFrame p h => Sys2Proof.Machine.execHelloFrame p h s
  | .pairResp p rt ct => Sys2Proof.Machine.execPairResp p rt ct s
  | .pairDone p => Sys2Proof.Machine.execPairDone p s
  | .pairFail p reason => Sys2Proof.Machine.execPairFail p reason s
  | .pairingWindowExpiry p => Sys2Proof.Machine.execPairingWindowExpiry p s
  | .creditInit p c => Sys2Proof.Machine.execCreditInit p c s
  | .credit p c => Sys2Proof.Machine.execCredit p c s
  | .linkDownFrame p => Sys2Proof.Machine.execLinkDownFrame p s
  | .rdReq p cs addr opcode mode => Sys2Proof.Machine.execRdReq p cs addr opcode mode s
  | .rdStop p cs bytes => Sys2Proof.Machine.execRdStop p cs bytes s
  | .wrCmd p c => Sys2Proof.Machine.execWrCmd p c s
  | .wrData p cs data => Sys2Proof.Machine.execWrData p cs data s
  | .admissionResume p => Sys2Proof.Machine.execAdmissionResume p s
  | .flDataIn p op data => Sys2Proof.Machine.execFlDataIn p op data s
  | .flDone p op result status busyUs => Sys2Proof.Machine.execFlDone p op result status busyUs s
  | .sbMsg p data => Sys2Proof.Machine.execSbMsg p data s
  | .positionReport p data => Sys2Proof.Machine.execPositionReport p data s
  | .imageReport p data => Sys2Proof.Machine.execImageReport p data s
  | .confirmation p data => Sys2Proof.Machine.execConfirmation p data s
  | .pwdService p data => Sys2Proof.Machine.execPwdService p data s
  | .attnDone p id => Sys2Proof.Machine.execAttnDone p id s
  | .tapEvent p e cs => Sys2Proof.Machine.execTapEvent p e cs s
  | .ctrlAck p id lines => Sys2Proof.Machine.execCtrlAck p id lines s
  | .lines p lines => Sys2Proof.Machine.execLines p lines s
  | .attnClrTimer p => Sys2Proof.Machine.execAttnClrTimer p s
  | .attentionWindowExpiry p => Sys2Proof.Machine.execAttentionWindowExpiry p s
  | .refillStart p => Sys2Proof.Machine.execRefillStart p s
  | .mirIdxDataWrite h r hi v => Sys2Proof.Machine.execMirIdxDataWrite h r hi v s
  | .validate h r bank => Sys2Proof.Machine.execValidate h r bank s
  | .arm h r => Sys2Proof.Machine.execArm h r s
  | .disarm h r => Sys2Proof.Machine.execDisarm h r s
  | .mirPortCfgWrite h r timing v => Sys2Proof.Machine.execMirPortCfgWrite h r timing v s
  | .commitStart p => Sys2Proof.Machine.execCommitStart p s
  | .allow h r count => Sys2Proof.Machine.execAllow h r count s
  | .refuse h r count => Sys2Proof.Machine.execRefuse h r count s
  | .authWindowExpiry p => Sys2Proof.Machine.execAuthWindowExpiry p s
  | .journalCheckpointTimer h => Sys2Proof.Machine.execJournalCheckpointTimer h s
  | .readbackStart p => Sys2Proof.Machine.execReadbackStart p s
  | .patrolScrubRead h unit o => Sys2Proof.Machine.execPatrolScrubRead h unit o s
  | .ringQuery x body => Sys2Proof.Machine.execRingQuery x body s
  | .ringDetail x body => Sys2Proof.Machine.execRingDetail x body s
  | .ringDecide x body => Sys2Proof.Machine.execRingDecide x body s
  | .ringSummary x body => Sys2Proof.Machine.execRingSummary x body s
  | .gleanerReadStart h => Sys2Proof.Machine.execGleanerReadStart h s
  | .gleanerCycleDeadline p => Sys2Proof.Machine.execGleanerCycleDeadline p s
  | .healJobStart p => Sys2Proof.Machine.execHealJobStart p s
  | .run h r => Sys2Proof.Machine.execRun h r s
  | .mainsStable m => Sys2Proof.Machine.execMainsStable m s
  | .loftResetRelease o => Sys2Proof.Machine.execLoftResetRelease o s
  | .pufRetryTimer o => Sys2Proof.Machine.execPufRetryTimer o s
  | .wardenStart => Sys2Proof.Machine.execWardenStart s
  | .dramTrainingDone h ok laneFail => Sys2Proof.Machine.execDramTrainingDone h ok laneFail s
  | .barnReplayDone h => Sys2Proof.Machine.execBarnReplayDone h s
  | .tapPhyGalleryPowerOn => Sys2Proof.Machine.execTapPhyGalleryPowerOn s
  | .bringupWindowExpiry => Sys2Proof.Machine.execBringupWindowExpiry s
  | .flightDecision h => Sys2Proof.Machine.execFlightDecision h s
  | .groupWaitExpiry h group => Sys2Proof.Machine.execGroupWaitExpiry h group s
  | .hallGroupReport h group => Sys2Proof.Machine.execHallGroupReport h group s
  | .bootWindowExpiry p => Sys2Proof.Machine.execBootWindowExpiry p s
  | .rateSampleTick => Sys2Proof.Machine.execRateSampleTick s
  | .release h r => Sys2Proof.Machine.execRelease h r s
  | .reset h r => Sys2Proof.Machine.execReset h r s
  | .reverify h r => Sys2Proof.Machine.execReverify h r s
  | .departPortStart p => Sys2Proof.Machine.execDepartPortStart p s
  | .powerFailWarning => Sys2Proof.Machine.execPowerFailWarning s
  | .shutterHallHandoff => Sys2Proof.Machine.execShutterHallHandoff s
  | .shutterDomainsOff => Sys2Proof.Machine.execShutterDomainsOff s
  | .shutterEnd => Sys2Proof.Machine.execShutterEnd s
  | .encoderCount n e => Sys2Proof.Machine.execEncoderCount n e s
  | .indexEdge n => Sys2Proof.Machine.execIndexEdge n s
  | .lineFault n => Sys2Proof.Machine.execLineFault n s
  | .rateMeasureTick n => Sys2Proof.Machine.execRateMeasureTick n s
  | .transportIdleTimeout t => Sys2Proof.Machine.execTransportIdleTimeout t s
  | .idleGapTimer t => Sys2Proof.Machine.execIdleGapTimer t s
  | .idleGapExpiry t => Sys2Proof.Machine.execIdleGapExpiry t s
  | .gapWindowExpiry t => Sys2Proof.Machine.execGapWindowExpiry t s
  | .gapGuaranteeEnd t => Sys2Proof.Machine.execGapGuaranteeEnd t s
  | .gapOpenNotice h => Sys2Proof.Machine.execGapOpenNotice h s
  | .gapCloseNotice h => Sys2Proof.Machine.execGapCloseNotice h s
  | .deferWindowExpiry p => Sys2Proof.Machine.execDeferWindowExpiry p s
  | .hallChangeReport h => Sys2Proof.Machine.execHallChangeReport h s
  | .sheafTimer t => Sys2Proof.Machine.execSheafTimer t s
  | .sealRecovery t => Sys2Proof.Machine.execSealRecovery t s
  | .sealFlush r tr => Sys2Proof.Machine.execSealFlush r tr s
  | .sealStatus x body => Sys2Proof.Machine.execSealStatus x body s
  | .sealRecords x body => Sys2Proof.Machine.execSealRecords x body s
  | .sealSheaf x body => Sys2Proof.Machine.execSealSheaf x body s
  | .sealFlushReq x body => Sys2Proof.Machine.execSealFlushReq x body s
  | .lpTrSelWrite r t => Sys2Proof.Machine.execLpTrSelWrite r t s
  | .commit r => Sys2Proof.Machine.execCommit r s
  | .faultClr r => Sys2Proof.Machine.execFaultClr r s
  | .reload r => Sys2Proof.Machine.execReload r s
  | .lpTieDataWrite r v => Sys2Proof.Machine.execLpTieDataWrite r v s
  | .tieWriteArrival h => Sys2Proof.Machine.execTieWriteArrival h s
  | .stageOpen x body => Sys2Proof.Machine.execStageOpen x body s
  | .stageBlock x body => Sys2Proof.Machine.execStageBlock x body s
  | .stageStatus x body => Sys2Proof.Machine.execStageStatus x body s
  | .stageClose x body => Sys2Proof.Machine.execStageClose x body s
  | .stageTreeComputed handle => Sys2Proof.Machine.execStageTreeComputed handle s
  | .barnWriteDurable => Sys2Proof.Machine.execBarnWriteDurable s
  | .stageDiscard x body => Sys2Proof.Machine.execStageDiscard x body s
  | .stageList x body => Sys2Proof.Machine.execStageList x body s
  | .manifestLoad x body => Sys2Proof.Machine.execManifestLoad x body s
  | .manifestCheck x body => Sys2Proof.Machine.execManifestCheck x body s
  | .manifestActivate x body => Sys2Proof.Machine.execManifestActivate x body s
  | .manifestStatus x body => Sys2Proof.Machine.execManifestStatus x body s
  | .manifestCancel x body => Sys2Proof.Machine.execManifestCancel x body s
  | .manifestHistory x body => Sys2Proof.Machine.execManifestHistory x body s
  | .manifestDiscard x body => Sys2Proof.Machine.execManifestDiscard x body s
  | .actDrainDone => Sys2Proof.Machine.execActDrainDone s
  | .actCopy => Sys2Proof.Machine.execActCopy s
  | .confirmWindowExpiry p => Sys2Proof.Machine.execConfirmWindowExpiry p s
  | .wdnSlotWritten back => Sys2Proof.Machine.execWdnSlotWritten back s
  | .loadStandby src key => Sys2Proof.Machine.execLoadStandby src key s
  | .ready src key => Sys2Proof.Machine.execReady src key s
  | .standbyReadyTimeout => Sys2Proof.Machine.execStandbyReadyTimeout s
  | .handOver src key => Sys2Proof.Machine.execHandOver src key s
  | .confirm src key => Sys2Proof.Machine.execConfirm src key s
  | .handBack src key => Sys2Proof.Machine.execHandBack src key s
  | .trialWindowExpiry => Sys2Proof.Machine.execTrialWindowExpiry s
  | .set x body => Sys2Proof.Machine.execSet x body s
  | .clear x body => Sys2Proof.Machine.execClear x body s
  | .epochRoll x body => Sys2Proof.Machine.execEpochRoll x body s
  | .epochBurnDone ok => Sys2Proof.Machine.execEpochBurnDone ok s
  | .tapSet x body => Sys2Proof.Machine.execTapSet x body s
  | .tapPromote src => Sys2Proof.Machine.execTapPromote src s
  | .tapClear x body => Sys2Proof.Machine.execTapClear x body s
  | .attest x body => Sys2Proof.Machine.execAttest x body s
  | .quote x body => Sys2Proof.Machine.execQuote x body s
  | .keyPublic x body => Sys2Proof.Machine.execKeyPublic x body s
  | .grnClear r => Sys2Proof.Machine.execGrnClear r s
  | .invalidate r => Sys2Proof.Machine.execInvalidate r s
  | .derive r v => Sys2Proof.Machine.execDerive r v s
  | .grnLimitWrite r v => Sys2Proof.Machine.execGrnLimitWrite r v s
  | .submit r e pin d => Sys2Proof.Machine.execSubmit r e pin d s
  | .abort r e => Sys2Proof.Machine.execAbort r e s
  | .pkeGrant e => Sys2Proof.Machine.execPkeGrant e s
  | .pkeJobDone e f => Sys2Proof.Machine.execPkeJobDone e f s
  | .pkeAbortZeroed e => Sys2Proof.Machine.execPkeAbortZeroed e s
  | .pkeStallTimeout e => Sys2Proof.Machine.execPkeStallTimeout e s
  | .katRun r e => Sys2Proof.Machine.execKatRun r e s
  | .pkeEnableWrite r e v => Sys2Proof.Machine.execPkeEnableWrite r e v s
  | .program r key => Sys2Proof.Machine.execProgram r key s
  | .programTwin r key => Sys2Proof.Machine.execProgramTwin r key s
  | .lock r key acceptIncomplete => Sys2Proof.Machine.execLock r key acceptIncomplete s
  | .repulse r key => Sys2Proof.Machine.execRepulse r key s
  | .marginRead r key => Sys2Proof.Machine.execMarginRead r key s
  | .otpCommandDone o => Sys2Proof.Machine.execOtpCommandDone o s
  | .wwdKick src v => Sys2Proof.Machine.execWwdKick src v s
  | .wwdExpiry => Sys2Proof.Machine.execWwdExpiry s
  | .lwdKick src v => Sys2Proof.Machine.execLwdKick src v s
  | .lwdExpiry => Sys2Proof.Machine.execLwdExpiry s
  | .clockMonitorTrip => Sys2Proof.Machine.execClockMonitorTrip s
  | .loftWdResetFlushed => Sys2Proof.Machine.execLoftWdResetFlushed s
  | .pwdExpiry p => Sys2Proof.Machine.execPwdExpiry p s
  | .clearCount h r => Sys2Proof.Machine.execClearCount h r s
  | .lockstepMismatch l => Sys2Proof.Machine.execLockstepMismatch l s
  | .historyPass => Sys2Proof.Machine.execHistoryPass s
  | .shadowEnd d => Sys2Proof.Machine.execShadowEnd d s
  | .alarmPulseEnd => Sys2Proof.Machine.execAlarmPulseEnd s
  | .alarmContactFault => Sys2Proof.Machine.execAlarmContactFault s
  | .linkReset h r key => Sys2Proof.Machine.execLinkReset h r key s
  | .hallReset h r key => Sys2Proof.Machine.execHallReset h r key s
  | .hallResetAckTimeout h => Sys2Proof.Machine.execHallResetAckTimeout h s
  | .hallResetRelease h => Sys2Proof.Machine.execHallResetRelease h s
  | .modresetCountClear => Sys2Proof.Machine.execModresetCountClear s
  | .errInjWrite r page v => Sys2Proof.Machine.execErrInjWrite r page v s
  | .reactSelWrite r page v => Sys2Proof.Machine.execReactSelWrite r page v s
  | .test r => Sys2Proof.Machine.execTest r s
  | .stairCrcError h => Sys2Proof.Machine.execStairCrcError h s
  | .partner x o => Sys2Proof.Machine.execPartner x o s
  | .gwStatus g => Sys2Proof.Machine.execGwStatus g s
  | .gwSilentTimeout => Sys2Proof.Machine.execGwSilentTimeout s
  | .crossingFrameDrop inward raw => Sys2Proof.Machine.execCrossingFrameDrop inward raw s
  | .hello x body => Sys2Proof.Machine.execHello x body s
  | .proof x body => Sys2Proof.Machine.execProof x body s
  | .proofWindowExpiry x => Sys2Proof.Machine.execProofWindowExpiry x s
  | .portBlockExpiry x => Sys2Proof.Machine.execPortBlockExpiry x s
  | .sealedRequestFail x rep => Sys2Proof.Machine.execSealedRequestFail x rep s
  | .close x body => Sys2Proof.Machine.execClose x body s
  | .ping x body => Sys2Proof.Machine.execPing x body s
  | .sessionInfo x body => Sys2Proof.Machine.execSessionInfo x body s
  | .pageRead x body => Sys2Proof.Machine.execPageRead x body s
  | .pageWrite x body => Sys2Proof.Machine.execPageWrite x body s
  | .pageModify x body => Sys2Proof.Machine.execPageModify x body s
  | .pageRights x body => Sys2Proof.Machine.execPageRights x body s
  | .eventFilter x body => Sys2Proof.Machine.execEventFilter x body s
  | .eventFetch x body => Sys2Proof.Machine.execEventFetch x body s
  | .eventStatus x body => Sys2Proof.Machine.execEventStatus x body s
  | .sessionRecordTaken x => Sys2Proof.Machine.execSessionRecordTaken x s
  | .drainTimeout x => Sys2Proof.Machine.execDrainTimeout x s
  | .sessionIdleTimeout x => Sys2Proof.Machine.execSessionIdleTimeout x s
  | .portStatus x body => Sys2Proof.Machine.execPortStatus x body s
  | .portEnrol x body dev => Sys2Proof.Machine.execPortEnrol x body dev s
  | .portRetire x body => Sys2Proof.Machine.execPortRetire x body s
  | .enter x body => Sys2Proof.Machine.execEnter x body s
  | .enterDiscard x body => Sys2Proof.Machine.execEnterDiscard x body s
  | .quarantineRelease x body => Sys2Proof.Machine.execQuarantineRelease x body s
  | .departRequest x body => Sys2Proof.Machine.execDepartRequest x body s
  | .departCancel x body => Sys2Proof.Machine.execDepartCancel x body s
  | .portInfo x body => Sys2Proof.Machine.execPortInfo x body s
  | .svcStatus x body => Sys2Proof.Machine.execSvcStatus x body s
  | .svcChallenge x body => Sys2Proof.Machine.execSvcChallenge x body s
  | .svcChallengeExpiry => Sys2Proof.Machine.execSvcChallengeExpiry s
  | .svcReopen x body => Sys2Proof.Machine.execSvcReopen x body s
  | .svcClose x body => Sys2Proof.Machine.execSvcClose x body s
  | .sesClose x r key => Sys2Proof.Machine.execSesClose x r key s
  | .gwConfigSend => Sys2Proof.Machine.execGwConfigSend s
  | .mainsOutOfLimits => Sys2Proof.Machine.execMainsOutOfLimits s
  | .bulkBelow380 => Sys2Proof.Machine.execBulkBelow380 s
  | .mainsReturn => Sys2Proof.Machine.execMainsReturn s
  | .chargerRestart => Sys2Proof.Machine.execChargerRestart s
  | .reserveReadyTimeout => Sys2Proof.Machine.execReserveReadyTimeout s
  | .reserveTestStart => Sys2Proof.Machine.execReserveTestStart s
  | .reserveTestEnd capMf esr full => Sys2Proof.Machine.execReserveTestEnd capMf esr full s
  | .domainTrip d => Sys2Proof.Machine.execDomainTrip d s
  | .domainRetryTimer p => Sys2Proof.Machine.execDomainRetryTimer p s
  | .sensorSample m => Sys2Proof.Machine.execSensorSample m s
  | .on r => Sys2Proof.Machine.execOn r s
  | .off r => Sys2Proof.Machine.execOff r s
  | .pwrResTest r => Sys2Proof.Machine.execPwrResTest r s
  | .cntClear r page => Sys2Proof.Machine.execCntClear r page s
  | .cfgLock r page => Sys2Proof.Machine.execCfgLock r page s
  | .errLock r page => Sys2Proof.Machine.execErrLock r page s
  | .loRegisterRead r page off => Sys2Proof.Machine.execLoRegisterRead r page off s
  | .pwStateRead r g => Sys2Proof.Machine.execPwStateRead r g s
  | .registerWrite page off v => Sys2Proof.Machine.execRegisterWrite page off v s
  | .symbolLock p => Sys2Proof.Machine.execSymbolLock p s
  | .trainingSequenceReceived p => Sys2Proof.Machine.execTrainingSequenceReceived p s
  | .dpInputChange n level => Sys2Proof.Machine.execDpInputChange n level s
  | .sheafLate t => Sys2Proof.Machine.execSheafLate t s
  | .reserveReady => Sys2Proof.Machine.execReserveReady s
  | .pkeKatDone e pass => Sys2Proof.Machine.execPkeKatDone e pass s
  | .hshTestDone h failed => Sys2Proof.Machine.execHshTestDone h failed s
  | .retainedStoreRefresh => Sys2Proof.Machine.execRetainedStoreRefresh s

end Sys2Proof.Machine
end

