-- ==== Sys2Proof/Safety.lean ====
section
/-! DEFINITION. What a sound state is, in the terms the statements use: the collectors cover their children (13 R382), the mirror
slices are canonical memories, and the module is at rest when none of its own rules has anything to do. -/

namespace Sys2Proof.Machine

/-- A collector word holds every bit that its children need. -/
def Covers (word need : BitVec 32) : Prop := need ||| word = word

/-- Every collector word covers its children, from the quads to the root (13 R382, Table 13.4). -/
structure State.Collected (s : State) : Prop where
  gallery : ∀ g < 16, Covers (tabGet 0 s.root.gal g) (galNeed s.hdrs s.portErr g)
  hall    : ∀ h < 4, Covers (tabGet 0 s.root.hcol h) (hcolNeed s.hdrs s.root.gal h)
  loft    : Covers s.root.loftCol (loftNeed s.hdrs)
  host    : Covers s.root.hostCol (hostNeed s.hdrs)
  root    : Covers s.root.stat (rootNeed s.hdrs s.root.hcol s.root.loftCol s.root.hostCol)

/-- Every mirror slice is a canonical memory. -/
def State.MirrorWf (s : State) : Prop := ∀ p, Memory.wf (s.slice p)

/-- Nothing comes before a frame of port p: no window of its link has passed (00 R7), no injected CRC error is armed on it (13 R407). -/
abbrev State.clean (s : State) (p : Nat) : Prop :=
  s.injection (pgLs (galOf p)) 0 (some p) = 0 ∧ (s.port p).link.lateBy s.hnow = false

/-- A frame of port p is heard: its link is up and nothing comes before the frame (02 R59). -/
abbrev State.hears (s : State) (p : Nat) : Prop := s.linkUp p = true ∧ s.clean p

/-- A requester's write reaches a register: the requester is live, the page exists and is not in reset, and the requester may
write the register (17 R481 to R484, R490). -/
abbrev State.reaches (s : State) (page off : Nat) (r : Requester) : Prop :=
  s.live r = true ∧ pageExists page = true ∧ s.barred page r = false ∧ s.writeMask page off r ≠ 0

/-- The idle window of session x has not passed, nor the 5 s of a record that the gateway has not taken (14 R429, R430). -/
abbrev State.timely (s : State) (x : Nat) : Prop :=
  ¬ (s.ses x).idleEnd < s.lnow ∧ (s.ses x).untaken s.lnow = false

/-- Session x takes a request: it is open and its windows have not passed, its keys are good, and fewer than 64 requests wait (14
R419, R426, R429, R430). -/
abbrev State.opens (s : State) (x : Nat) : Prop :=
  s.alive = true ∧ (s.ses x).st = 2 ∧ s.timely x ∧ chainOk s.gran.slots keySlots (16 + 2 * x) = true ∧
  chainOk s.gran.slots keySlots (17 + 2 * x) = true ∧ (s.ses x).outst.length < 64

/-- The number that session x gives its next request. -/
def State.nextReq (s : State) (x : Nat) : Nat := (s.ses x).reqNo + 1

/-- The state in which an accepted request of a type is carried out: on HP4 the gateway answers its frame (14 R412), its opening is a use of the receiving key (09 R285), it is
counted, renews the idle window and waits for its response. -/
def State.taken (s : State) (x type : Nat) : State :=
  ((s.serialIn x).countUse (16 + 2 * x)).modSes x (fun u => { u with
    rxSeq := u.rxSeq + 1, reqNo := s.nextReq x, lastResp := none, lastRec := s.lnow, requests := satAdd 16 u.requests 1,
    outst := u.outst ++ [{ seq := s.nextReq x, type := type, ref := u.rxSeq + 1 }] })

/-- A KEY_OP body of one operation: its code, a key of the length it states, and a port where the operation names one (09 Table
9.10). -/
abbrev keyBody (op : Nat) (b : Bytes) : Prop :=
  num b 0 1 = op ∧ 10 ≤ b.length ∧ b.length = 10 + num b 8 2 ∧ (num b 2 2 < 1024 ∨ op ≤ 3)

/-- The module is at rest: its own rules change nothing and no event waits. -/
def State.AtRest (s : State) : Prop := s.monitors = s ∧ s.root.evq = []

/-- A run is safe at a state when a step from it answers a next state whose collectors cover their children. -/
def State.Safe (s : State) : Prop := ∃ t, step s = .next t ∧ t.Collected

end Sys2Proof.Machine
end

