-- ==== Sys2Proof/Certificates/Slice0/Obligations.lean ====
section
/-! DEFINITION. The statements for the provers. A statement of a family has one clause for each of its commands, or for each case of one: under
the hypotheses named, exec answers the next state that the rules give, before what the module then does by itself (State.finish);
what that leaves as it was is FinishAtRest's frame. -/

open Sys2Proof Sys2Proof.Machine

/-- Detection, symbol lock, training and their timers act as the training table says (R48, R63). Where it rests on the
model's own choices, they are those of the logs 7, 8. -/
def Obligations.LinkTrainingRuns : Prop :=
    (∀ (s : State) (p : PortId),
      s.alive → (s.port p).st = .absent → (s.port p).link.phase = .off → (s.port p).link.idleEnd = none → s.domOn p → (s.port p).rls.departed = false →
      exec (.tapDetect p) s = .next (
      (s.setSt p .linking).modLink p (fun l => { l with
        phase := .detected, trainWin := some (mkWin s.hnow 80000000), lastComma := s.hnow })).finish) ∧
    (∀ (s : State) (p : PortId),
      s.training p →
      exec (.symbolLock p) s = .next (s.modLink p (fun l => { l with phase := .ts1, lastComma := s.hnow })).finish) ∧
    (∀ (s : State) (p : PortId),
      s.training p → (s.port p).link.phase = .ts1 →
      exec (.trainingSequenceReceived p) s = .next (s.modLink p (fun l => { l with phase := .ts2, lastComma := s.hnow })).finish) ∧
    (∀ (s : State) (p : PortId),
      s.training p → (s.port p).st = .linking →
      exec (.linkTrained p) s = .next (
      ((s.setSt p .pairing).modLink p (fun l => { l with
        phase := .trained, trainWin := none, pair := .hello, lastComma := s.hnow })).sendLc p 1 (1 :: le 2 p)).finish) ∧
    (∀ (s : State) (p : PortId) (w : Window),
      s.alive → (s.port p).mayTrain → (s.port p).link.trainWin = some w →
      exec (.trainingWindowExpiry p) s = .next (
      (s.toHall (w.dl + 1)).modLink p (fun l => { l with
        trainWin := none, phase := .detected, trainFail := satAdd 16 l.trainFail 1, retryEnd := some ((s.toHall (w.dl + 1)).hnow + 8000000) })).finish) ∧
    (∀ (s : State) (p : PortId) (e : Nat),
      s.alive → (s.port p).mayTrain → (s.port p).link.retryEnd = some e →
      exec (.trainRetryTimer p) s = .next (
      (s.toHall e).modLink p (fun l => { l with
        retryEnd := none, trainWin := some (mkWin (s.toHall e).hnow 80000000) })).finish)

/-- Loss of synchronisation, the idle time after a loss, a late credit, and LINK_DOWN act as the link rules say (R48,
R57, R83). Where it rests on the model's own choices, they are those of the logs 7, 8. -/
def Obligations.LinkLossRuns : Prop :=
    (∀ (s : State) (p : PortId),
      s.trained p →
      exec (.lossOfSync p .symbolErrors) s = .next ((s.modLink p (fun l => { l with los := satAdd 16 l.los 1 })).linkDown p true).finish) ∧
    (∀ (s : State) (p : PortId) (e : Nat),
      (s.port p).link.idleEnd = some e →
      exec (.linkIdleEnd p) s = .next ((s.toHall e).modLink p (fun l => { l with idleEnd := none })).finish) ∧
    (∀ (s : State) (p : PortId) (v : Vc) (x : Window × Nat),
      s.linkUp p → tabFind (s.port p).link.stalls (vcNum v) = some x → ¬ x.2 + 1 ≥ 16 →
      exec (.creditWindowExpiry p v) s = .next (
      ((s.toHall (x.1.dl + 1)).modLink p (fun l => { l with
        credLate := satAdd 16 l.credLate 1 })).modLink p (fun l => { l with
        stalls := tabSet l.stalls (vcNum v) (mkWin (x.1.dl + 1) 16000, x.2 + 1) })).finish) ∧
    (∀ (s : State) (p : PortId),
      s.trained p → s.clean p →
      exec (.linkDownFrame p) s = .next (s.linkDown p false).finish)

/-- Errors, acknowledgements, replay and credits of the link act as its delivery rules say (R51, R55, R58, R59, R60,
R61, R62). Where it rests on the model's own choices, they are those of the logs 7, 8, 9. -/
def Obligations.SequencedDeliveryRuns : Prop :=
    (∀ (s : State) (p : PortId) (w : Window),
      s.linkUp p → (s.port p).link.replay ≠ [] → (s.port p).link.replayWin = some w →
      exec (.replayWindowExpiry p) s = .next ((s.toHall (w.dl + 1)).replay p).finish) ∧
    (∀ (s : State) (p : PortId) (e : Nat),
      s.linkUp p → (s.port p).link.nakEnd = some e →
      exec (.nakRepeatTimer p) s = .next ((s.toHall e).sendNak p).finish) ∧
    (∀ (s : State) (p : PortId) (raw : Bytes),
      rxCheck raw = .crcError → (s.port p).link.lateBy s.hnow = false → s.trained p → (s.port p).link.nakEnd = none →
      exec (.frameCrcError ⟨p, raw⟩) s = .next ((s.modLink p (fun l => { l with crcErr := satAdd 16 l.crcErr 1 })).sendNak p).finish) ∧
    (∀ (s : State) (p : PortId) (raw : Bytes) (h : Header) (v : Vc),
      s.hears p → rxCheck raw = .protocolError h → vcOf h.vc = some v → h.seq = (s.port p).link.rxExp →
      exec (.frameProtocolError p raw) s = .next (
      (((s.modLink p (fun l => { l with protoErr := satAdd 16 l.protoErr 1 })).raisePort p 3).accept p v (buffersOf h v)).finish)) ∧
    (∀ (s : State) (p : PortId) (raw : Bytes) (h : Header),
      s.trained p → (s.port p).link.up = false → s.clean p → rxCheck raw = .protocolError h →
      exec (.frameProtocolError p raw) s = .next ((s.modLink p (fun l => { l with protoErr := satAdd 16 l.protoErr 1 })).raisePort p 3).finish) ∧
    (∀ (s : State) (p : PortId) (q : BitVec 8),
      s.hears p → (s.port p).link.rxExp - q ≠ 0#8 → ((s.port p).link.rxExp - q).toNat ≤ 128 →
      exec (.frameOutOfSequence p q) s = .next (s.sendAck p .vc0 0).finish) ∧
    (∀ (s : State) (p : PortId) (v : Vc) (n : Fin 16),
      s.hears p →
      exec (.ack p none false v n) s = .next (
      (s.modLink p (fun l => { l.addCredits (creditSet {} v n) with lastComma := s.hnow })).pump p).finish) ∧
    (∀ (s : State) (p : PortId) (c : Credits),
      s.hears p →
      exec (.credit p c) s = .next ((s.modLink p (fun l => { l.addCredits c with lastComma := s.hnow })).pump p).finish)

/-- Each step of pairing acts as the pairing table says (R64, R65, R66). Where it rests on the model's own choices,
they are those of the logs 5, 7, 8, 9. -/
def Obligations.PairingRuns : Prop :=
    (∀ (s : State) (p : PortId) (h : TapHello),
      s.trained p → (s.port p).link.pair = .hello → h.version = 1 → s.clean p →
      exec (.helloFrame p h) s = .next (
      (s.modLink p (fun l => { l with
        tapId := h.tapId, caps := h.caps, platform := h.platform, fallback := h.fallback, wait := h.wait, holdLock := h.platform.getLsbD 4, lastComma := s.hnow })).challenge p).finish) ∧
    (∀ (s : State) (p : PortId) (rt ct k : Bytes) (pend : Bool),
      s.trained p → (s.port p).link.pair = .resp → s.pairWinOpen p → (s.port p).matchRt p rt = some (k, pend) → s.clean p →
      exec (.pairResp p rt ct) s = .next (
      ((s.sendLc p 4 (pairRm k ct (s.port p).link.cm p (b2n (s.port p).enr.fallback) (s.port p).enr.wait ++ le 1 (b2n (s.port p).enr.fallback) ++ le 1 (s.port p).enr.wait)).modLink p (fun l => { l with
        pair := .done, pairWin := some (mkWin s.hnow 8000000), newMatch := pend, lastComma := s.hnow })).when pend (fun t => t.askPromote p)).finish) ∧
    (∀ (s : State) (p : PortId),
      s.trained p → (s.port p).link.pair = .done → s.pairWinOpen p → s.clean p →
      exec (.pairDone p) s = .next (
      (s.modLink p (fun l => { l with
        pair := .creditInit, pairWin := none, fbStored := (s.port p).enr.fallback, waitStored := BitVec.ofNat 8 (s.port p).enr.wait, lastComma := s.hnow })).sendLc p 6 [8, 8, 0, 8, 2]).finish) ∧
    (∀ (s : State) (p : PortId) (c : Credits),
      s.trained p → (s.port p).link.pair = .creditInit → s.clean p →
      exec (.creditInit p c) s = .next (s.takeCreditInit p c).finish) ∧
    (∀ (s : State) (p : PortId) (reason : Byte),
      s.trained p → (s.port p).link.pair = .resp → s.clean p →
      exec (.pairFail p reason) s = .next (s.pairFailed p reason.toNat false).finish) ∧
    (∀ (s : State) (p : PortId) (w : Window),
      s.trained p → (s.port p).link.pairWin = some w →
      exec (.pairingWindowExpiry p) s = .next ((s.toHall (w.dl + 1)).pairFailed p 4 true).finish)

/-- Reads, their stop, and the physical operations' data act on the accepted frame as the read rules say (R75, R77,
R110, R111, R120). Where it rests on the model's own choices, they are those of the logs 8, 9, 98. -/
def Obligations.ReadTrafficRuns : Prop :=
    (∀ (s : State) (p : PortId) (cs : BitVec 16) (addr : Word) (op mode : Byte) (t : State),
      s.hears p → t = ((s.accept p .vc0 1).firstFrame p cs).endStream p → (t.port p).served = false → listedMode op.toNat mode.toNat = true →
      exec (.rdReq p cs addr op mode) s = .next (t.enqueue p { vc := some .vc0, type := 3, tag := cs, payload := [0] }).finish) ∧
    (∀ (s : State) (p : PortId) (cs : BitVec 16) (addr : Word) (op mode : Byte) (t : State),
      s.hears p → t = ((s.accept p .vc0 1).firstFrame p cs).endStream p → (t.port p).served = true → (t.hall (hallOf p)).serveEn = true → listedMode op.toNat mode.toNat = true → t.injection (pgMir (hallOf p)) 2 (some p.val) = 0 → (t.hall (hallOf p)).dramBad = [] → (t.hall (hallOf p)).dramWeak = [] →
      exec (.rdReq p cs addr op mode) s = .next (
      (t.modMir p (fun m => { m with stream := some {
        cs := cs, next := addr.toNat, start := addr.toNat, bank := m.active, allFF := false } })).pump p).finish) ∧
    (∀ (s : State) (p : PortId) (cs : BitVec 16) (bytes : Nat),
      s.hears p →
      exec (.rdStop p cs bytes) s = .next (((s.accept p .vc0 1).csFrame p cs).endStream p).finish) ∧
    (∀ (s : State) (p : PortId) (op : BitVec 16) (data : Bytes),
      s.hears p →
      exec (.flDataIn p op data) s = .next (
      (s.accept p .vc2 0).modRing p (fun r => { r with jobs := r.jobs.map (fun j => if j.op == op && !j.paused && !j.hashing then { j with
        got := j.got ++ data } else j) })).finish) ∧
    (∀ (s : State) (p : PortId) (op : BitVec 16) (result status : Byte) (busyUs : Nat) (j : VcJob),
      s.hears p → ((s.accept p .vc2 0).port p).jobOf op = some j → result.toNat = 0 → j.got.length = j.req.inCnt → j.todo = [] →
      exec (.flDone p op result status busyUs) s = .next ((s.accept p .vc2 0).jobRead p j).finish) ∧
    (∀ (s : State) (p : PortId) (i : Nat),
      s.alive → s.flAllowed p → (s.port p).st = .held → (s.port p).ring.readbackPending = false → (s.port p).ring.jobs = [] → (s.port p).mir.refill.find? (fun i => !(s.port p).ring.entries.any (fun e => e.state == .committing && e.overlaps (i * 4096) 4096)) = some i →
      exec (.refillStart p) s = .next (s.startJob p (.refill i) (readReqs (s.port p) (i * 4096) 4096)).finish)

/-- Platform commands act as the command table says: write enable, a command with no data, its data, and the admission
slot (R94, R95, R127, R135). Where it rests on the model's own choices, they are those of the logs 8, 9, 62. -/
def Obligations.PlatformCommandsRun : Prop :=
    (∀ (s : State) (p : PortId) (c : WrCmd),
      s.hears p → cmdUnknown c = false → c.cls = 4 →
      exec (.wrCmd p c) s = .next (
      (((s.accept p .vc1 1).firstFrame p c.cs).modMir p (fun m => { m with
        wr := none })).modMir p (fun m => { m with wel := true })).finish) ∧
    (∀ (s : State) (p : PortId) (c : WrCmd) (t : State),
      s.hears p → t = ((s.accept p .vc1 1).firstFrame p c.cs).modMir p (fun m => { m with wr := none }) → cmdUnknown c = false → cmdWrites c = true → ¬ c.count = 0 →
      exec (.wrCmd p c) s = .next (
      t.modMir p (fun m => { m with wr := some {
        cmd := c, bank := (t.port p).mir.active, arrival := (s.accept p .vc1 1).hnow } })).finish) ∧
    (∀ (s : State) (p : PortId) (cs : BitVec 16) (data : Bytes) (t : State) (w : WrPend),
      s.hears p → t = (s.accept p .vc1 1).csFrame p cs → (t.port p).mir.wr = some w → w.cmd.cs = cs → w.cmd.count ≤ w.data.length + data.length →
      exec (.wrData p cs data) s = .next (t.endWrite p { w with data := w.data ++ data }).finish) ∧
    (∀ (s : State) (p : PortId),
      s.alive →
      exec (.admissionResume p) s = .next (s.resume p).finish) ∧
    (∀ (s : State) (p : PortId) (c : WrCmd),
      s.hears p → cmdUnknown c = false → c.cls = 9 →
      exec (.wrCmd p c) s = .next (
      (((s.accept p .vc1 1).firstFrame p c.cs).modMir p (fun m => { m with
        wr := none })).modMir p (fun m => { m with cmds := tabSet m.cmds 9 (satAdd 32 (tabGet 0 m.cmds 9) 1) })).finish)

/-- Attention, tap events, control acknowledgement and lines act as their rules say (R56, R69, R71, R86, R119). Where
it rests on the model's own choices, they are those of the logs 7, 8, 9. -/
def Obligations.AttentionControlRuns : Prop :=
    (∀ (s : State) (p : PortId) (id : BitVec 16),
      s.hears p →
      exec (.attnDone p id) s = .next ((s.accept p .vc3 1).attnDone p id).finish) ∧
    (∀ (s : State) (p : PortId) (e : Nat),
      s.linkUp p → (s.port p).link.attnClr = some e →
      exec (.attnClrTimer p) s = .next (
      (((s.toHall e).modLink p (fun l => { l with
        attnClr := none, attnLow := false })).enqueue p { vc := some .vc3, type := 0x0A }).statusShadow4 p).finish) ∧
    (∀ (s : State) (p : PortId) (a : Attn) (w : Window) (q : Bool),
      s.alive → (s.port p).link.attns.find? (fun a => a.win.isSome && a.react.isSome) = some a → a.win = some w → a.react = some q →
      exec (.attentionWindowExpiry p) s = .next (
      ((s.toHall (w.dl + 1)).modLink p (fun l => { l with
        attns := l.attns.map (fun x => if x.id == a.id then { x with
        win := none, react := none } else x) })).uncReaction p q a.time).finish) ∧
    (∀ (s : State) (p : PortId) (cs : BitVec 16),
      s.hears p →
      exec (.tapEvent p .underrun cs) s = .next (
      ((s.accept p .vc3 1).modLink p (fun l => { l with underrun := satAdd 16 l.underrun 1 })).raisePort p 2).finish) ∧
    (∀ (s : State) (p : PortId) (cs : BitVec 16),
      s.hears p →
      exec (.tapEvent p .decodeErr cs) s = .next (
      ((s.accept p .vc3 1).modLink p (fun l => { l with decodeErr := satAdd 16 l.decodeErr 1 })).raisePort p 7).finish) ∧
    (∀ (s : State) (p : PortId) (cs : BitVec 16),
      s.hears p →
      exec (.tapEvent p .sbDrop cs) s = .next (((s.accept p .vc3 1).modLink p (fun l => { l with sbDrop := satAdd 16 l.sbDrop 1 })).raisePort p 7).finish) ∧
    (∀ (s : State) (p : PortId) (id : BitVec 16) (lines : BitVec 6),
      s.hears p →
      exec (.ctrlAck p id lines) s = .next ((s.accept p .vc4 0).ctrlAck p id lines).finish) ∧
    (∀ (s : State) (p : PortId) (v : BitVec 6),
      s.hears p →
      exec (.lines p v) s = .next ((s.accept p .vc4 1).modLink p (fun l => { l with lines := v })).finish)

/-- Writing, validating, arming and disarming a policy bank, and the port's mirror configuration, act as the index
rules say (R104, R105, R115, R125). Where it rests on the model's own choices, they are those of the logs 8, 16, 98. -/
def Obligations.PolicyIndexRuns : Prop :=
    (∀ (s : State) (h : HallId) (r : Requester) (hi : Bool) (v : Word),
      (s.reaches (pgMir h) (if hi then 0x060 else 0x05C) r) → s.getSel (pgMir h) 0x058 r % 64 > 32 →
      exec (.mirIdxDataWrite h r hi v) s = .next (s.modHall h (fun x => { x with idxResult := 3, idxEntry := s.getSel (pgMir h) 0x058 r % 64 })).finish) ∧
    (∀ (s : State) (h : HallId) (r : Requester) (v : Word) (p e : Nat) (b : Bool),
      s.reaches (pgMir h) 0x05C r → p = s.selPort h (pgMir h) 0x048 r → e = s.getSel (pgMir h) 0x058 r % 64 → b = bit (s.getSel (pgMir h) 0x058 r) 8 → e ≤ 32 → (s.port p).mir.bankBusy b = false →
      exec (.mirIdxDataWrite h r false v) s = .next (
      (s.modMir p (fun x => x.setBank b { words := tabSet ((s.port p).mir.bank b).words e ((tabGet 0 ((s.port p).mir.bank b).words e / 2 ^ 32 * 2 ^ 32 + v.toNat) &&& bankMask e), valid := false })).modHall h (fun x => { x with
        idxResult := 0, idxEntry := 0 })).finish) ∧
    (∀ (s : State) (h : HallId) (r : Requester) (b : Bool) (p : Nat) (c : Nat × Nat),
      s.reaches (pgMir h) 0x064 r → p = s.selPort h (pgMir h) 0x048 r → c = validateBank ((s.port p).mir.bank b) (s.port p).mir.enrLen → c.1 = 0 →
      exec (.validate h r b) s = .next (
      (s.modMir p (fun x => x.setBank b { x.bank b with valid := true })).modHall h (fun x => { x with
        idxResult := 0, idxEntry := c.2 })).finish) ∧
    (∀ (s : State) (h : HallId) (r : Requester),
      s.reaches (pgMir h) 0x064 r → (s.port (s.selPort h (pgMir h) 0x048 r)).mir.armed = true →
      exec (.arm h r) s = .next (s.modHall h (fun x => { x with idxResult := 5, idxEntry := 0 })).finish) ∧
    (∀ (s : State) (h : HallId) (r : Requester) (p : Nat),
      s.reaches (pgMir h) 0x064 r → p = s.selPort h (pgMir h) 0x048 r → (s.port p).mir.armed = false → ((s.port p).mir.bank (!(s.port p).mir.active)).valid = true → (s.port p).tie = none →
      exec (.arm h r) s = .next (
      ((s.modMir p (fun m => { m with armed := true })).modHall h (fun x => { x with
        idxResult := 0, idxEntry := 0 })).policySwitch p).finish) ∧
    (∀ (s : State) (h : HallId) (r : Requester) (p : Nat),
      s.reaches (pgMir h) 0x064 r → p = s.selPort h (pgMir h) 0x048 r →
      exec (.disarm h r) s = .next (
      (s.modPort p (fun v => { v with
         mir := { v.mir with armed := false }, bounds := v.bounds.filter (fun b => b.kind != .policy) })).modHall h
         (fun x => { x with idxResult := 0, idxEntry := 0 })).finish) ∧
    (∀ (s : State) (h : HallId) (r : Requester) (v : Word) (p : Nat),
      s.reaches (pgMir h) 0x04C r → s.frozen (pgMir h) 0x04C v.toNat = false → p = s.selPort h (pgMir h) 0x048 r → cfgState (s.port p).st = true → bits v.toNat 10 0 ≤ 1024 →
      exec (.mirPortCfgWrite h r false v) s = .next (s.modMir p (fun m => { m with enrLen := bits v.toNat 10 0 })).finish) ∧
    (∀ (s : State) (h : HallId) (r : Requester) (v : Word) (p : Nat),
      s.reaches (pgMir h) 0x050 r → s.frozen (pgMir h) 0x050 v.toNat = false → p = s.selPort h (pgMir h) 0x048 r → cfgState (s.port p).st = false →
      exec (.mirPortCfgWrite h r true v) s = .next (s.modHall h (fun x => { x with idxResult := 7, idxEntry := 0 })).finish)

/-- Commits, read-back, the authorisation window and checkpoints of the write-hold ring act as the ring rules say
(R140, R141, R146, R150, R152). Where it rests on the model's own choices, they are those of the logs 7, 8. -/
def Obligations.RingCommitRuns : Prop :=
    (∀ (s : State) (p : PortId) (e : Entry),
      (s.port p).ring.head = some e → s.commitReady p → s.injection (pgRng (hallOf p)) 0 (some p.val) = 0 → (s.hall (hallOf p)).dramBad = [] → s.ledgerRoom →
      exec (.commitStart p) s = .next (
      ((s.intent p e).entryTo p e.seq .committing 0).startJob p (.commit e.seq) (commitReqs (((s.intent p e).entryTo p e.seq .committing 0).port p) e)).finish) ∧
    (∀ (s : State) (p : PortId),
      s.alive → s.flAllowed p → (s.port p).st = .held → (s.port p).ring.readbackPending → (s.port p).ring.jobs = [] →
      exec (.readbackStart p) s = .next (s.readbackNext p).finish) ∧
    (∀ (s : State) (p : PortId) (d : Nat) (qs : List Nat),
      (s.port p).ring.nextExpiry = some d → s.alive → (s.port p).st ≠ .quarantined → qs = ((s.toHall (d + 1)).port p).ring.seqs (fun e => e.state == .held && e.win.map (·.dl) == some d) →
      exec (.authWindowExpiry p) s = .next (
      (((s.toHall (d + 1)).when (!qs.isEmpty) (fun t => t.raiseP (pgRng (hallOf p)) 1 p)).decideRec p (qs.headD 0) (qs.getLastD 0) 2 1 0xFF 0).refuseHeld p qs 2 1 0xFF).finish) ∧
    (∀ (s : State) (h : HallId) (t : State),
      s.alive → (s.hall h).phase = .run → t = (s.toHall ((s.hall h).ckptAt + 8000000000)).modHall h (fun x => { x with ckptAt := (s.toHall ((s.hall h).ckptAt + 8000000000)).hnow }) →
      exec (.journalCheckpointTimer h) s = .next (
      each ((t.portsOf h).filter (fun p => !(t.port p).ring.entries.isEmpty)) (fun p t => t.checkpoint p) t).finish)

/-- Decisions of the warden and the host on held writes, and the ring messages, act as the decision rules say (R145,
R147, R157). Where it rests on the model's own choices, they are those of the logs 8, 17, 98. -/
def Obligations.RingDecisionRuns : Prop :=
    (∀ (s : State) (h : HallId) (r : Requester) (n : Nat) (p : Nat) (d : State × Nat × Nat),
      s.reaches (pgRng h) 0x078 r → p = s.selPort h (pgRng h) 0x04C r → d = s.decide p true (s.hall h).decFirst (n % 65536) 0 0xFF →
      exec (.allow h r n) s = .next (d.1.modHall h (fun x => { x with decResult := d.2.1, decApplied := d.2.2 })).finish) ∧
    (∀ (s : State) (h : HallId) (r : Requester) (n : Nat) (p : Nat) (d : State × Nat × Nat),
      s.reaches (pgRng h) 0x078 r → p = s.selPort h (pgRng h) 0x04C r → d = s.decide p false (s.hall h).decFirst (n % 65536) 0 0xFF →
      exec (.refuse h r n) s = .next (d.1.modHall h (fun x => { x with decResult := d.2.1, decApplied := d.2.2 })).finish) ∧
    (∀ (s : State) (x : SessId) (b : Bytes) (d : State × Nat × Nat),
      s.opens x → ((s.ses x).eff != 4) = true → b.length = 11 → portOk b → (s.taken x 0x2A).hallRuns (num b 0 2) = true → num b 10 1 = 1 → d = (s.taken x 0x2A).decide (num b 0 2) true (num b 2 6) (num b 8 2) (deciderOf ((s.taken x 0x2A).ses x).eff) x →
      exec (.ringDecide x b) s = .next (d.1.respond x (s.nextReq x) (le 1 d.2.1 ++ le 2 d.2.2)).finish) ∧
    (∀ (s : State) (x : SessId) (b : Bytes),
      s.opens x → ((s.ses x).eff != 4) = true → b.length = 11 → portOk b → (s.taken x 0x2A).hallRuns (num b 0 2) = false →
      exec (.ringDecide x b) s = .next ((s.taken x 0x2A).respond x (s.nextReq x) (le 1 2 ++ le 2 0)).finish) ∧
    (∀ (s : State) (x : SessId) (b : Bytes),
      s.opens x → b.length = 10 → portOk b → 1 ≤ num b 8 2 → num b 8 2 ≤ 64 → (s.taken x 0x28).hallRuns (num b 0 2) = true →
      exec (.ringQuery x b) s = .next (
      (s.taken x 0x28).respond x (s.nextReq x) ((List.range (num b 8 2)).flatMap (fun i => (s.taken x 0x28).ringEntry (num b 0 2) (num b 2 6 + i)))).finish) ∧
    (∀ (s : State) (x : SessId) (b : Bytes),
      s.opens x → b.length = 8 → portOk b → (s.taken x 0x29).hallRuns (num b 0 2) = true →
      exec (.ringDetail x b) s = .next ((s.taken x 0x29).respond x (s.nextReq x) ((s.taken x 0x29).ringDetailBytes (num b 0 2) (num b 2 6))).finish) ∧
    (∀ (s : State) (x : SessId) (b : Bytes),
      s.opens x → b.length = 2 → portOk b → (s.taken x 0x2B).hallRuns (num b 0 2) = true →
      exec (.ringSummary x b) s = .next ((s.taken x 0x2B).respond x (s.nextReq x) ((s.taken x 0x2B).ringSummaryBytes (num b 0 2))).finish)

/-- The gleaner, the heal job, the hash lanes' test and patrol scrub act as their rules say (R155, R178, R182, R185).
Where it rests on the model's own choices, they are those of the logs 7, 8, 64, 99. -/
def Obligations.GleanScrubRuns : Prop :=
    (∀ (s : State) (h : HallId),
      s.alive →
      exec (.gleanerReadStart h) s = .next (s.gleanStart h).finish) ∧
    (∀ (s : State) (p : PortId) (t0 : Nat) (t : State),
      s.alive → (s.port p).gln.t0 = some t0 → (s.port p).leafCount ≤ (s.port p).gln.read → t = s.toHall (t0 + (s.hall (hallOf p)).cycleS * 800000000) →
      exec (.gleanerCycleDeadline p) s = .next (t.nextCycle p t.hnow).finish) ∧
    (∀ (s : State) (p : PortId) (t0 : Nat),
      s.alive → (s.port p).gln.t0 = some t0 → (s.port p).gln.read < (s.port p).leafCount → (s.port p).gln.late = false →
      exec (.gleanerCycleDeadline p) s = .next (
      ((s.toHall (t0 + (s.hall (hallOf p)).cycleS * 800000000)).modGln p (fun g => { g with
        late := true, lateCyc := satAdd 16 g.lateCyc 1 })).raiseP (pgGln (hallOf p)) 8 p).finish) ∧
    (∀ (s : State) (p : PortId) (h : Heal),
      (s.port p).gln.heal = some h → s.alive → h.durable → h.running = false → h.abandoned = false → s.flAllowed p → s.kindAllowed p .healWrite → (s.port p).ring.readbackPending = false → (s.port p).ring.entries = [] → s.ledgerRoom →
      exec (.healJobStart p) s = .next (
      (s.modGln p (fun g => { g with heal := some { h with running := true } })).healWrite p { h with
        running := true }).finish) ∧
    (∀ (s : State) (h : HallId) (r : Requester),
      s.reaches (pgHsh h) 0x048 r → s.modState = .serving →
      exec (.run h r) s = .next (s.modHall h (fun x => { x with testing := true, testDone := false, testPass := false })).finish) ∧
    (∀ (s : State) (h : HallId) (failed : BitVec 8),
      s.alive → (s.hall h).testing → failed.toNat &&& (s.hall h).laneEn = 0 → (s.hall h).laneFail % 256 ≠ 255 →
      exec (.hshTestDone h failed) s = .next (
      (s.modHall h (fun y => { y with
        testing := false, testDone := true, testPass := true })).modHall h (fun x => { x with
        laneFail := x.laneFail ||| 0 })).finish) ∧
    (∀ (s : State) (h : HallId) (u : Nat),
      s.alive → (s.hall h).phase = .run → (s.hall h).scrubEn → s.injection (pgDrc h) 0 none = 0 →
      exec (.patrolScrubRead h u .good) s = .next (s.modHall h (fun x => { x with scrubPos := (u + 1) % 0x18000000 })).finish)

/-- Mains, the Loft reset's release, the root secret's retry and the warden's start act as the start-up table says
(R188, R277, R444). Where it rests on the model's own choices, they are those of the logs 7, 8, 21, 76, 101. -/
def Obligations.StartUpRuns : Prop :=
    (∀ (s : State) (m : SupplyReading),
      800 ≤ m.vrms → m.vrms ≤ 3000 → s.modState = .cold → s.pwr.mainsOk = false →
      exec (.mainsStable m) s = .next (
      ((s.modPwr (fun w => { w.read m with mainsOk := true, ready := 200 ≤ m.energy })).modPwr (fun w => { w with
        m0 := s.lnow })).modLoft (fun l => { l with cause := setBit32 l.cause 0 })).finish) ∧
    (∀ (s : State) (o : BootObs),
      s.modState = .cold → s.pwr.mainsOk → s.loft.resetting = none → s.loft.thermalHold = false → s.loft.relAt = 0 →
      exec (.loftResetRelease o) s = .next ((s.toLoft 0).loftBoot o).finish) ∧
    (∀ (s : State) (o : BootObs) (t : State),
      s.modState = .cold → s.pwr.mainsOk → s.loft.resetting = none → s.loft.thermalHold = false → s.loft.relAt ≠ 0 → t = s.toLoft s.loft.relAt →
      exec (.loftResetRelease o) s = .next ((t.modPwr (fun w => { w with m0 := t.lnow - 36000000 })).loftBoot o).finish) ∧
    (∀ (s : State) (o : PufObs) (t : Nat),
      s.puf.retryAt = some t → s.alive → s.modState = .loftBoot → s.loft.halted = false →
      exec (.pufRetryTimer o) s = .next ((s.toLoft t).pufAttempt o).finish) ∧
    (∀ (s : State),
      s.alive → s.loft.halted = false → s.modState = .loftBoot → s.loft.restart = false → s.loft.bootOk →
      exec (.wardenStart) s = .next (
      s.startWarden.lwdBegin 0).finish)

/-- DRAM training, journal replay, PHY power and the bring-up window act as the bring-up rules say (R151, R189, R193,
R292, R455). Where it rests on the model's own choices, they are those of the logs 7, 8, 79. -/
def Obligations.BringupRuns : Prop :=
    (∀ (s : State) (h : HallId) (lf : BitVec 8),
      s.alive → (s.hall h).phase = .training → (s.hall h).trained = false →
      exec (.dramTrainingDone h false lf) s = .next ((s.raise (pgDrc h) 3).hallFault h s.cyc).finish) ∧
    (∀ (s : State) (h : HallId) (lf : BitVec 8) (t : State),
      s.alive → (s.hall h).phase = .training → (s.hall h).trained = false → t = s.modHall h (fun y => { y with trained := true, pksFilled := true, testDone := true, testPass := lf.toNat == 0 }) →
      exec (.dramTrainingDone h true lf) s = .next (
      ((each (t.portsOf h) (fun p t => t.modKey p (fun k => { k with
        pksCur := k.current, pksPend := k.pending })) t).lanesFailed h lf.toNat).hallUp h).finish) ∧
    (∀ (s : State) (h : HallId) (t : State),
      s.alive → (s.hall h).phase = .training → (s.hall h).replayed = false → t = ((s.hallReplay h).modHall h (fun y => { y with replayed := true })).hallUp h →
      exec (.barnReplayDone h) s = .next (
      ({ t with
        brnReady := t.brnReady || [0, 1, 2, 3].all (fun k => (t.hall k).phase == HallPhase.faulted || (t.hall k).replayed) } : State)).finish) ∧
    (∀ (s : State) (t : State),
      s.alive → s.modState ≠ .loftBoot → s.modState ≠ .shutter → [0, 1, 2, 3].any (fun h => (s.hall h).phase == .run && (s.hall h).galOn != 4) = true → t = each [0, 1, 2, 3] (fun h t => t.nextGallery h) (s.toLoft s.loft.phyAt) →
      exec (.tapPhyGalleryPowerOn) s = .next (t.modLoft (fun l => { l with phyAt := t.lnow + 1500000 })).finish) ∧
    (∀ (s : State) (w : Window) (t : State),
      s.loft.bringWin = some w → t = (s.toLoft (w.dl + 1)).modLoft (fun l => { l with bringWin := none }) → s.alive → s.modState = .hallBringup →
      exec (.bringupWindowExpiry) s = .next (
      (each [0, 1, 2, 3] (fun h u => u.when ((t.portsOf h).any (fun p => (t.port p).st == .linking || (t.port p).st == .pairing)) (fun u => u.raise (pgRls h) 0)) t).toModState .verify).finish) ∧
    (∀ (s : State) (p : PortId) (w : Window),
      (s.port p).rls.bootWin = some w →
      exec (.bootWindowExpiry p) s = .next ((s.toHall (w.dl + 1)).modRls p (fun r => { r with bootWin := none, booted := true })).finish)

/-- Flights, groups, rate samples and the release commands act as the release rules say (R193, R194, R196, R198, R216).
Where it rests on the model's own choices, they are those of the logs 7, 8, 40, 79. -/
def Obligations.FlightRuns : Prop :=
    (∀ (s : State) (h : HallId),
      s.alive →
      exec (.flightDecision h) s = .next (s.decideFlight h).finish) ∧
    (∀ (s : State) (h : HallId) (g : BitVec 8) (v v2 : Nat),
      s.groupAll g.toNat = [v, v2] → (s.port v).ready = true → (s.port v2).ready = false → (s.port v).rls.verified = true → (s.port v2).rls.verified = false → s.alive → g.toNat ≠ 0 →
      exec (.groupWaitExpiry h g) s = .next (
      (((s.toHall ((s.port v).rls.verifiedAt + (s.hall h).groupWait * 800000000)).modRls v2 (fun r => { r with
        leftOut := true })).modHall h (fun x => { x with
        grpPartial := g.toNat :: x.grpPartial.filter (· ≠ g.toNat) })).raise (pgRls h) 2).finish) ∧
    (∀ (s : State) (h : HallId) (g : BitVec 8),
      s.alive → (s.hall h).outq.head? = some (.group g.toNat) →
      exec (.hallGroupReport h g) s = .next (
      (s.modHall h (fun x => { x with
        outq := x.outq.drop 1, grpKnown := x.grpKnown.filter (· ≠ g.toNat) ++ [g.toNat] })).groupRelease g.toNat).finish) ∧
    (∀ (s : State) (t : State),
      s.alive → t = s.toHall ((s.hnow / 80000000 + 1) * 80000000) →
      exec (.rateSampleTick) s = .next (each ((t.ports.filter (fun e => e.2.served)).map (·.1)) (fun p t => t.sampleRate p) t).finish) ∧
    (∀ (s : State) (h : HallId) (r : Requester) (p : Nat),
      s.reaches (pgRls h) 0x064 r → p = s.selPort h (pgRls h) 0x054 r → s.modState ≠ .departing → (s.port p).st = .held → (s.port p).rls.hold = true → (s.port p).rls.verified = true →
      exec (.release h r) s = .next ((s.modRls p (fun x => { x with given := true })).modHall h (fun x => { x with rlsResult := 0 })).finish) ∧
    (∀ (s : State) (h : HallId) (r : Requester),
      s.reaches (pgRls h) 0x064 r → s.modState = .departing →
      exec (.release h r) s = .next (s.modHall h (fun x => { x with rlsResult := 2 })).finish) ∧
    (∀ (s : State) (h : HallId) (r : Requester) (p : Nat),
      s.reaches (pgRls h) 0x064 r → p = s.selPort h (pgRls h) 0x054 r → (s.port p).st = .released →
      exec (.reset h r) s = .next (((s.resetPort p 0).platformReset08 p).modHall h (fun x => { x with rlsResult := 0 })).finish) ∧
    (∀ (s : State) (h : HallId) (r : Requester) (p : Nat),
      s.reaches (pgRls h) 0x064 r → p = s.selPort h (pgRls h) 0x054 r → s.modState ≠ .departing → (s.port p).st = .held →
      exec (.reverify h r) s = .next ((s.modRls p (fun x => { x with verified := false })).modHall h (fun x => { x with rlsResult := 0 })).finish)

/-- The departure of ports, the power-fail warning and the shutter's steps act as the shutter table says (R206, R210,
R211, R212). Where it rests on the model's own choices, they are those of the logs 7, 8. -/
def Obligations.DepartureShutterRuns : Prop :=
    (∀ (s : State) (p : PortId),
      s.alive → s.depTurn p →
      exec (.departPortStart p) s = .next (each (s.depUnit p) (fun q (t : State) => t.depStart q (16 < (s.depUnit p).length)) s).finish) ∧
    (∀ (s : State),
      s.alive →
      exec (.powerFailWarning) s = .next (s.powerFail).finish) ∧
    (∀ (s : State) (x : Shutter),
      s.shutter = some x → x.step = 0 →
      exec (.shutterHallHandoff) s = .next (
      (each [0, 1, 2, 3] (fun h t => each (t.hall h).reports (fun r u => u.takeReport r) (t.modHall h (fun y => { y with
        outq := [] }))) (s.toLoft (x.w0 + 8400000))).shutterStep 1).finish) ∧
    (∀ (s : State) (x : Shutter),
      s.shutterHandoff.shutter = some x → x.step = 1 →
      exec (.shutterDomainsOff) s = .next (((s.shutterHandoff.toLoft (x.w0 + 9000000)).shutterDark).shutterStep 2).finish) ∧
    (∀ (s : State) (x : Shutter),
      s.shutter = some x → x.step = 2 → x.thermal = false →
      exec (.shutterEnd) s = .next (s.shutterRecords.loftClear 8).finish)

/-- Encoder counts, index, line fault, rate and document-present inputs act as the encoder rules say (R219, R220,
R222). Where it rests on the model's own choices, they are those of the logs 8, 98. -/
def Obligations.EncoderInputsRun : Prop :=
    (∀ (s : State) (n : InputId),
      s.encOn n →
      exec (.encoderCount n .both) s = .next (((s.modEnc n (fun e => { e with quad := satAdd 16 e.quad 1 })).raise (pgEnc n) 1).faultTr n 2).finish) ∧
    (∀ (s : State) (n : InputId) (t : State),
      s.encOn n → (s.enc n).dirInv = false → t = s.modEnc n (fun e => { e with backward := false, rateCnt := e.rateCnt + 1, fwd := e.fwd + 1, cand := e.cand.map (fun c => (c.1, c.2.1, c.2.2 + 1)) }) →
      exec (.encoderCount n .aLeads) s = .next (((t.moveTo n (posAdd (s.tr n).pos 1)).settleDp n).passGap n).finish) ∧
    (∀ (s : State) (n : InputId) (t : State),
      s.encOn n → (s.enc n).dirInv = false → t = s.modEnc n (fun e => { e with backward := true, rateCnt := e.rateCnt + 1 }) →
      exec (.encoderCount n .bLeads) s = .next (((t.moveTo n (posAdd (s.tr n).pos (posMod - 1))).settleDp n).passGap n).finish) ∧
    (∀ (s : State) (n : InputId),
      s.encOn n → (s.enc n).indexEn → (s.enc n).idxSeen → (s.enc n).fwd ≤ (s.enc n).period → ((s.enc n).period != 0) = true → (s.enc n).tol < (s.enc n).period - (s.enc n).fwd →
      exec (.indexEdge n) s = .next (
      ((s.modEnc n (fun x => { x with
        fwd := 0, idxSeen := true, indexN := satAdd 16 x.indexN 1 })).raise (pgEnc n) 2).faultTr n 3).finish) ∧
    (∀ (s : State) (n : InputId),
      s.encOn n → (s.enc n).indexEn = false →
      exec (.indexEdge n) s = .next (s.modEnc n (fun x => { x with fwd := 0, idxSeen := true })).finish) ∧
    (∀ (s : State) (n : InputId),
      s.encOn n →
      exec (.lineFault n) s = .next ((s.raise (pgEnc n) 0).faultTr n 1).finish) ∧
    (∀ (s : State) (n : InputId),
      s.encOn n → (s.tr n).blk.enabled → (s.tr n).blk.maxRate < (s.enc n).rateCnt * 1000 →
      exec (.rateMeasureTick n) s = .next (
      (((s.toLoft ((s.lnow / 600000 + 1) * 600000)).modEnc n (fun e => { e with
        rate := (s.enc n).rateCnt * 1000, rateCnt := 0 })).raise (pgEnc n) 3).faultTr n 4).finish) ∧
    (∀ (s : State) (n : InputId) (level : Bool),
      s.encOn n → level ≠ (s.enc n).raw → (s.enc n).backward = false → (level != (s.enc n).dpInv) = (s.enc n).dp →
      exec (.dpInputChange n level) s = .next ((s.modEnc n (fun x => { x with raw := level })).modEnc n (fun x => { x with cand := none })).finish) ∧
    (∀ (s : State) (n : InputId),
      s.encOn n →
      exec (.dpInputChange n (s.enc n).raw) s = .next (s).finish) ∧
    (∀ (s : State) (n : InputId) (level : Bool),
      s.encOn n → level ≠ (s.enc n).raw → (s.enc n).backward = false → (level != (s.enc n).dpInv) ≠ (s.enc n).dp → (s.enc n).candIs (level != (s.enc n).dpInv) = false →
      exec (.dpInputChange n level) s = .next (
      ((((s.modEnc n (fun x => { x with raw := level })).modEnc n (fun x => { x with
        cand := some (level != (s.enc n).dpInv, (s.tr n).pos, 0) })).settleDp n).passGap n)).finish) ∧
    (∀ (s : State) (n : InputId) (level : Bool),
      s.encOn n → level ≠ (s.enc n).raw → (s.enc n).backward →
      exec (.dpInputChange n level) s = .next (
      (((s.modEnc n (fun x => { x with raw := level })).modEnc n (fun x => { x with
        dp := level != x.dpInv, cand := none })).raise (pgEnc n) 5).modTr n (fun x => { x with
        doc := x.doc.map (fun d => { d with flags := d.flags ||| 16 }) })).finish)

/-- Idle transports and their gaps, and the ends of gap windows, act as the gap rules say (R223, R224, R225). Where it
rests on the model's own choices, they are those of the logs 7, 8, 80. -/
def Obligations.GapWindowsRun : Prop :=
    (∀ (s : State) (t : TransId),
      s.alive → (s.tr t).st = .moving →
      exec (.transportIdleTimeout t) s = .next ((s.toLoft ((s.tr t).changedAt + 1200000000)).enterIdle t).finish) ∧
    (∀ (s : State) (t : TransId) (c : Nat) (u : State),
      s.alive → (s.tr t).st = .idle → (s.tr t).idleNext = some c → u = ((s.toLoft c).closeGap t 0 true).modTr t (fun x => { x with idleNext := some (max s.lnow c + 60000000) }) →
      exec (.idleGapTimer t) s = .next (u.openGap t true (u.tr t).pos).finish) ∧
    (∀ (s : State) (t : TransId) (g : Gap),
      s.alive → (s.tr t).idleGap = some g →
      exec (.idleGapExpiry t) s = .next ((s.toLoft (g.dlCyc + 1)).closeGap t 0 true).finish) ∧
    (∀ (s : State) (t : TransId) (g : Gap),
      s.alive → t.val < 16 → (s.tr t).gap = some g → posAfter (s.tr t).pos g.dlPos →
      exec (.gapWindowExpiry t) s = .next (s.closeGap t 0).finish) ∧
    (∀ (s : State) (t : TransId) (g : Gap),
      s.alive → t.val < 16 → (s.tr t).gap = some g → posAfter (s.tr t).pos g.dlPos = false →
      exec (.gapWindowExpiry t) s = .next (s.countEdges t ((posAdd g.dlPos 1 + posMod - (s.tr t).pos) % posMod) true).finish) ∧
    (∀ (s : State) (t : TransId) (g : Gap),
      s.alive → 16 ≤ t.val → (s.tr t).gap = some g → g.said →
      exec (.gapGuaranteeEnd t) s = .next ((s.toHall g.dlCyc).closeGap t 0).finish)

/-- Gap notices, DEFER windows and change reports act as the scheduling rules say (R22, R226, R230, R231). Where it
rests on the model's own choices, they are those of the logs 7, 8, 99. -/
def Obligations.ScheduledChangesRun : Prop :=
    (∀ (s : State) (h : HallId) (n : GapNote) (l : List StairIn),
      s.alive → (s.hall h).inq = .opened n :: l →
      exec (.gapOpenNotice h) s = .next ((s.modHall h (fun x => { x with inq := l })).gapOpenAt h n).finish) ∧
    (∀ (s : State) (h : HallId) (n : GapEnd) (l : List StairIn),
      s.alive → (s.hall h).inq = .closed n :: l →
      exec (.gapCloseNotice h) s = .next ((s.modHall h (fun x => { x with inq := l })).gapCloseAt h n).finish) ∧
    (∀ (s : State) (p : PortId) (b : Bound) (dl : Nat) (t : State),
      s.alive → firstDefer (s.port p).bounds = some (b, dl) → t = (s.toHall (dl + 1)).modPort p (fun v => { v with bounds := v.bounds.erase b }) → t.changeApplies p b.kind = true →
      exec (.deferWindowExpiry p) s = .next (({ t.applyChange p b.kind false with lpForced := satAdd 16 t.lpForced 1 }).raise pgLp 3).finish) ∧
    (∀ (s : State) (p : PortId) (b : Bound) (dl : Nat) (t : State),
      s.alive → firstDefer (s.port p).bounds = some (b, dl) → t = (s.toHall (dl + 1)).modPort p (fun v => { v with bounds := v.bounds.erase b }) → t.changeApplies p b.kind = false →
      exec (.deferWindowExpiry p) s = .next (t.dropChange p b.kind).finish) ∧
    (∀ (s : State) (h : HallId) (n : HReport) (l : List StairOut),
      s.alive → (s.hall h).outq = .change n :: l →
      exec (.hallChangeReport h) s = .next ((((s.modHall h (fun x => { x with outq := l })).stairGood h).takeReport n).confOpen n).finish)

/-- Selecting, staging and committing a transport, clearing its fault, and tying ports act as the control page says
(R227, R228, R496, R497). Where it rests on the model's own choices, they are those of the logs 8, 46. -/
def Obligations.TransportSetupRuns : Prop :=
    (∀ (s : State) (r : Requester) (t : TransId),
      s.reaches pgLp 0x044 r →
      exec (.lpTrSelWrite r t) s = .next (({ s.setSel pgLp 0x044 r t with lpStage := tabSet s.lpStage (reqNum r) (s.tr t).blk.words } : State)).finish) ∧
    (∀ (s : State) (r : Requester),
      s.reaches pgLp 0x060 r → s.commitCode (selTr s r) (tabGet [0, 0, 0, 0, 0, 0] s.lpStage (reqNum r)) ≠ 0 →
      exec (.commit r) s = .next (
      ({ s with
        lpResult := tabSet s.lpResult (reqNum r) (s.commitCode (selTr s r) (tabGet [0, 0, 0, 0, 0, 0] s.lpStage (reqNum r))) } : State)).finish) ∧
    (∀ (s : State) (r : Requester) (t : Nat) (w : List Nat),
      s.reaches pgLp 0x060 r → t = selTr s r → w = tabGet [0, 0, 0, 0, 0, 0] s.lpStage (reqNum r) → s.commitCode t w = 0 → (s.tr t).blk.enabled = (blockOf w).enabled →
      exec (.commit r) s = .next (((s.modTr t (fun x => { x with blk := blockOf w })).loadStage r t).lpResultSet r 0).finish) ∧
    (∀ (s : State) (r : Requester),
      s.reaches pgLp 0x060 r → (s.tr (selTr s r)).st ≠ .faulted →
      exec (.faultClr r) s = .next (({ s with lpResult := tabSet s.lpResult (reqNum r) 1 } : State)).finish) ∧
    (∀ (s : State) (r : Requester) (t : Nat),
      s.reaches pgLp 0x060 r → t = selTr s r → (s.tr t).st = .faulted → s.faultStays t = none →
      exec (.faultClr r) s = .next (
      (s.modTr t (fun x => { x with st := .moving, faultCause := 0, changedAt := s.lnow })).lpResultSet r 0).finish) ∧
    (∀ (s : State) (r : Requester),
      s.reaches pgLp 0x060 r →
      exec (.reload r) s = .next ((s.loadStage r (selTr s r)).lpResultSet r 0).finish) ∧
    (∀ (s : State) (r : Requester) (v : Word),
      s.reaches pgLp 0x07C r → v.toNat % 512 > 0x100 →
      exec (.lpTieDataWrite r v) s = .next (({ s with lpResult := tabSet s.lpResult (reqNum r) 3 } : State)).finish) ∧
    (∀ (s : State) (r : Requester) (v : Word) (p : Nat),
      s.reaches pgLp 0x07C r → p = s.getSel pgLp 0x078 r % 1024 → bits (v.toNat % 65536) 15 10 = 0 → v.toNat % 512 = 0x100 →
      exec (.lpTieDataWrite r v) s = .next (s.modHall (hallOf p) (fun h => { h with inq := h.inq ++ [.tie ⟨reqNum r, p, v.toNat % 65536⟩] })).finish) ∧
    (∀ (s : State) (h : HallId) (w : TieWrite) (l : List StairIn),
      s.alive → (s.hall h).inq = .tie w :: l → (s.port w.port).st ∉ tieStates →
      exec (.tieWriteArrival h) s = .next (({ s.modHall h (fun x => { x with inq := l }) with lpResult := tabSet s.lpResult w.r 1 } : State)).finish) ∧
    (∀ (s : State) (h : HallId) (w : TieWrite) (l : List StairIn),
      s.alive → (s.hall h).inq = .tie w :: l → (s.port w.port).st ∈ tieStates → w.entry % 512 < 256 →
      exec (.tieWriteArrival h) s = .next (
      ({ (s.modHall h (fun x => { x with inq := l })).modPort w.port (fun v => { v with
        tie := some (w.entry % 512), notify := bit w.entry 9 }) with lpResult := tabSet s.lpResult w.r 0 } : State)).finish)

/-- The sheaf timer, a late sheaf, recovery and flushes of the seal engine act as the seal rules say (R236, R238,
R240). Where it rests on the model's own choices, they are those of the logs 7, 8, 52, 101. -/
def Obligations.SheafRuns : Prop :=
    (∀ (s : State) (t : TransId) (a : Nat),
      s.alive → (s.tr t).firstAt = some a →
      exec (.sheafTimer t) s = .next ((s.toLoft (a + s.sheafMs * 600000)).queueSheaf t 0).finish) ∧
    (∀ (s : State) (t : TransId),
      s.alive → (s.tr t).job → (s.tr t).jobLate = false → s.pkeQ.any (fun j => j.tag == .sheaf t.val) = true →
      exec (.sheafLate t) s = .next (
      ((s.toLoft ((s.tr t).jobAt + s.sheafMs * 600000 + 1)).modTr t (fun y => { y with
        jobLate := true })).raise 0x1F 0).finish) ∧
    (∀ (s : State) (t : TransId),
      s.alive → s.gran.ready → (s.tr t).opened = false → (s.tr t).job = false → s.modState ≠ .loftBoot → s.modState ≠ .shutter → (s.tr t).needsRec →
      exec (.sealRecovery t) s = .next ((s.modTr t (fun y => { y with recovering := true })).queueSheaf t 5).finish) ∧
    (∀ (s : State) (t : TransId),
      s.alive → s.gran.ready → (s.tr t).opened = false → (s.tr t).job = false → s.modState ≠ .loftBoot → s.modState ≠ .shutter → (s.tr t).needsRec = false → (s.tr t).blk.enabled →
      exec (.sealRecovery t) s = .next (s.openChain t (s.tr t).openReason).finish) ∧
    (∀ (s : State) (r : Requester) (t : BitVec 9),
      s.reaches 0x1F 0x060 r → t.toNat < 256 →
      exec (.sealFlush r t) s = .next (s.queueSheaf t.toNat 3).finish) ∧
    (∀ (s : State) (r : Requester),
      s.reaches 0x1F 0x060 r →
      exec (.sealFlush r 0x100) s = .next (each s.chains (fun k u => u.queueSheaf k 3) s).finish)

/-- The host's seal messages act as the seal message table says (R241). Where it rests on the model's own choices, they
are those of the logs 8, 48, 82. -/
def Obligations.SealMessagesRun : Prop :=
    (∀ (s : State) (x : SessId) (b : Bytes),
      s.opens x → b.length = 2 → trOk b →
      exec (.sealStatus x b) s = .next ((s.taken x 0x24).respond x (s.nextReq x) ((s.taken x 0x24).sealStatusBytes (num b 0 2))).finish) ∧
    (∀ (s : State) (x : SessId) (b : Bytes),
      s.opens x → b.length = 10 → trOk b → num b 2 1 < 2 → 1 ≤ num b 9 1 → num b 9 1 ≤ 64 →
      exec (.sealRecords x b) s = .next (
      (s.taken x 0x25).respond x (s.nextReq x) ((s.taken x 0x25).sealRecordsBytes (num b 0 2) (num b 2 1) (num b 3 6) (num b 9 1))).finish) ∧
    (∀ (s : State) (x : SessId) (b : Bytes),
      s.opens x → b.length = 8 → trOk b →
      exec (.sealSheaf x b) s = .next ((s.taken x 0x26).respond x (s.nextReq x) ((s.taken x 0x26).sealSheafBytes (num b 0 2) (num b 2 6))).finish) ∧
    (∀ (s : State) (x : SessId) (b : Bytes) (t : State),
      s.opens x → (s.ses x).eff = 1 → b.length = 2 → trOk b → t = s.taken x 0x27 → t.modState ≠ .shutter → num b 0 2 ≠ 65535 → (t.tr (num b 0 2)).st ≠ .off →
      exec (.sealFlushReq x b) s = .next (
      (t.queueSheaf (num b 0 2) 3).respond x (s.nextReq x) (le 1 0 ++ le 6 ((t.queueSheaf (num b 0 2) 3).tr (num b 0 2)).coverNo)).finish) ∧
    (∀ (s : State) (x : SessId) (b : Bytes) (t : State),
      s.opens x → (s.ses x).eff = 1 → b.length = 2 → trOk b → t = s.taken x 0x27 → t.modState ≠ .shutter → num b 0 2 ≠ 65535 → (t.tr (num b 0 2)).st = .off →
      exec (.sealFlushReq x b) s = .next (t.respond x (s.nextReq x) (le 1 1 ++ le 6 0)).finish)

/-- Sideband messages of a platform act as their message tables say (R221, R235, R260, R373). Where it rests on the
model's own choices, they are those of the logs 8, 9, 47. -/
def Obligations.SidebandRuns : Prop :=
    (∀ (s : State) (p : PortId) (data : Bytes),
      s.hears p →
      exec (.sbMsg p data) s = .next ((s.accept p .vc3 1).sideband p data).finish) ∧
    (∀ (s : State) (p : PortId) (data : Bytes) (t : State),
      s.hears p → num data 0 1 = 0x50 → t = s.accept p .vc3 1 → (t.port p).served = false →
      exec (.positionReport p data) s = .next (({ t with lpRefused := satAdd 16 t.lpRefused 1 }).raise pgLp 0).finish) ∧
    (∀ (s : State) (p : PortId) (data : Bytes) (t : State),
      s.hears p → num data 0 1 = 0x50 → t = s.accept p .vc3 1 → (t.port p).served = true → t.reportsFor p ≠ [] → 1 ≤ num data 1 1 → num data 1 1 ≤ 15 → 4 + 16 * num data 1 1 ≤ data.length →
      exec (.positionReport p data) s = .next (
      each (t.reportsFor p) (fun k u => takeReports k ((List.range (num data 1 1)).map (parseReport data)) u) t).finish) ∧
    (∀ (s : State) (p : PortId) (data : Bytes) (t : State),
      s.hears p → num data 0 1 = 0x52 → t = s.accept p .vc3 1 → (t.port p).tie = none →
      exec (.imageReport p data) s = .next (({ t with dropImage := satAdd 16 t.dropImage 1 } : State)).finish) ∧
    (∀ (s : State) (p : PortId) (data : Bytes) (t : State) (k : Nat),
      s.hears p → num data 0 1 = 0x52 → t = s.accept p .vc3 1 → (t.port p).tie = some k → 64 ≤ data.length → (t.tr k).opened → 1 ≤ num data 2 6 → num data 2 6 < (t.tr k).docNo → (t.tr k).docNo ≤ num data 2 6 + 256 →
      exec (.imageReport p data) s = .next (
      t.sealPut k 4 0 (le 6 (num data 2 6) ++ le 2 p ++ le 2 (num data 8 2) ++ sub data 16 48)).finish) ∧
    (∀ (s : State) (p : PortId) (data : Bytes) (t : State),
      s.hears p → num data 0 1 = 0x60 → t = s.accept p .vc3 1 →
      exec (.confirmation p data) s = .next (
      (t.confirmation p (num data 1 1) (num data 4 8) (num data 12 8)).2.sbReply p (le 1 0x61 ++ le 1 (t.confirmation p (num data 1 1) (num data 4 8) (num data 12 8)).1)).finish) ∧
    (∀ (s : State) (p : PortId) (data : Bytes),
      s.hears p → num data 0 1 = 0x70 →
      exec (.pwdService p data) s = .next ((s.accept p .vc3 1).pwdServe p data).finish)

/-- Opening, filling, closing, listing and discarding staged images act as the staging rules say (R248, R249, R272).
Where it rests on the model's own choices, they are those of the logs 8, 86, 94, 98. -/
def Obligations.StagingRuns : Prop :=
    (∀ (s : State) (x : SessId) (b : Bytes),
      s.opens x → s.ownerOrService x → b.length = 24 →
      exec (.stageOpen x b) s = .next (((s.taken x 0x10).stageOpenBody b).2.respond x (s.nextReq x) ((s.taken x 0x10).stageOpenBody b).1).finish) ∧
    (∀ (s : State) (x : SessId) (b : Bytes) (t : State) (g : Image),
      s.opens x → s.ownerOrService x → 11 ≤ b.length → b.length ≤ 4106 → t = s.taken x 0x11 → t.stagingBarred = false → t.image (num b 0 2) = some g → num b 2 4 < g.blockCount → (b.drop 10).length = g.blockLen (num b 2 4) → (crc32c (b.drop 10)).toNat = num b 6 4 → tabFind g.blocks (num b 2 4) = none → g.st = 1 →
      exec (.stageBlock x b) s = .next (
      ({ t.modImage (num b 0 2) (fun i => { i with blocks := tabSet i.blocks (num b 2 4) (b.drop 10) }) with
        barnQ := t.barnQ ++ [.block (num b 0 2) (num b 2 4) x (s.nextReq x)] } : State)).finish) ∧
    (∀ (s : State) (x : SessId) (b : Bytes) (t : State) (g : Image),
      s.opens x → s.ownerOrService x → 11 ≤ b.length → b.length ≤ 4106 → t = s.taken x 0x11 → t.stagingBarred = false → t.image (num b 0 2) = some g → num b 2 4 < g.blockCount → (b.drop 10).length = g.blockLen (num b 2 4) → (crc32c (b.drop 10)).toNat ≠ num b 6 4 →
      exec (.stageBlock x b) s = .next ((t.raise pgBarn 0).respond x (s.nextReq x) ((t.raise pgBarn 0).stageAnswer 1 (num b 0 2))).finish) ∧
    (∀ (s : State) (x : SessId) (b : Bytes),
      s.opens x → b.length = 2 → (s.taken x 0x12).image (num b 0 2) = none →
      exec (.stageStatus x b) s = .next (((s.taken x 0x12).failBody 4 57).2.respond x (s.nextReq x) ((s.taken x 0x12).failBody 4 57).1).finish) ∧
    (∀ (s : State) (x : SessId) (b : Bytes) (t : State) (g : Image),
      s.opens x → b.length = 2 → t = s.taken x 0x12 → t.image (num b 0 2) = some g →
      exec (.stageStatus x b) s = .next (
      t.respond x (s.nextReq x) (le 1 0 ++ le 1 g.st ++ le 4 (t.heldCount (num b 0 2) g) ++ le 4 (t.missingBlock (num b 0 2) g) ++ if g.st = 1 then zeros 48 else sub (g.root ++ zeros 48) 0 48)).finish) ∧
    (∀ (s : State) (x : SessId) (b : Bytes) (t : State) (g : Image),
      s.opens x → s.ownerOrService x → b.length = 2 → t = s.taken x 0x13 → t.stagingBarred = false → t.image (num b 0 2) = some g → g.st = 1 → g.closing = none → t.missingBlock (num b 0 2) g = 0xFFFFFFFF →
      exec (.stageClose x b) s = .next (t.modImage (num b 0 2) (fun i => { i with closing := some (x.val, s.nextReq x) })).finish) ∧
    (∀ (s : State) (k : Nat) (g : Image) (ls : Tab Bytes),
      s.alive → s.image k = some g → g.closing ≠ none → g.leaves = [] → ls = (List.range g.blockCount).map (fun i => (i, leafDigest i (g.leaf i))) →
      exec (.stageTreeComputed k) s = .next (
      ({ s.modImage k (fun i => { i with leaves := ls, root := treeRoot (ls.map (·.2)) }) with
        barnQ := s.barnQ ++ [.imageClose k] } : State)).finish) ∧
    (∀ (s : State) (x : SessId) (b : Bytes),
      s.opens x → s.ownerOrService x → b.length = 2 → (s.taken x 0x14).image (num b 0 2) = none →
      exec (.stageDiscard x b) s = .next ((s.taken x 0x14).respond x (s.nextReq x) (le 1 4)).finish) ∧
    (∀ (s : State) (x : SessId) (b : Bytes) (t : State) (g : Image),
      s.opens x → s.ownerOrService x → b.length = 2 → t = s.taken x 0x14 → t.image (num b 0 2) = some g → g.st ≠ 3 → g.st ≠ 4 → g.closing = none → t.barnQ = [] →
      exec (.stageDiscard x b) s = .next (({ t with images := tabDel t.images (num b 0 2) } : State).respond x (s.nextReq x) (le 1 0)).finish) ∧
    (∀ (s : State) (x : SessId) (b : Bytes),
      s.opens x → b.length = 3 → 1 ≤ num b 2 1 → num b 2 1 ≤ 32 →
      exec (.stageList x b) s = .next ((s.taken x 0x15).respond x (s.nextReq x) ((s.taken x 0x15).stageListBytes (num b 0 2) (num b 2 1))).finish) ∧
    (∀ (s : State) (l : List BarnWrite) (t : State),
      s.alive → t = s.barnWear → t.barnQ = .revertCopies :: l →
      exec (.barnWriteDurable) s = .next (({ t with barnQ := l, act := { t.act with durable := true } } : State)).finish)

/-- Loading, checking, activating, cancelling and discarding a manifest act as the manifest rules say (R250, R251,
R252, R253, R254, R273). Where it rests on the model's own choices, they are those of the logs 8, 48, 49, 50, 96, 101. -/
def Obligations.ManifestRuns : Prop :=
    (∀ (s : State) (x : SessId) (b : Bytes) (t : State),
      s.opens x → s.ownerOrService x → 8 ≤ b.length → b.length ≤ 4104 → t = s.taken x 0x18 → num b 0 1 < 4 → t.slotBusy (num b 0 1) = false → (t.manSlot (num b 0 1)).checking = [] → num b 4 4 = 0 →
      exec (.manifestLoad x b) s = .next (
      (t.modMan (num b 0 1) (fun _ => { bytes := b.drop 8, complete := bit (num b 1 1) 0 })).respond x (s.nextReq x) (le 1 0 ++ le 4 (b.drop 8).length)).finish) ∧
    (∀ (s : State) (x : SessId) (b : Bytes) (k : Nat) (t : State),
      s.opens x → s.ownerOrService x → b.length = 1 → num b 0 1 < 4 → k = num b 0 1 → t = s.taken x 0x19 → (t.manSlot k).checking = [] → (t.manSlot k).complete = false →
      exec (.manifestCheck x b) s = .next (t.checkEnds k (1, 0xFF) [(x.val, s.nextReq x)]).finish) ∧
    (∀ (s : State) (x : SessId) (b : Bytes) (k : Nat) (t : State),
      s.opens x → s.ownerOrService x → b.length = 1 → num b 0 1 < 4 → k = num b 0 1 → t = s.taken x 0x19 → (t.manSlot k).checking = [] → (t.manSlot k).complete → t.checkEarly (t.manSlot k).bytes = 0 →
      exec (.manifestCheck x b) s = .next (
      (t.modMan k (fun u => { u with checking := [(x.val, s.nextReq x)] })).queueJob (manifestJob 3 (.manifest k) (t.manSlot k).bytes)).finish) ∧
    (∀ (s : State) (x : SessId) (b : Bytes) (t : State),
      s.opens x → ((s.ses x).eff == 1) = true → b.length = 1 → num b 0 1 < 4 → t = s.taken x 0x1A → (t.activateResult (num b 0 1)).1 ≠ 0 →
      exec (.manifestActivate x b) s = .next (
      (t.raise pgBarn 1).respond x (s.nextReq x) (le 1 (t.activateResult (num b 0 1)).1 ++ le 1 (t.activateResult (num b 0 1)).2 ++ le 4 (t.raise pgBarn 1).act.no)).finish) ∧
    (∀ (s : State) (x : SessId) (b : Bytes) (t u : State),
      s.opens x → ((s.ses x).eff == 1) = true → b.length = 1 → num b 0 1 < 4 → t = s.taken x 0x1A → (t.activateResult (num b 0 1)).1 = 0 → (mParts (t.manSlot (num b 0 1)).bytes).any (fun x => pKind x == 2) = false → u = t.beginGuarded (num b 0 1) (t.manSlot (num b 0 1)).bytes →
      exec (.manifestActivate x b) s = .next (u.respond x (s.nextReq x) (le 1 0 ++ le 1 0xFF ++ le 4 u.act.no)).finish) ∧
    (∀ (s : State) (x : SessId) (b : Bytes) (t u : State),
      s.opens x → ((s.ses x).eff == 1) = true → b.length = 1 → num b 0 1 < 4 → t = s.taken x 0x1A → (t.activateResult (num b 0 1)).1 = 0 → (mParts (t.manSlot (num b 0 1)).bytes).any (fun x => pKind x == 2) = true → u = t.beginWarden (num b 0 1) (t.manSlot (num b 0 1)).bytes →
      exec (.manifestActivate x b) s = .next (u.respond x (s.nextReq x) (le 1 0 ++ le 1 0xFF ++ le 4 u.act.no)).finish) ∧
    (∀ (s : State) (x : SessId),
      s.opens x →
      exec (.manifestStatus x []) s = .next ((s.taken x 0x1B).respond x (s.nextReq x) (s.taken x 0x1B).manifestStatusBytes).finish) ∧
    (∀ (s : State) (x : SessId) (b : Bytes) (t : State),
      s.opens x → ((s.ses x).eff == 1) = true → b.length = 4 → t = s.taken x 0x1C → t.act.opened = false →
      exec (.manifestCancel x b) s = .next (t.respond x (s.nextReq x) (le 1 6 ++ le 1 t.act.stage)).finish) ∧
    (∀ (s : State) (x : SessId) (b : Bytes) (t : State),
      s.opens x → ((s.ses x).eff == 1) = true → b.length = 4 → t = s.taken x 0x1C → t.act.opened → t.act.no = num b 0 4 → t.act.stage ≠ 5 → t.act.kind ≠ 1 →
      exec (.manifestCancel x b) s = .next ((t.actFails 1 0xFFFF).respond x (s.nextReq x) (le 1 0 ++ le 1 t.act.stage)).finish) ∧
    (∀ (s : State) (x : SessId) (b : Bytes) (t : State),
      s.opens x → ((s.ses x).eff == 1) = true → b.length = 4 → t = s.taken x 0x1C → t.act.opened → t.act.no = num b 0 4 → t.act.stage ≠ 5 → t.act.kind = 1 →
      exec (.manifestCancel x b) s = .next (t.cancelWarden.respond x (s.nextReq x) (le 1 0 ++ le 1 t.act.stage)).finish) ∧
    (∀ (s : State) (x : SessId) (b : Bytes),
      s.opens x → b.length = 9 → 1 ≤ num b 8 1 → num b 8 1 ≤ 64 →
      exec (.manifestHistory x b) s = .next (
      (s.taken x 0x1D).respond x (s.nextReq x) ((s.taken x 0x1D).manifestHistoryBytes (num b 0 8) (num b 8 1))).finish) ∧
    (∀ (s : State) (x : SessId) (b : Bytes) (t : State),
      s.opens x → s.ownerOrService x → b.length = 1 → num b 0 1 < 4 → t = s.taken x 0x1E → t.slotBusy (num b 0 1) = false → (t.manSlot (num b 0 1)).checking = [] →
      exec (.manifestDiscard x b) s = .next ((t.modMan (num b 0 1) (fun _ => {})).respond x (s.nextReq x) (le 1 0)).finish)

/-- Draining, copying and confirming a guarded activation act as the activation table says (R256, R257, R258, R260).
Where it rests on the model's own choices, they are those of the logs 7, 8, 66, 93. -/
def Obligations.GuardedActivationRuns : Prop :=
    (∀ (s : State),
      s.alive → s.act.opened → s.act.kind = 0 → s.act.stage = 1 → s.act.saved = false → s.act.changed.all (fun p => (s.port p).drained && (s.port p).tree.resident) = true →
      exec (.actDrainDone) s = .next (
      ({ (each s.act.changed (fun p t => t.saveCopy p) s).modAct (fun y => { y with saved := true }) with
        barnQ := s.barnQ ++ [.revertCopies] } : State)).finish) ∧
    (∀ (s : State),
      s.alive → s.act.opened → s.act.kind = 0 → s.act.stage = 1 → s.act.saved → s.act.durable → s.act.changed ≠ [] →
      exec (.actCopy) s = .next (
      each s.act.changed (fun p t => t.startCopy p false) ((s.ulogPut 0x42 (le 4 s.copiesSaved)).modAct (fun y => { y with
        stage := 2 }))).finish) ∧
    (∀ (s : State) (p : PortId) (w : Window),
      s.alive → s.act.opened → s.act.stage = 4 → (s.port p).upd.confWin = some w →
      exec (.confirmWindowExpiry p) s = .next (((s.toLoft (w.dl + 1)).raiseP pgBarn 3 p).actFails 4 p).finish)

/-- The handover of the warden to its new image and back acts as the warden activation table says (R264, R266, R268,
R274). Where it rests on the model's own choices, they are those of the logs 7, 8, 83, 101. -/
def Obligations.WardenActivationRuns : Prop :=
    (∀ (s : State) (back : Bytes),
      s.alive → s.act.opened → s.act.kind = 1 → s.act.stage = 6 → s.act.resume = false → imageRoot back ≠ pRoot (mPart s.act.man 0) →
      exec (.wdnSlotWritten back) s = .next (({ s with wslots := tabSet s.wslots s.act.newSlot back } : State).wdnAbandon 8).finish) ∧
    (∀ (s : State) (back x : Bytes) (t : State),
      s.alive → s.act.opened → s.act.kind = 1 → s.act.stage = 6 → s.act.resume = false → x = mPart s.act.man 0 → t = { s with wslots := tabSet s.wslots s.act.newSlot back } → (t.findImage 2 (pImage x) (pVersion x)).isSome → back.length = pLength x → imageRoot back = pRoot x →
      exec (.wdnSlotWritten back) s = .next (
      (t.wdnStep 0 s.loft.active s.act.newSlot).modAct (fun y => { y with stage := 7, resume := false })).finish) ∧
    (∀ (s : State) (l : Landing),
      s.alive → s.fromActive l → s.retained.trial = false → s.act.opened → s.act.stage = 7 → s.loft.landing (1 - s.loft.active) = 0 → s.loadPathOk →
      exec (.loadStandby l 0x7E81) s = .next (
      (s.modLoft (fun f => f.land (1 - s.loft.active) 2)).modAct (fun a => { a with
        readyDl := some (mkWin s.lnow 6000000000).dl, standbyReady := false })).finish) ∧
    (∀ (s : State) (l : Landing) (key : BitVec 16),
      s.alive → key ≠ 0x7E81#16 →
      exec (.loadStandby l key) s = .next (s.accErr pgBarn 0x6C 4 .warden).finish) ∧
    (∀ (s : State) (l : Landing) (d : Nat),
      s.alive → s.act.readyDl = some d → s.lnow ≤ d → s.fromStandby l →
      exec (.ready l 0x7E81) s = .next (
      (s.wdnStep 1 (landNum l) s.act.newSlot).modAct (fun a => { a with standbyReady := true, readyDl := none })).finish) ∧
    (∀ (s : State) (d : Nat),
      s.alive → s.act.readyDl = some d → s.act.opened → s.act.stage = 7 →
      exec (.standbyReadyTimeout) s = .next ((s.toLoft (d + 1)).wdnAbandon 8).finish) ∧
    (∀ (s : State) (l : Landing),
      s.alive → s.fromActive l → s.retained.trial = false → s.act.opened → s.act.stage = 7 → s.act.standbyReady →
      exec (.handOver l 0x7E81) s = .next (s.handOver).finish) ∧
    (∀ (s : State) (w : Window),
      s.alive → s.act.trialWin = some w → s.inTrial →
      exec (.trialWindowExpiry) s = .next ((s.toLoft (w.dl + 1)).forcedFallback 4).finish) ∧
    (∀ (s : State) (l : Landing) (w : Window),
      s.alive → s.act.trialWin = some w → s.lnow ≤ w.dl → s.fromActive l → s.retained.trial → s.inTrial →
      exec (.confirm l 0x7E81) s = .next (s.wdnConfirmed).finish) ∧
    (∀ (s : State) (l : Landing) (w : Window),
      s.alive → s.act.trialWin = some w → s.lnow ≤ w.dl → s.fromActive l → s.retained.trial → s.inTrial →
      exec (.handBack l 0x7E81) s = .next (s.handBack).finish)

/-- The Owner's key operations act as the key operation table says (R290, R291, R293, R296, R300). Where it rests on
the model's own choices, they are those of the logs 8, 48, 84, 101. -/
def Obligations.KeyOperationsRun : Prop :=
    (∀ (s : State) (x : SessId) (b : Bytes) (t : State),
      s.opens x → ((s.ses x).eff == 1) = true → keyBody 1 b → t = s.taken x 0x23 → t.setCode b = 0 →
      exec (.set x b) s = .next (
      (t.setKey (koSlot b) (koKey b)).respond x (s.nextReq x) ((t.setKey (koSlot b) (koKey b)).keyResp 0 (isAncestor t.gran.slots (koSlot b) keySlots (17 + 2 * x)))).finish) ∧
    (∀ (s : State) (x : SessId) (b : Bytes) (t : State),
      s.opens x → ((s.ses x).eff == 1) = true → keyBody 1 b → t = s.taken x 0x23 → t.setCode b ≠ 0 →
      exec (.set x b) s = .next (t.respond x (s.nextReq x) (t.keyResp (t.setCode b))).finish) ∧
    (∀ (s : State) (x : SessId) (b : Bytes) (t : State),
      s.opens x → ((s.ses x).eff == 1) = true → keyBody 2 b → t = s.taken x 0x23 → t.clearCode b = 0 →
      exec (.clear x b) s = .next (
      (t.clearKey (koSlot b)).respond x (s.nextReq x) ((t.clearKey (koSlot b)).keyResp 0 (isAncestor t.gran.slots (koSlot b) keySlots (17 + 2 * x)))).finish) ∧
    (∀ (s : State) (x : SessId) (b : Bytes) (t : State),
      s.opens x → ((s.ses x).eff == 1) = true → keyBody 3 b → t = s.taken x 0x23 → t.keyOpBar = 0 → t.otp.locked 15 = true →
      exec (.epochRoll x b) s = .next (t.respond x (s.nextReq x) (t.keyResp 8)).finish) ∧
    (∀ (s : State) (x : SessId) (b : Bytes) (t : State) (i : Nat),
      s.opens x → ((s.ses x).eff == 1) = true → keyBody 3 b → t = s.taken x 0x23 → t.keyOpBar = 0 → t.otp.locked 15 = false → t.otp.nextEpochBit = some i → t.gran.rollTo = none →
      exec (.epochRoll x b) s = .next (
      ({ (t.prepare 3 0 0xFFFF 0 0 []).modGran (fun g => { g with
        opOpen := some 3, burnBit := i, rollTo := some (x.val, s.nextReq x) }) with
        kOpen := some t.epoch } : State)).finish) ∧
    (∀ (s : State),
      s.alive → s.kOpen.isNone = false → s.gran.opOpen = some 3 → s.otp.run = none → s.pastFlush = false →
      exec (.epochBurnDone true) s = .next (
      (s.modOtp (fun o => (o.burnEpoch s.gran.burnBit true true).reread (174 + s.gran.burnBit / 20))).rollCommit false).finish) ∧
    (∀ (s : State) (x : SessId) (b : Bytes) (t : State),
      s.opens x → ((s.ses x).eff == 1) = true → keyBody 4 b → t = s.taken x 0x23 → t.tapSetCode b = 0 →
      exec (.tapSet x b) s = .next (
      (t.tapSetKey (koPort b) (koKey b)).respond x (s.nextReq x) ((t.tapSetKey (koPort b) (koKey b)).keyResp 0)).finish) ∧
    (∀ (s : State) (x : SessId) (b : Bytes) (t : State),
      s.opens x → ((s.ses x).eff == 1) = true → keyBody 5 b → t = s.taken x 0x23 → t.promoteCode (koPort b) = 0 →
      exec (.tapPromote (.host x b)) s = .next ((t.promote (koPort b)).respond x (s.nextReq x) ((t.promote (koPort b)).keyResp 0)).finish) ∧
    (∀ (s : State) (x : SessId) (b : Bytes) (t : State),
      s.opens x → ((s.ses x).eff == 1) = true → keyBody 6 b → t = s.taken x 0x23 → t.keyOpBar = 0 →
      exec (.tapClear x b) s = .next ((t.tapClearKey (koPort b)).respond x (s.nextReq x) ((t.tapClearKey (koPort b)).keyResp 0)).finish)

/-- ATTEST, QUOTE and KEY_PUBLIC act as the attestation rules say (R299, R303). Where it rests on the model's own
choices, they are those of the logs 5, 8, 48, 53. -/
def Obligations.AttestationRuns : Prop :=
    (∀ (s : State) (x : SessId) (b : Bytes) (t : State),
      s.opens x → attOk b → t = s.taken x 0x20 → attRange b = false →
      exec (.attest x b) s = .next (t.attRefused.respond x (s.nextReq x) (le 1 9 ++ zeros 3)).finish) ∧
    (∀ (s : State) (x : SessId) (b : Bytes) (t : State),
      s.opens x → attOk b → t = s.taken x 0x20 → attRange b = true → t.att.hmacEn = true → (t.useKey 7 .mac true).1 = 0 →
      exec (.attest x b) s = .next (
      ({ (t.useKey 7 .mac true).2 with att := { (t.useKey 7 .mac true).2.att with
        made := satAdd 16 (t.useKey 7 .mac true).2.att.made 1 } } : State).respond x (s.nextReq x) (attAnswer ((t.useKey 7 .mac true).2.report9 0x30 (b.take 32) (attFirst b) (attN b)) (hmacSha384 ((t.useKey 7 .mac true).2.slot 7).key ((t.useKey 7 .mac true).2.report9 0x30 (b.take 32) (attFirst b) (attN b))))).finish) ∧
    (∀ (s : State) (x : SessId) (b : Bytes) (t : State),
      s.opens x → attOk b → t = s.taken x 0x21 → attRange b = true → t.att.quoteEn = true → tabFind t.certs t.epoch ≠ none → t.queued 4 < 32 →
      exec (.quote x b) s = .next (
      t.queueJob (signJob 4 (.quote x (s.nextReq x) (t.report9 0x31 (b.take 32) (attFirst b) (attN b))) 6 (t.report9 0x31 (b.take 32) (attFirst b) (attN b)))).finish) ∧
    (∀ (s : State) (x : SessId) (b : Bytes) (t : State) (c : Bytes),
      s.opens x → b.length = 4 → t = s.taken x 0x22 → num b 0 4 = 0xFFFFFFFF → tabFind t.certs t.epoch = some c →
      exec (.keyPublic x b) s = .next (t.respond x (s.nextReq x) (le 1 0 ++ t.devidPublic ++ c)).finish)

/-- The granary's commands of the warden act on the selected slot as the granary rules say (R287, R289, R302). Where it
rests on the model's own choices, they are those of the logs 8, 84. -/
def Obligations.GranaryCommandsRun : Prop :=
    (∀ (s : State) (r : Requester) (k : Nat),
      s.reaches pgGran 0x05C r → k = grnSel s r → 32 ≤ k → (s.slot k).persist = false →
      exec (.grnClear r) s = .next ((s.clearSlot k).grnResult 0).finish) ∧
    (∀ (s : State) (r : Requester),
      s.reaches pgGran 0x05C r → grnSel s r < 32 →
      exec (.grnClear r) s = .next (s.modGran (fun g => { g with opRes := 5 })).finish) ∧
    (∀ (s : State) (r : Requester) (k : Nat),
      s.reaches pgGran 0x05C r → k = grnSel s r → 32 ≤ k → (s.slot k).persist = false →
      exec (.invalidate r) s = .next (((s.invalidated k).setSlot k { s.slot k with stale := true }).grnResult 0).finish) ∧
    (∀ (s : State) (r : Requester) (v : Word),
      s.reaches pgGran 0x05C r → 32 ≤ grnSel s r → deriveLen (bits v.toNat 19 16) = none →
      exec (.derive r v) s = .next (s.grnResult 4).finish) ∧
    (∀ (s : State) (r : Requester) (v : Word) (k p : Nat) (t : State),
      s.reaches pgGran 0x05C r → k = grnSel s r → 32 ≤ k → bits v.toNat 19 16 = 1 → bit v.toNat 26 = false → (s.slot k).persist = false → p = bits v.toNat 15 8 → (s.useKey p .derive false).1 = 0 → t = (s.useKey p .derive false).2 → (t.slot k).persist = false →
      exec (.derive r v) s = .next (
      (t.fillSlot k 1 (bits v.toNat 25 20) false false p (kdf (t.slot p).key "SKW-OEM" (t.moduleId ++ le 4 t.gran.opCtx) 256)).grnResult 0).finish) ∧
    (∀ (s : State) (r : Requester) (v : Word) (k : Nat),
      s.reaches pgGran 0x058 r → s.frozen pgGran 0x058 v.toNat = false → k = grnSel s r → 32 ≤ k → (s.slot k).persist = false →
      exec (.grnLimitWrite r v) s = .next (s.setSlot k { s.slot k with limit := v.toNat }).finish)

/-- The commands of the one-time-programmable memory start and end as the OTP rules say (R339, R340, R341, R342, R343).
Where it rests on the model's own choices, they are those of the logs 8, 31. -/
def Obligations.OtpCommandsRun : Prop :=
    (∀ (s : State) (r : Requester) (key : BitVec 16),
      s.reaches pgOtp 0x044 r →
      exec (.program r key) s = .next (s.otpStart key.toNat { cmd := 1, row := s.otp.row, reg := s.otp.region, data := s.otp.wdata } false).finish) ∧
    (∀ (s : State) (r : Requester) (key : BitVec 16),
      s.reaches pgOtp 0x044 r →
      exec (.programTwin r key) s = .next (s.otpStart key.toNat { cmd := 2, row := s.otp.row, reg := s.otp.region, data := s.otp.wdata } false).finish) ∧
    (∀ (s : State) (r : Requester) (key : BitVec 16) (acc : Bool),
      s.reaches pgOtp 0x044 r →
      exec (.lock r key acc) s = .next (s.otpStart key.toNat { cmd := 3, row := s.otp.row, reg := s.otp.region, data := s.otp.wdata } acc).finish) ∧
    (∀ (s : State) (r : Requester) (key : BitVec 16),
      s.reaches pgOtp 0x044 r →
      exec (.repulse r key) s = .next (s.otpStart key.toNat { cmd := 4, row := s.otp.row, reg := s.otp.region, data := s.otp.wdata } false).finish) ∧
    (∀ (s : State) (r : Requester) (key : BitVec 16),
      s.reaches pgOtp 0x044 r →
      exec (.marginRead r key) s = .next (s.otpStart key.toNat { cmd := 5, row := s.otp.row, reg := s.otp.region, data := s.otp.wdata } false).finish) ∧
    (∀ (s : State) (o : OtpOutcome) (c : OtpRun) (t : State),
      s.alive → s.otp.run = some c → c.cmd = 1 → c.ses = none → t = { s with otp := s.otp.finish c o (decide (Config.freeNat s.freeCtr % 2 = 1)), freeCtr := s.freeCtr + 1 } →
      exec (.otpCommandDone o) s = .next (t.when (t.otp.result == 7) (fun u => u.raise pgOtp 6)).finish)

/-- Submission, grant and completion of public-key jobs act as the engine rules say (R312, R313, R314, R318). Where it
rests on the model's own choices, they are those of the logs 8, 33, 51, 101. -/
def Obligations.PkeJobsRun : Prop :=
    (∀ (s : State) (r : Requester) (e : EngineId) (pin : Bool) (d block : Bytes),
      s.reaches (pgPke e) 0x054 r → descBad ((d ++ zeros 64).take 64) = true →
      exec (.submit r e pin ⟨d, block⟩) s = .next (s.modEng e (fun g => { g with subRes := 2 })).finish) ∧
    (∀ (s : State) (r : Requester) (e : EngineId) (d block : Bytes),
      s.reaches (pgPke e) 0x054 r → descBad ((d ++ zeros 64).take 64) = false → s.queued 3 < 64 →
      exec (.submit r e false ⟨d, block⟩) s = .next (
      (s.queueJob (descJob ((d ++ zeros 64).take 64) (s.eng e).subAddr none block)).modEng e (fun g => { g with
        subRes := 0 })).finish) ∧
    (∀ (s : State) (e : EngineId) (i : Nat) (j : PkeJob) (u t : State),
      s.alive → (s.eng e).free → s.nextJob e ≠ none → u = s.toLoft (s.eng e).freeAt → (List.range e).any (fun k => u.engReady k) = false → (u.eng e).free → (u.eng e).freeAt ≤ u.lnow → u.nextJob e = some (i, j) → (((u.admitAt j).dequeue i).jobAdmit j).1 = 0 → t = (((u.admitAt j).dequeue i).jobAdmit j).2 →
      exec (.pkeGrant e) s = .next ((t.sheafEpoch j).1.pkeLoad e (t.sheafEpoch j).2).finish) ∧
    (∀ (s : State) (e : EngineId) (i : Nat) (j : PkeJob) (u t : State),
      s.alive → (s.eng e).free → s.nextJob e ≠ none → u = s.toLoft (s.eng e).freeAt → (List.range e).any (fun k => u.engReady k) = false → (u.eng e).free → (u.eng e).freeAt ≤ u.lnow → u.nextJob e = some (i, j) → (((u.admitAt j).dequeue i).jobAdmit j).1 ≠ 0 → t = (((u.admitAt j).dequeue i).jobAdmit j).2 →
      exec (.pkeGrant e) s = .next (
      (t.modEng e (fun g => { g with freeAt := t.lnow + 1 })).notAdmitted e j (((u.admitAt j).dequeue i).jobAdmit j).1).finish) ∧
    (∀ (s : State) (e : EngineId) (j : PkeJob) (o : PkeOut) (u v : State),
      s.alive → (s.eng e).zeroing = none → (s.eng e).released = none → (s.eng e).job = some j → s.injection (pgPke e) 0 none = 0 → s.injection (pgPke e) 1 none = 0 → o = (s.eng e).outcome j → o.code = 0 → u = ((s.toLoft ((s.eng e).releaseAt j)).modEng e (fun g => { g with released := some true })).release10 j o → v = u.toLoft ((u.eng e).doneAt j) → (v.eng e).job = some j → (v.eng e).result j = 0 → (v.eng e).outcome j = o →
      exec (.pkeJobDone e ⟨false, false⟩) s = .next ((v.engineDone e).deliver e j 0 o.outs.flatten (v.eng e).stale).finish) ∧
    (∀ (s : State) (e : EngineId) (j : PkeJob) (c : Nat) (v : State),
      s.alive → (s.eng e).zeroing = none → (s.eng e).released = none → (s.eng e).job = some j → s.injection (pgPke e) 0 none = 0 → c = ((s.eng e).outcome j).code → ((s.eng e).outcome j).invalid → v = (s.toLoft ((s.eng e).validated j)).toLoft ((s.eng e).doneAt j) →
      exec (.pkeJobDone e ⟨false, false⟩) s = .next ((v.engineDone e).deliver e j c [] (v.eng e).stale).finish)

/-- Abort, stall, tests and enabling of the public-key engines act as the engine rules say (R321, R323, R327, R328).
Where it rests on the model's own choices, they are those of the logs 8, 51, 101. -/
def Obligations.PkeControlRuns : Prop :=
    (∀ (s : State) (r : Requester) (e : EngineId),
      s.reaches (pgPke e) 0x054 r → s.pkeQ = [] → s.runningAt (s.eng e).subAddr = none →
      exec (.abort r e) s = .next (s.modEng e (fun g => { g with subRes := 3 })).finish) ∧
    (∀ (s : State) (r : Requester) (e : EngineId) (j : PkeJob) (l : List PkeJob),
      s.reaches (pgPke e) 0x054 r → s.pkeQ = j :: l → j.tag = .warden (s.eng e).subAddr →
      exec (.abort r e) s = .next ((({ s with pkeQ := l } : State).writeDesc j 22 0xFF false).modEng e (fun g => { g with subRes := 0 })).finish) ∧
    (∀ (s : State) (e : EngineId) (c : Nat) (j : PkeJob),
      s.alive → (s.eng e).zeroing = some (22, c) → (s.eng e).job = some j → j.own = false →
      exec (.pkeAbortZeroed e) s = .next (
      (((s.engineDone e).modEng e (fun y => { y with
        aborted := satAdd 16 y.aborted 1 })).deliver e j 22 [] (s.eng e).stale).testAfterReset e).finish) ∧
    (∀ (s : State) (e : EngineId),
      s.alive → (s.eng e).job ≠ none → (s.eng e).zeroing = none →
      exec (.pkeStallTimeout e) s = .next (((s.toLoft ((s.eng e).grantAt + 65536)).raise (pgPke e) 3).abortEngine e 21).finish) ∧
    (∀ (s : State) (r : Requester) (e : EngineId),
      s.reaches (pgPke e) 0x040 r → s.writeMask (pgPke e) 0x040 r &&& 2 ≠ 0 → s.modState = .serving → (s.eng e).job = none → (s.eng e).zeroing = none → (s.eng e).kat = false →
      exec (.katRun r e) s = .next (s.modEng e (fun y => { y with kat := true, katDone := false })).finish) ∧
    (∀ (s : State) (e : EngineId) (pass : Bool),
      s.alive → (s.eng e).kat →
      exec (.pkeKatDone e pass) s = .next (s.katResult e pass).finish) ∧
    (∀ (s : State) (r : Requester) (e : EngineId),
      s.reaches (pgPke e) 0x040 r → s.writeMask (pgPke e) 0x040 r &&& 1 ≠ 0 → s.frozen (pgPke e) 0x040 0 = false →
      exec (.pkeEnableWrite r e false) s = .next ((s.modEng e (fun g => { g with enable := false })).dropPinned e).finish) ∧
    (∀ (s : State) (r : Requester) (e : EngineId),
      s.reaches (pgPke e) 0x040 r → s.writeMask (pgPke e) 0x040 r &&& 1 ≠ 0 → s.frozen (pgPke e) 0x040 1 = false →
      exec (.pkeEnableWrite r e true) s = .next (s.modEng e (fun g => { g with enable := true })).finish)

/-- The warden watchdog's writes and expiry act as its write table says (R357, R360, R375). Where it rests on the
model's own choices, they are those of the logs 7, 8. -/
def Obligations.WardenWatchdogRuns : Prop :=
    (∀ (s : State) (l : Landing) (n : Nat),
      s.alive → s.wwd.running → landNum l = s.loft.active → s.loft.landing s.loft.active = 1 → s.lnow < s.wwd.start + s.wwd.cycles → n < 16 → s.wwd.curEn.getLsbD n = true → s.wwd.checked.getLsbD n = false →
      exec (.wwdKick (some l) (BitVec.ofNat 32 (0x5A00 + n))) s = .next (s.modWwd (fun x => { x with checked := x.checked ||| BitVec.ofNat 16 (2 ^ n) })).finish) ∧
    (∀ (s : State) (l : Landing),
      s.alive → s.wwd.running → landNum l = s.loft.active → s.loft.landing s.loft.active = 1 → s.lnow < s.wwd.start + s.wwd.cycles → s.wwdOpens ≤ s.lnow → s.wwd.curEn &&& ~~~s.wwd.checked = 0#16 →
      exec (.wwdKick (some l) 0xC3A5) s = .next (
      s.modWwd (fun x => { x with
        services := satAdd 16 x.services 1, checked := 0, start := s.lnow + 1, first := false, curMs := x.periodMs, curEn := x.slotEn })).finish) ∧
    (∀ (s : State) (l : Landing),
      s.alive → s.wwd.running → landNum l = s.loft.active → s.loft.landing s.loft.active = 1 → s.lnow < s.wwd.start + s.wwd.cycles → s.lnow < s.wwdOpens →
      exec (.wwdKick (some l) 0xC3A5) s = .next ((s.raise 0x15 0).wwdFaultNext 2).finish) ∧
    (∀ (s : State) (v : Word), exec (.wwdKick none v) s = .next (s).finish) ∧
    (∀ (s : State),
      s.alive → s.wwd.running →
      exec (.wwdExpiry) s = .next ((s.toLoft (s.wwd.start + s.wwd.cycles)).wwdFault 1).finish)

/-- The Loft watchdog, its clock monitor and its reset act as their rules say (R366, R367, R368, R376). Where it rests
on the model's own choices, they are those of the logs 7, 8, 45. -/
def Obligations.LoftWatchdogRuns : Prop :=
    (∀ (s : State) (l : Landing),
      s.alive → s.lwd.running → s.loft.landing (landNum l) = 1 → s.lwdOver = false →
      exec (.lwdKick (some l) 0x3C96) s = .next (
      ({ s with lwd := { s.lwd with
        start := s.lwdNow (s.lwd.clkSel || s.rcOnly) + 1, curS := s.lwd.periodS, curRc := s.lwd.clkSel || s.rcOnly } } : State)).finish) ∧
    (∀ (s : State) (l : Landing) (v : Word),
      s.alive → s.lwd.running → s.loft.landing (landNum l) = 1 → s.lwdOver = false → v.toNat ≠ 15510 →
      exec (.lwdKick (some l) v) s = .next (s.raise 0x16 0).finish) ∧
    (∀ (s : State) (l : Landing) (v : Word),
      s.alive → s.lwd.running → s.loft.landing (landNum l) = 1 → s.lwdOver →
      exec (.lwdKick (some l) v) s = .next (s.loftWdReset 5).finish) ∧
    (∀ (s : State),
      s.alive → s.lwd.running → s.modState ≠ .loftBoot → s.loft.halted = false →
      exec (.lwdExpiry) s = .next (s.toLwd.loftWdReset 5).finish) ∧
    (∀ (s : State),
      s.alive →
      exec (.clockMonitorTrip) s = .next ((s.toLoft (s.lnow + 1)).loftWdReset 6).finish) ∧
    (∀ (s : State) (c : Nat),
      s.loft.resetting = some c →
      exec (.loftWdResetFlushed) s = .next (s.shutterRecords.loftClear c).finish) ∧
    (∀ (s : State) (p : PortId),
      s.alive → (s.port p).pwd.running →
      exec (.pwdExpiry p) s = .next ((s.toHall ((s.port p).pwd.start + (s.port p).pwd.cycles)).pwdFault p 1).finish) ∧
    (∀ (s : State) (h : HallId) (r : Requester),
      s.reaches (pgHall h) 0x118 r →
      exec (.clearCount h r) s = .next (s.modPwd (s.selPort h (pgHall h) 0x100 r) (fun w => { w with resets := 0 })).finish)

/-- The history pass, shadows, the alarm and lockstep errors act as the collection rules say (R386, R387, R392, R397,
R410, R494). Where it rests on the model's own choices, they are those of the logs 7, 8, 75. -/
def Obligations.CollectionRuns : Prop :=
    (∀ (s : State) (l : Landing),
      s.alive → landNum l = s.loft.active → s.loft.landing s.loft.active = 1 →
      exec (.lockstepMismatch l) s = .next ((s.modLoft (fun x => x.land (landNum l) 4)).raise 0x10 2).finish) ∧
    (∀ (s : State) (k : Nat),
      s.alive → k = max (ceilDiv (s.time - s.loftAt) 16) (s.root.lastPass + 1) →
      exec (.historyPass) s = .next (
      (({ s with time := max s.time (s.loftAt + 16 * k) } : State).modRoot (fun r => { r with
        lastPass := k })).passHistory).finish) ∧
    (∀ (s : State) (d : Domain) (e : Nat),
      (s.root.shadows.find? (fun x => x.dom == d)).bind (·.dl) = some e →
      exec (.shadowEnd d) s = .next ((s.toDomain d (e + 1)).endShadow d).finish) ∧
    (∀ (s : State) (t : Nat),
      s.root.pulseEnd = some t →
      exec (.alarmPulseEnd) s = .next ((s.toLoft t).modRoot (fun r => { r with pulseEnd := none, closed := r.hold })).finish) ∧
    (∀ (s : State),
      s.alive →
      exec (.alarmContactFault) s = .next (s.raise 0xE7 0).finish) ∧
    (∀ (s : State) (r : Requester),
      s.reaches 0xE7 0x040 r → s.writeMask 0xE7 0x040 r &&& 2 ≠ 0 →
      exec (.test r) s = .next (s.alarmPulse).finish) ∧
    (∀ (s : State) (t : Nat),
      s.modState = .serving → s.loft.serveAt = some t →
      exec (.modresetCountClear) s = .next ((s.toLoft (t + 360000000000)).modRoot (fun r => { r with consec := 0 })).finish) ∧
    (∀ (s : State), exec (.retainedStoreRefresh) s = .next (s).finish)

/-- Resets by command, hall resets, injection, reactions and stair errors act as the reset and injection rules say
(R393, R397, R407, R409). Where it rests on the model's own choices, they are those of the logs 7, 8, 81. -/
def Obligations.ResetInjectionRuns : Prop :=
    (∀ (s : State) (h : HallId) (r : Requester),
      s.reaches (pgHcol h) 0x05C r →
      exec (.linkReset h r 0x6B1D) s = .next (s.linkReset (s.selPort h (pgHcol h) 0x054 r) 0 1 s.cyc).finish) ∧
    (∀ (s : State) (h : HallId) (r : Requester),
      s.reaches (pgHcol h) 0x05C r →
      exec (.hallReset h r 0x6B1D) s = .next (s.hallResetStart h 0 s.cyc).finish) ∧
    (∀ (s : State) (h : HallId) (r : Requester) (key : BitVec 16),
      s.reaches (pgHcol h) 0x05C r → key.toNat ≠ 27421 →
      exec (.hallReset h r key) s = .next (s.accErr (pgHcol h) 0x05C 4 r).finish) ∧
    (∀ (s : State) (h : HallId) (w : Window),
      s.alive → (s.hall h).phase = .awaitAcks → (s.hall h).ackWin = some w →
      exec (.hallResetAckTimeout h) s = .next ((s.toHall (w.dl + 1)).hallResetDown h).finish) ∧
    (∀ (s : State) (h : HallId),
      s.alive → s.modState ≠ .shutter → (s.hall h).phase = .inReset →
      exec (.hallResetRelease h) s = .next (s.hallReleased h).finish) ∧
    (∀ (s : State) (r : Requester) (page : BitVec 9) (v : Word),
      s.live r → pageExists page.toNat → s.barred page.toNat r = false → s.mayInject r → (s.hdr page.toNat).errLock = false → checkerExists page.toNat (bits v.toNat 4 0) = true → bits v.toNat 9 8 ≠ 3 →
      exec (.errInjWrite r page v) s = .next (
      s.modHdr page.toNat (fun h => { h with
        injChk := bits v.toNat 4 0, injMode := bits v.toNat 9 8, injDry := bit v.toNat 12, injPort := bits v.toNat 25 16, injArmed := bits v.toNat 9 8 != 0 })).finish) ∧
    (∀ (s : State) (r : Requester) (page : BitVec 9) (v : Word),
      s.live r → pageExists page.toNat → s.barred page.toNat r = false → s.mayInject r → (s.hdr page.toNat).errLock = false → checkerExists page.toNat (bits v.toNat 4 0) = false →
      exec (.errInjWrite r page v) s = .next (s.accErr page.toNat 0x018 5 r).finish) ∧
    (∀ (s : State) (r : Requester) (page : BitVec 9) (v : Word),
      s.live r → pageExists page.toNat → s.barred page.toNat r = false → bit v.toNat 15 = false → bits v.toNat 10 8 < 6 →
      exec (.reactSelWrite r page v) s = .next (s.setSel page.toNat 0x028 r (bits v.toNat 4 0)).finish) ∧
    (∀ (s : State) (h : HallId),
      s.alive → (s.hall h).phase ≠ .off → (s.hall h).stairRun < 16 →
      exec (.stairCrcError h) s = .next (
      (s.modHall h (fun x => { x with
        stairRetry := satAdd 16 x.stairRetry 1, stairRun := (s.hall h).stairRun + 1 })).raiseE { page := pgHcol h, bit := 0, time := s.cyc }).finish)

/-- Partners, the gateway and the crossing's frames act as the crossing rules say (R414, R415, R416, R429, R439). Where
it rests on the model's own choices, they are those of the logs 7, 8, 41, 54, 67, 102. -/
def Obligations.CrossingRuns : Prop :=
    (∀ (s : State) (x : SessId),
      s.alive →
      exec (.partner x ⟨true, []⟩) s = .next (s.modSes x (fun v => { v with partner := true })).finish) ∧
    (∀ (s : State) (x : SessId),
      s.alive →
      exec (.partner x ⟨false, []⟩) s = .next ((s.closeSes x none none).modSes x (fun v => { v with partner := false, gwq := [] })).finish) ∧
    (∀ (s : State) (x : SessId) (b : Bool) (raw : Bytes),
      s.alive → 4 ≤ x.val → raw ≠ [] → serialOk raw = false →
      exec (.partner x ⟨b, raw⟩) s = .next (({ s with xng := { s.xng with badFrames := s.xng.badFrames + 1 } } : State)).finish) ∧
    (∀ (s : State) (x : SessId) (b : Bool) (raw : Bytes),
      s.alive → 4 ≤ x.val → serialOk raw → serialRecord raw = [] →
      exec (.partner x ⟨b, raw⟩) s = .next ((s.modSes x (fun v => { v with partner := true })).serialIn x).finish) ∧
    (∀ (s : State) (t : State),
      s.alive → s.xng.silent = false → t = (s.toLoft (s.gwEnd + 1)).closeAll none →
      exec (.gwSilentTimeout) s = .next (({ t with xng := { t.xng with gwUp := false, silent := true } } : State).raise pgXng 4).finish) ∧
    (∀ (s : State) (g : GwReport),
      s.alive → s.lnow ≤ s.gwEnd →
      exec (.gwStatus g) s = .next (
      ({ s with xng := { s.xng with
        gwUp := true, gwAt := s.lnow, silent := false, gwBad := s.xng.badFrames } }.netReport 0 g.addr0.toNat).netReport 1 g.addr1.toNat).finish) ∧
    (∀ (s : State) (raw : Bytes),
      s.alive → xngCheck true raw = .crc →
      exec (.crossingFrameDrop true raw) s = .next (({ s with xng := { s.xng with dCrc := satAdd 32 s.xng.dCrc 1 } }.raise pgXng 3 : State)).finish) ∧
    (∀ (s : State) (raw : Bytes),
      s.alive → xngCheck true raw = .type →
      exec (.crossingFrameDrop true raw) s = .next (({ s with xng := { s.xng with dType := satAdd 32 s.xng.dType 1 } }.raise pgXng 0 : State)).finish) ∧
    (∀ (s : State) (raw : Bytes),
      s.alive → xngCheck false raw = .rate → (s.ses (xngPort raw)).handed = none →
      exec (.crossingFrameDrop false raw) s = .next (({ s with xng := { s.xng with dOut := satAdd 16 s.xng.dOut 1 } }.raise pgXng 2 : State)).finish) ∧
    (∀ (s : State) (raw : Bytes),
      s.alive → xngCheck true raw = .len →
      exec (.crossingFrameDrop true raw) s = .next (({ s with xng := { s.xng with dLen := satAdd 32 s.xng.dLen 1 } }.raise pgXng 1 : State)).finish) ∧
    (∀ (s : State) (a : Nat),
      s.alive → s.xng.changedAt = some a →
      exec (.gwConfigSend) s = .next (
      ({ s with xng := { s.xng with
        changedAt := none }, out := .gwConfig (s.xng.net0.bytes ++ s.xng.net1.bytes) (xngFrame 0x84 0 (s.xng.net0.bytes ++ s.xng.net1.bytes)) :: s.out } : State)).finish) ∧
    (∀ (s : State) (x : SessId) (a : Nat),
      s.alive → (s.ses x).handed = some a →
      exec (.drainTimeout x) s = .next ((s.toLoft (a + 3000000000)).closeSes x none (some 4)).finish) ∧
    (∀ (s : State) (x : SessId) (a : Nat),
      s.alive → (s.ses x).handed = some a → s.lnow < a + 3000000000 →
      exec (.sessionRecordTaken x) s = .next (each ((s.ses x).recs.take 1) (fun r (t : State) => t.gwTake x r.2) (s.modSes x Ses.leaves)).finish)

/-- Opening, failing and closing of host sessions act as the session rules say (R413, R419, R421, R423, R430, R431,
R440). Where it rests on the model's own choices, they are those of the logs 7, 8, 42, 69, 102. -/
def Obligations.SessionOpenCloseRuns : Prop :=
    (∀ (s : State) (x : SessId) (b : Bytes),
      s.alive →
      exec (.hello x b) s = .next ((s.serialIn x).helloRecord x b).finish) ∧
    (∀ (s : State) (x : SessId) (b : Bytes),
      s.alive →
      exec (.proof x b) s = .next ((s.serialIn x).proofRecord x b).finish) ∧
    (∀ (s : State) (x : SessId) (w : Window),
      s.alive → (s.ses x).st = 1 → (s.ses x).proofWin = some w →
      exec (.proofWindowExpiry x) s = .next (((s.toLoft (w.dl + 1)).closeSes x none none).sesFailure x).finish) ∧
    (∀ (s : State) (x : SessId) (d : Nat),
      s.alive → (s.ses x).blockEnd = some d →
      exec (.portBlockExpiry x) s = .next ((s.toLoft (d + 1)).modSes x (fun v => { v with blockEnd := none, fails := 0 })).finish) ∧
    (∀ (s : State) (x : SessId) (rep : Bool),
      s.alive → (rep && s.mayRepeat x) = false →
      exec (.sealedRequestFail x rep) s = .next ((((s.lapse x).serialIn x).closeSes x none none).raise (pgSes x) 1).finish) ∧
    (∀ (s : State) (x : SessId) (t : Nat) (b rc : Bytes) (u : State),
      s.opens x → (x : Nat) ≥ 4 → (s.ses x).rxSeq ≥ 1 → (s.ses x).lastResp = some (t, b, rc) → u = ((s.serialIn x).countUse (16 + 2 * x)).modSes x (fun v => { v with lastRec := s.lnow }) →
      exec (.sealedRequestFail x true) s = .next (
      ({ u with out := responseOut x t b rc :: u.out }).modSes x (fun v => v.waits s.lnow rc)).finish) ∧
    (∀ (s : State) (x : SessId),
      s.opens x → (x : Nat) ≥ 4 → (s.ses x).rxSeq ≥ 1 → (s.ses x).lastResp = none →
      exec (.sealedRequestFail x true) s = .next (((s.serialIn x).countUse (16 + 2 * x)).modSes x (fun v => { v with lastRec := s.lnow })).finish) ∧
    (∀ (s : State) (x : SessId),
      s.opens x →
      exec (.close x []) s = .next (((s.taken x 0x05).respond x (s.nextReq x) []).closeSes x none none).finish) ∧
    (∀ (s : State) (x : SessId),
      s.alive → (s.ses x).st = 2 →
      exec (.sessionIdleTimeout x) s = .next ((s.toLoft ((s.ses x).idleEnd + 1)).closeSes x (some 5) (some 6)).finish) ∧
    (∀ (s : State) (x : SessId) (r : Requester),
      s.reaches (pgSes x) 0x064 r →
      exec (.sesClose x r 0x5C1E) s = .next (s.closeSes x (some 4) none).finish) ∧
    (∀ (s : State) (x : SessId) (r : Requester) (key : BitVec 16),
      s.reaches (pgSes x) 0x064 r → key.toNat ≠ 23582 →
      exec (.sesClose x r key) s = .next (s.accErr (pgSes x) 0x064 4 r).finish)

/-- PING, SESSION_INFO and the event messages act as the session message table says (R428, R431). Where it rests on the
model's own choices, they are those of the logs 8, 17, 69. -/
def Obligations.SessionMessagesRun : Prop :=
    (∀ (s : State) (x : SessId) (b : Bytes),
      s.opens x → b.length = 8 →
      exec (.ping x b) s = .next ((s.taken x 0x06).respond x (s.nextReq x) b).finish) ∧
    (∀ (s : State) (x : SessId),
      s.opens x →
      exec (.sessionInfo x []) s = .next ((s.taken x 0x07).respond x (s.nextReq x) ((s.taken x 0x07).infoBytes x)).finish) ∧
    (∀ (s : State) (x : SessId) (b : Bytes),
      s.opens x → b.length = 1 → num b 0 1 ≤ 5 →
      exec (.eventFilter x b) s = .next (
      ((s.taken x 0x2D).modSes x (fun v => { v with
        minCode := num b 0 1 })).respond x (s.nextReq x) (le 1 0 ++ le 4 (s.taken x 0x2D).root.nextNo)).finish) ∧
    (∀ (s : State) (x : SessId) (b : Bytes),
      s.opens x → b.length = 5 → 1 ≤ num b 4 1 → num b 4 1 ≤ 64 →
      exec (.eventFetch x b) s = .next ((s.taken x 0x2E).respond x (s.nextReq x) ((s.taken x 0x2E).fetchBytes (num b 0 4) (num b 4 1))).finish) ∧
    (∀ (s : State) (x : SessId) (t : State),
      s.opens x → t = s.taken x 0x2F →
      exec (.eventStatus x []) s = .next (
      t.respond x (s.nextReq x) (le 4 t.root.nextNo ++ le 4 t.root.lost ++ le 4 t.root.merged ++ le 1 (t.ses x).events.length ++ le 1 (b2n ((t.ses x).missedF || (t.ses x).missed.isSome)))).finish)

/-- Service and test access act as the service access rules say (R435, R436, R437). Where it rests on the model's own
choices, they are those of the logs 5, 7, 8, 87. -/
def Obligations.ServiceAccessRuns : Prop :=
    (∀ (s : State) (x : SessId) (t : State),
      s.opens x → t = s.taken x 0x38 →
      exec (.svcStatus x []) s = .next (
      t.respond x (s.nextReq x) (le 1 (b2n t.otp.svcClosed + 2 * b2n t.otp.testClosed) ++ le 1 (t.ses x).flags ++ le 1 (modCode t.modState) ++ le 1 0 ++ le 8 t.loft.wdnId ++ le 8 t.loft.wdnVer ++ t.moduleId)).finish) ∧
    (∀ (s : State) (x : SessId) (t : State),
      s.opens x → ((s.ses x).role == 3) = true → t = s.taken x 0x39 → t.svc.chal = none →
      exec (.svcChallenge x [1]) s = .next (
      ({ (t.draw 32).2 with svc := { (t.draw 32).2.svc with
        chal := some (x.val, 1, (t.draw 32).1, mkWin (t.draw 32).2.lnow 360000000000) } } : State).respond x (s.nextReq x) (le 1 0 ++ zeros 3 ++ (t.draw 32).1 ++ le 4 600000)).finish) ∧
    (∀ (s : State) (c : Nat × Nat × Bytes × Window),
      s.alive → s.svc.chal = some c →
      exec (.svcChallengeExpiry) s = .next (({ s.toLoft (c.2.2.2.dl + 1) with svc := { s.svc with chal := none } } : State)).finish) ∧
    (∀ (s : State) (x : SessId) (b : Bytes) (t : State),
      s.opens x → ((s.ses x).role == 3) = true → b.length = 20 → t = s.taken x 0x3A → t.svc.chal = none →
      exec (.svcReopen x b) s = .next (
      ({ t with svc := { t.svc with
        fails := satAdd 16 t.svc.fails 1 } } : State).respond x (s.nextReq x) (le 1 2 ++ le 1 (t.ses x).flags)).finish) ∧
    (∀ (s : State) (x : SessId) (b nc : Bytes) (t u v : State) (w : Window),
      s.opens x → ((s.ses x).role == 3) = true → b.length = 20 → num b 0 1 = 1 → t = s.taken x 0x3A → t.svc.chal = some (x.val, 1, nc, w) → t.lnow ≤ w.dl → chainOk t.gran.slots keySlots 8 = true →
      sub b 4 16 = (hmacSha384 (t.slot 8).key (ascii "RELMAL-REOPEN" ++ t.moduleId ++ le 1 1 ++ le 1 x ++ nc)).take 16 →
      u = t.chalExpired.countUse 8 → v = (u.modSes x (fun y => u.access x { y with svcRe := true })).raise pgSvc 1 →
      exec (.svcReopen x b) s = .next (
      ({ v with svc := { v.svc with
        reopens := satAdd 16 v.svc.reopens 1 } } : State).respond x (s.nextReq x) (le 1 0 ++ le 1 (v.ses x).flags)).finish) ∧
    (∀ (s : State) (x : SessId) (b : Bytes) (u : State) (c : OtpRun),
      s.opens x → ((s.ses x).eff == 1) = true → b.length = 1 → u = (s.taken x 0x3B).otpStart 0x4D2C { cmd := 2, row := 173, reg := 0, data := num b 0 1 % 4, ses := some (x.val, s.nextReq x) } false → u.otp.run = some c → c.ses = some (x.val, s.nextReq x) →
      exec (.svcClose x b) s = .next (u).finish)

/-- The PORT messages of the host act as the port message table says (R205, R432, R433, R434). Where it rests on the
model's own choices, they are those of the logs 8, 17, 56, 63, 88. -/
def Obligations.PortMessagesRun : Prop :=
    (∀ (s : State) (x : SessId) (b : Bytes),
      s.opens x → b.length = 4 → 1 ≤ num b 2 2 → num b 2 2 ≤ 256 → num b 0 2 + num b 2 2 ≤ 1024 →
      exec (.portStatus x b) s = .next (
      (s.taken x 0x30).respond x (s.nextReq x) (zeros 4 ++ (List.range (num b 2 2)).flatMap (fun k => ((s.taken x 0x30).port (num b 0 2 + k)).statusBytes))).finish) ∧
    (∀ (s : State) (x : SessId) (b : Bytes),
      s.opens x → b.length = 2 → portOk b →
      exec (.portInfo x b) s = .next ((s.taken x 0x35).respond x (s.nextReq x) (zeros 1 ++ ((s.taken x 0x35).port (num b 0 2)).infoBytes)).finish) ∧
    (∀ (s : State) (x : SessId) (b : Bytes) (d : DeviceRead) (t : State),
      s.opens x → s.owner x → b.length = 36 → portOk b → t = s.taken x 0x31 → t.enrolCode b ≠ 0 →
      exec (.portEnrol x b d) s = .next (t.respond x (s.nextReq x) [BitVec.ofNat 8 (t.enrolCode b)]).finish) ∧
    (∀ (s : State) (x : SessId) (b : Bytes) (d : DeviceRead) (t : State) (q : EnrolReq),
      s.opens x → s.owner x → b.length = 36 → portOk b → t = s.taken x 0x31 → t.enrolCode b = 0 → q = { port := num b 0 2, ses := x.val, seq := s.nextReq x, body := b, dev := d, man := (t.manSlot (num b 9 1)).bytes } →
      exec (.portEnrol x b d) s = .next (
      ({ t with
        enrols := t.enrols ++ [q] } : State).queueJob (manifestJob 3 (.enrol q.port) q.man)).finish) ∧
    (∀ (s : State) (x : SessId) (b : Bytes) (t : State),
      s.opens x → s.owner x → b.length = 2 → portOk b → t = s.taken x 0x32 → t.retireCode (num b 0 2) = 0 →
      exec (.portRetire x b) s = .next ((t.retireBegin (num b 0 2)).respond x (s.nextReq x) [0]).finish) ∧
    (∀ (s : State) (x : SessId) (b : Bytes) (t : State),
      s.opens x → s.owner x → b.length = 3 → portOk b → num b 2 1 = 1 → t = s.taken x 0x33 → t.enterCode (num b 0 2) = 0 →
      exec (.enter x b) s = .next ((t.request (num b 0 2) (.quarantine 16 false)).respond x (s.nextReq x) [0]).finish) ∧
    (∀ (s : State) (x : SessId) (b : Bytes) (t : State),
      s.opens x → s.owner x → b.length = 3 → portOk b → num b 2 1 = 2 → t = s.taken x 0x33 → t.enterCode (num b 0 2) = 0 →
      exec (.enterDiscard x b) s = .next ((t.request (num b 0 2) (.quarantine 16 true)).respond x (s.nextReq x) [0]).finish) ∧
    (∀ (s : State) (x : SessId) (b : Bytes) (t : State),
      s.opens x → s.ownerOrService x → b.length = 3 → portOk b → num b 2 1 = 3 → t = s.taken x 0x33 → t.relCode (num b 0 2) = 0 →
      exec (.quarantineRelease x b) s = .next ((t.releaseAsk (num b 0 2)).respond x (s.nextReq x) [0]).finish) ∧
    (∀ (s : State) (x : SessId) (t : State),
      s.opens x → s.owner x → t = s.taken x 0x34 → t.departCode = 0 →
      exec (.departRequest x [1]) s = .next (t.departBegin.respond x (s.nextReq x) [0]).finish) ∧
    (∀ (s : State) (x : SessId) (t : State),
      s.opens x → s.owner x → t = s.taken x 0x34 → t.cancelCode = 0 →
      exec (.departCancel x [2]) s = .next (t.departCancel.respond x (s.nextReq x) [0]).finish)

/-- Mains, the charger and the commit reserve act as the supply rules say (R444, R447, R449, R450, R452, R498). Where
it rests on the model's own choices, they are those of the logs 7, 8, 76. -/
def Obligations.MainsReserveRuns : Prop :=
    (∀ (s : State), exec (.mainsOutOfLimits) s = .next ((s.modPwr (fun w => { w with mainsOk := false })).chargerStop).finish) ∧
    (∀ (s : State), exec (.bulkBelow380) s = .next (s.chargerStop).finish) ∧
    (∀ (s : State),
      s.modState ≠ .cold → s.pwr.mainsOk = false → s.modState ≠ .shutter → s.loft.resetting = none →
      exec (.mainsReturn) s = .next (
      ((s.modPwr (fun w => { w with mainsOk := true })).modPwr (fun w => { w with
        dips := satAdd 16 w.dips 1 })).raise pgPwr 0).finish) ∧
    (∀ (s : State),
      s.modState ≠ .cold → s.pwr.mainsOk → s.pwr.testing = none → s.pwr.charging = false → s.loft.resetting = none →
      exec (.chargerRestart) s = .next (s.chargerStart).finish) ∧
    (∀ (s : State),
      s.modState ≠ .cold → s.pwr.charging = true → s.pwr.ready = false → s.pwr.nextTest = none →
      exec (.reserveReady) s = .next (
      s.modPwr (fun w => { w with ready := true, readyDl := none, nextTest := some (s.lnow + 6000000000) })).finish) ∧
    (∀ (s : State) (d : Nat),
      s.pwr.readyDl = some d →
      exec (.reserveReadyTimeout) s = .next (((s.toLoft (d + 1)).modPwr (fun w => { w with readyDl := none })).raise pgPwr 3).finish) ∧
    (∀ (s : State) (t : Nat),
      s.pwr.nextTest = some t → s.mayTest → s.pwr.testing = none →
      exec (.reserveTestStart) s = .next (((s.toLoft t).modPwr (fun w => { w with nextTest := some (t + 51840000000000) })).testBegin).finish) ∧
    (∀ (s : State) (t cap esr full : Nat),
      s.pwr.testing = some t → s.pwr.mainsOk = false → 200 ≤ full → full < 860 →
      exec (.reserveTestEnd cap esr full) s = .next (
      ((s.toLoft t).modPwr (fun w => { w with
        testing := none, capMf := cap, esr := esr, full := full, testAt := some (max s.lnow t), ready := w.ready })).raise pgPwr 2).finish) ∧
    (∀ (s : State) (r : Requester),
      s.reaches pgPwr 0x058 r → s.mayTest → s.pwr.testing = none →
      exec (.pwrResTest r) s = .next (s.testBegin.modPwr (fun w => { w with result := 0 })).finish) ∧
    (∀ (s : State) (r : Requester),
      s.reaches pgPwr 0x058 r → s.mayTest = false →
      exec (.pwrResTest r) s = .next (s.modPwr (fun w => { w with result := 1 })).finish)

/-- Power domains and the environment's sensors act as the domain and sensor rules say (R455, R456, R461, R462). Where
it rests on the model's own choices, they are those of the logs 8, 77. -/
def Obligations.DomainsSensorsRun : Prop :=
    (∀ (s : State) (r : Requester) (d : Nat),
      s.reaches pgPwr 0x064 r → d = selDom s r → d < 1024 → s.modState ≠ .shutter → s.phyMayOn d = true →
      exec (.on r) s = .next (
      ((s.domSet d true).modDom d (fun x => { x with locked := false, retryAt := none })).modPwr (fun w => { w with
        result := 0 })).finish) ∧
    (∀ (s : State) (r : Requester),
      s.reaches pgPwr 0x064 r → 1024 ≤ selDom s r →
      exec (.on r) s = .next (s.modPwr (fun w => { w with result := 1 })).finish) ∧
    (∀ (s : State) (r : Requester) (d : Nat),
      s.reaches pgPwr 0x064 r → d = selDom s r → d < 1024 → s.modState ≠ .shutter →
      exec (.off r) s = .next (
      ((s.phyOff d 1 s.cyc).modDom d (fun x => { x with retryAt := none })).modPwr (fun w => { w with
        result := 0 })).finish) ∧
    (∀ (s : State) (d : Fin 1074),
      s.alive → s.domOn d →
      exec (.domainTrip d) s = .next ((s.tripDomain d).raise pgPwr 4).finish) ∧
    (∀ (s : State) (p : PortId) (t : Nat) (u : State),
      (s.dom p).retryAt = some t → u = (s.toLoft t).modDom p (fun x => { x with retryAt := none }) → s.alive → s.modState ≠ .shutter → u.phyMayOn p → (u.hall (hallOf p)).phase = .run →
      exec (.domainRetryTimer p) s = .next (u.domSet p true).finish) ∧
    (∀ (s : State) (m : SensorReading) (u : State),
      u = each (List.range 8) (fun k t => t.sampleSensor k (m.temps.getD k none)) s → (List.range 8).any (fun k => (u.sensor k).trip && !(s.sensor k).trip) = false →
      exec (.sensorSample m) s = .next (u.airCheck).finish)

/-- Locks, counter clears, register reads and writes act as the register rules say (R15, R481, R484, R487, R489, R490).
Where it rests on the model's own choices, they are those of the logs 8, 57, 70, 71, 73, 98. -/
def Obligations.RegisterAccessRuns : Prop :=
    (∀ (s : State) (r : Requester) (page : BitVec 9),
      s.reaches page.toNat 0x008 r →
      exec (.cntClear r page) s = .next (s.clearCounters page.toNat).finish) ∧
    (∀ (s : State) (page : BitVec 9),
      s.reaches page.toNat 0x030 .warden → (s.hdr page.toNat).cfgSet = false →
      exec (.cfgLock .warden page) s = .next (s.modHdr page.toNat (fun x => { x with cfgLock := true, cfgSet := true })).finish) ∧
    (∀ (s : State) (page : BitVec 9),
      s.reaches page.toNat 0x030 .warden → (s.hdr page.toNat).cfgSet = true →
      exec (.cfgLock .warden page) s = .next ((s.modHdr page.toNat (fun x => x)).accErr page.toNat 0x030 1 .warden).finish) ∧
    (∀ (s : State) (page : BitVec 9),
      s.reaches page.toNat 0x030 .warden → (s.hdr page.toNat).errSet = false →
      exec (.errLock .warden page) s = .next (s.modHdr page.toNat (fun x => { x with errLock := true, errSet := true })).finish) ∧
    (∀ (s : State) (r : Requester) (page : BitVec 9) (off : BitVec 12) (t : State),
      s.live r → pageExists page.toNat → isLo page.toNat off.toNat → s.barred page.toNat r = false → t = (s.shadowRead page.toNat off.toNat r).jbufSample page.toNat off.toNat →
      exec (.loRegisterRead r page off) s = .next (({ t.latchRead page.toNat off.toNat r with freeCtr := t.freeCtr + 1 } : State)).finish) ∧
    (∀ (s : State) (r : Requester) (g : GalleryId) (t : State),
      s.live r → s.barred (pgPw g) r = false → t = s.shadowRead (pgPw g) 0x044 r →
      exec (.pwStateRead r g) s = .next (({ t.latchRead (pgPw g) 0x044 r with freeCtr := t.freeCtr + 1 } : State)).finish) ∧
    (∀ (s : State) (page : BitVec 9) (off : BitVec 12) (v : Word),
      s.live .warden → off.toNat % 4 = 0 → s.byLanding page.toNat off.toNat v.toNat = none → pageExists page.toNat = false →
      exec (.registerWrite page off v) s = .next (s.raise 0x10 3).finish) ∧
    (∀ (s : State) (page : BitVec 9) (off : BitVec 12) (v : Word),
      s.live .warden → off.toNat % 4 = 0 → s.byLanding page.toNat off.toNat v.toNat = none → pageExists page.toNat = true → s.pageInReset page.toNat = true →
      exec (.registerWrite page off v) s = .next (s.accErr page.toNat off.toNat 6 .warden).finish) ∧
    (∀ (s : State) (page : BitVec 9) (off : BitVec 12) (v : Word),
      s.live .warden → off.toNat % 4 = 0 → s.byLanding page.toNat off.toNat v.toNat = none → pageExists page.toNat = true → s.pageInReset page.toNat = false → off.toNat ≠ 48 →
      exec (.registerWrite page off v) s = .next (s.setReg page.toNat off.toNat v.toNat .warden (s.writeMask page.toNat off.toNat .warden)).finish)

/-- The PAGE messages of the host act as the page message table says (R431, R490). Where it rests on the model's own
choices, they are those of the logs 8, 48, 70. -/
def Obligations.PageMessagesRun : Prop :=
    (∀ (s : State) (x : SessId) (b : Bytes) (t : State) (y : State × Bytes × Bool),
      s.opens x → b.length = 5 → t = s.taken x 0x08 → pageExists (num b 0 2) = true → spanOk (num b 2 2) (num b 4 1) 1 64 = true → y = t.readWords (num b 0 2) (.session x) ((List.range (num b 4 1)).map (fun k => num b 2 2 + 4 * k)) → y.2.2 = true →
      exec (.pageRead x b) s = .next (y.1.respond x (s.nextReq x) (le 1 0 ++ le 1 (y.2.1.length / 4) ++ zeros 2 ++ y.2.1)).finish) ∧
    (∀ (s : State) (x : SessId) (b : Bytes) (t : State),
      s.opens x → b.length = 5 → t = s.taken x 0x08 → pageExists (num b 0 2) = false →
      exec (.pageRead x b) s = .next (t.respond x (s.nextReq x) (1 :: zeros 3)).finish) ∧
    (∀ (s : State) (x : SessId) (b : Bytes) (t : State) (y : State × Nat × Nat),
      s.opens x → b.length = 8 + 4 * num b 4 1 → t = s.taken x 0x09 → pageExists (num b 0 2) = true → spanOk (num b 2 2) (num b 4 1) 1 16 = true → y = t.writeWords x.val (num b 0 2) x.isLt ((List.range (num b 4 1)).map (fun k => (num b 2 2 + 4 * k, num b (8 + 4 * k) 4))) →
      exec (.pageWrite x b) s = .next (y.1.respond x (s.nextReq x) (le 1 y.2.2 ++ le 1 y.2.1)).finish) ∧
    (∀ (s : State) (x : SessId) (b : Bytes) (t u z : State) (old : Nat),
      s.opens x → b.length = 12 → t = s.taken x 0x0A → pageExists (num b 0 2) = true → spanOk (num b 2 2) 1 1 1 = true → (regW (num b 0 2) (num b 2 2)).rw ≠ 0 → num b 2 2 ≠ 48 → t.readReg (num b 0 2) (num b 2 2) (.session x) = (some old, u) → u.hostWrite x.val (num b 0 2) (num b 2 2) ((old &&& (full ^^^ num b 4 4)) ||| (num b 8 4 &&& num b 4 4)) x.isLt = (0, z) →
      exec (.pageModify x b) s = .next (
      z.respond x (s.nextReq x) (le 4 0 ++ le 4 old ++ le 4 (z.regVal (num b 0 2) (num b 2 2) (.session x)))).finish) ∧
    (∀ (s : State) (x : SessId) (b : Bytes) (t : State),
      s.opens x → b.length = 2 → t = s.taken x 0x0B → pageExists (num b 0 2) = true →
      exec (.pageRights x b) s = .next (
      t.respond x (s.nextReq x) (le 1 0 ++ le 1 (1 + 2 * b2n (mayWritePage (t.ses x).eff (num b 0 2))) ++ zeros 2 ++ le 4 (pageId (num b 0 2)))).finish)

/-- A step is exec of the command at the front of the queue, on the rest of the queue (R6). -/
def Obligations.StepRunsFront : Prop :=
    ∀ (s : State) (c : Instr) (rest : List Instr), s.pending = c :: rest →
      step s = exec c { s with pending := rest }

/-- On an empty queue a step is one tick of the clock and what the module then does by itself (the model's choice, log
2) (R6). -/
def Obligations.IdleStepTicks : Prop :=
    ∀ (s : State), s.pending = [] → step s = .next ({ s with time := s.time + 1 } : State).finish

/-- After reset the module is COLD, every port ABSENT, every error word and mask 0, no entry in the history, and every
collector covers its children (R41, R42, R381, R382, R385). -/
def Obligations.ResetState : Prop :=
    State.reset.modState = .cold ∧ (∀ p < 1024, (State.reset.port p).st = .absent) ∧
    (∀ page < 512, (State.reset.hdr page).errStat = 0 ∧ (State.reset.hdr page).errMask = 0) ∧ (∀ p < 1024, State.reset.perr p = 0) ∧
    State.reset.root.stat = 0 ∧ State.reset.root.hist = [] ∧ State.reset.pending = [] ∧ State.reset.Collected

/-- After every step, from every state, each collector word holds a bit for every child that is not zero (R380, R382).
-/
def Obligations.StepKeepsCollected : Prop :=
    ∀ (s t : State), step s = .next t → t.Collected

/-- Every command runs: a step answers a next state from every state (R426, R487). -/
def Obligations.StepAlwaysNext : Prop :=
    ∀ (s : State), ∃ t, step s = .next t

/-- ACCESS records the last access error and counts it, no source or history changes, and ERR written 1 clears ERR and
COUNT (R487). -/
def Obligations.AccessErrorRecord : Prop :=
    (∀ (s : State) (page off reason : Nat) (r : Requester),
      let h := (s.accErr page off reason r).hdr page
      h.accErr = true ∧ h.accReq = reqNum r ∧ h.accOff = off ∧ h.accReason = reason ∧ h.accCount = min ((s.hdr page).accCount + 1) 255 ∧
      (∀ q, ((s.accErr page off reason r).hdr q).errStat = (s.hdr q).errStat) ∧
      (s.accErr page off reason r).portErr = s.portErr ∧ (s.accErr page off reason r).root = s.root) ∧
    (∀ (s : State) (page : BitVec 9) (v : Word), s.reaches page.toNat 0x02C .warden → bit v.toNat 0 = true →
      exec (.registerWrite page 0x02C v) s = .next (s.modHdr page.toNat (fun h => { h with accErr := false, accCount := 0 })).finish)

/-- A policy switch leaves the state and policy of every accepted entry, and what makes an entry ready to commit, as
they were (R108). -/
def Obligations.PolicySwitchKeepsEntries : Prop :=
    ∀ (s : State) (p q : Nat), ((s.policySwitch p).port q).ring.entries = (s.port q).ring.entries ∧
      (s.policySwitch p).commitReady q = s.commitReady q

/-- An occurrence sets the bit of its source, masked or not, set before or not (R380). -/
def Obligations.RaiseSetsSource : Prop :=
    (∀ (s : State) (e : Event) (q : Nat), ((s.raiseE e).hdr q).errStat =
      if q = e.page then (s.hdr q).errStat ||| BitVec.ofNat 32 (2 ^ e.bit) else (s.hdr q).errStat) ∧
    (∀ (s : State) (p q b synd : Nat) (inj : Bool), (s.raisePort p b inj synd).perr q =
      if q = p then s.perr q ||| BitVec.ofNat 8 (2 ^ b) else s.perr q) ∧
    (∀ (s : State) (p b synd : Nat) (inj : Bool), (s.hdr (0x82 + 4 * (p / 64))).errMask.getLsbD b = false →
      ∃ e, (s.raisePort p b inj synd).root.evq = s.root.evq ++ [e] ∧ e.page = 0x82 + 4 * (p / 64) ∧ e.bit = b ∧ e.port = some p)

/-- The end of a command changes only the collector words of a module at rest (the frame of every command) (R382,
R384). -/
def Obligations.FinishAtRest : Prop :=
    ∀ (s : State), s.AtRest → s.finish = { s with root := { s.root with
      gal := s.finish.root.gal, hcol := s.finish.root.hcol, loftCol := s.finish.root.loftCol,
      hostCol := s.finish.root.hostCol, stat := s.finish.root.stat } }

/-- Taking the children into the collectors keeps every bit already set, and doing it twice is doing it once (R382). -/
def Obligations.CollectorsSticky : Prop :=
    ∀ (s : State), (∀ g < 16, Covers (tabGet 0 s.latchCollectors.root.gal g) (tabGet 0 s.root.gal g)) ∧
      (∀ h < 4, Covers (tabGet 0 s.latchCollectors.root.hcol h) (tabGet 0 s.root.hcol h)) ∧
      Covers s.latchCollectors.root.loftCol s.root.loftCol ∧ Covers s.latchCollectors.root.hostCol s.root.hostCol ∧
      Covers s.latchCollectors.root.stat s.root.stat ∧ s.latchCollectors.latchCollectors = s.latchCollectors

/-- A mirror slice read after a write gives the bytes written; every other byte of every slice, and the form of the
memory, is kept (R25, R29). -/
def Obligations.MirrorReadAfterWrite : Prop :=
    ∀ (s : State) (p a : Nat) (bs : Bytes), memRead ((s.writeSlice p a bs).slice p) a bs.length = bs ∧
      (∀ x, x < a ∨ a + bs.length ≤ x → memGet ((s.writeSlice p a bs).slice p) x = memGet (s.slice p) x) ∧
      (∀ q x, q ≠ p → memGet ((s.writeSlice p a bs).slice q) x = memGet (s.slice q) x) ∧
      (s.MirrorWf → (s.writeSlice p a bs).MirrorWf)

/-- A sealed OTP row decodes to its data, with any one of its 39 bits wrong too, and any two wrong bits are detected
(R332). -/
def Obligations.SealedRowCode : Prop :=
    sealEncode 0 = 0 ∧ ∀ d < 2 ^ 32, sealDecode (sealEncode d) = some (d, false) ∧
      (∀ i < 39, sealDecode (Nat.xor (sealEncode d) (2 ^ i)) = some (d, true)) ∧
      (∀ i < 39, ∀ j < i, sealDecode (Nat.xor (Nat.xor (sealEncode d) (2 ^ i)) (2 ^ j)) = none)

/-- A sequenced frame on a port whose link is not up changes nothing; one that meets an injected CRC error is that
error (R51, R59, R83, R407). -/
def Obligations.UnheardFramesIgnored : Prop :=
    (∀ (s : State) (p : PortId) (cs op id : BitVec 16) (addr : Word) (oc mode res st : Byte) (n : Nat) (c : WrCmd) (b : Bytes)
      (e : TapEventCode) (ls : BitVec 6), s.linkUp p = false →
      exec (.rdReq p cs addr oc mode) s = .next s.finish ∧ exec (.rdStop p cs n) s = .next s.finish ∧
      exec (.wrCmd p c) s = .next s.finish ∧ exec (.wrData p cs b) s = .next s.finish ∧
      exec (.flDataIn p op b) s = .next s.finish ∧ exec (.flDone p op res st n) s = .next s.finish ∧
      exec (.attnDone p id) s = .next s.finish ∧ exec (.tapEvent p e cs) s = .next s.finish ∧
      exec (.positionReport p b) s = .next s.finish ∧ exec (.imageReport p b) s = .next s.finish ∧
      exec (.confirmation p b) s = .next s.finish ∧ exec (.ctrlAck p id ls) s = .next s.finish ∧
      exec (.lines p ls) s = .next s.finish) ∧
    (∀ (s : State) (p : PortId) (ls : BitVec 6), s.linkUp p = true → (s.port p).link.lateBy s.hnow = false → s.injection (pgLs (galOf p)) 0 (some p.val) ≠ 0 →
      exec (.lines p ls) s = .next ((s.disarm (pgLs (galOf p))).crcError p).finish)

/-- A register access by no live requester changes nothing; to a page in reset it is an access error RESET; a faulted
hall's pages are in reset but its collector (R481, R484, R487). -/
def Obligations.RegisterAccessRefused : Prop :=
    (∀ (s : State) (r : Requester) (page : BitVec 9), s.live r = false →
      exec (.cntClear r page) s = .next s.finish ∧ exec (.errLock r page) s = .next s.finish) ∧
    (∀ (s : State) (page : BitVec 9) (off : BitVec 12) (v : Word), s.live .warden = false →
      exec (.registerWrite page off v) s = .next s.finish) ∧
    (∀ (s : State) (r : Requester) (page : BitVec 9), s.live r = true → pageExists page.toNat = true → s.pageInReset page.toNat = true →
      exec (.cntClear r page) s = .next (s.accErr page.toNat 0x008 6 r).finish ∧
      exec (.errLock r page) s = .next (s.accErr page.toNat 0x030 6 r).finish) ∧
    (∀ (s : State) (h k : Nat), h < 4 → k < 8 → (s.hall h).phase = .faulted → s.pageInReset (0x40 + 8 * h + k) = decide (k ≠ 1))

/-- A host request without the right, with 64 others waiting or of a wrong length is answered 0xFF and its code,
counted, and does nothing else (R419, R426, R430). -/
def Obligations.HostRequestsRefused : Prop :=
    (∀ (s : State) (x : SessId) (b : Bytes), s.opens x → s.owner x = false →
      exec (.portRetire x b) s = .next ((((s.taken x 0x32).modSes x (fun u => { u with refused := satAdd 16 u.refused 1 })).respond x
        (s.nextReq x) [0xFF, 1]).raise (pgSes x) 2).finish) ∧
    (∀ (s : State) (x : SessId) (b : Bytes), s.opens x → b.length ≠ 8 →
      exec (.ping x b) s = .next (((s.taken x 0x06).modSes x (fun u => { u with refused := satAdd 16 u.refused 1 })).respond x
        (s.nextReq x) [0xFF, 3]).finish) ∧
    (∀ (s : State) (x : SessId) (b : Bytes), s.alive = true → (s.ses x).st = 2 → s.timely x →
      chainOk s.gran.slots keySlots (16 + 2 * x) = true → chainOk s.gran.slots keySlots (17 + 2 * x) = true → 64 ≤ (s.ses x).outst.length →
      exec (.ping x b) s = .next ((((s.taken x 0x06).modSes x (fun u => { u with refused := satAdd 16 u.refused 1 })).respond x
        (s.nextReq x) [0xFF, 2]).raise (pgSes x) 3).finish) ∧
    (∀ (s : State) (x : SessId) (b : Bytes), s.alive = true → (s.lapse x |>.ses x).st ≠ 2 →
      exec (.ping x b) s = .next ((((s.lapse x).serialIn x).closeSes x none none).raise (pgSes x) 1).finish)
end

