-- ==== Sys2Proof/Laws/Tab.lean ====
section
/-! SUPPORT. Tables: what a lookup finds after a write. -/

namespace Sys2Proof.Machine

@[simp] theorem tabGet_tabSet_same {α : Type} (d : α) (t : Tab α) (k : Nat) (v : α) : tabGet d (tabSet t k v) k = v := by
  induction t with
  | nil => simp [tabSet, tabGet]
  | cons e t ih =>
    obtain ⟨a, b⟩ := e
    unfold tabSet
    split
    · simp [tabGet]
    · split
      · simp [tabGet]
      · simp [tabGet, *]

theorem tabGet_tabSet_other {α : Type} (d : α) (t : Tab α) (k j : Nat) (v : α) (h : j ≠ k) :
    tabGet d (tabSet t k v) j = tabGet d t j := by
  induction t with
  | nil => simp [tabSet, tabGet, h]
  | cons e t ih =>
    obtain ⟨a, b⟩ := e
    unfold tabSet
    split
    · rename_i hk; subst hk; simp [tabGet, h]
    · split
      · simp [tabGet, h]
      · simp [tabGet, ih]

/-- A lookup in a table built from a range. -/
theorem tabGet_map_range {α : Type} (d : α) (f : Nat → α) (l : List Nat) (k : Nat) (h : k ∈ l) :
    tabGet d (l.map (fun i => (i, f i))) k = f k := by
  induction l with
  | nil => simp at h
  | cons a t ih =>
    simp only [List.map_cons, tabGet]
    split
    · rename_i e; rw [e]
    · rename_i e
      exact ih ((List.mem_cons.mp h).resolve_left e)

end Sys2Proof.Machine
end

