-- ==== Sys2Proof/Laws/Get.lean ====
section
/-! SUPPORT. Reading back what an update wrote: the same port, hall, page, session or engine takes the new value, every other keeps
its own, and the other tables are as they were. -/

namespace Sys2Proof.Machine

@[simp] theorem State.modPort_port_same (s : State) (k : Nat) (f : Port → Port) : (s.modPort k f).port k = f (s.port k) :=
  tabGet_tabSet_same _ _ _ _

theorem State.modPort_port_other (s : State) (k j : Nat) (f : Port → Port) (h : j ≠ k) : (s.modPort k f).port j = s.port j :=
  tabGet_tabSet_other _ _ _ _ _ h

@[simp] theorem State.modPort_hall (s : State) (k j : Nat) (f : Port → Port) : (s.modPort k f).hall j = s.hall j := rfl

@[simp] theorem State.modPort_tr (s : State) (k j : Nat) (f : Port → Port) : (s.modPort k f).tr j = s.tr j := rfl

@[simp] theorem State.modPort_enc (s : State) (k j : Nat) (f : Port → Port) : (s.modPort k f).enc j = s.enc j := rfl

@[simp] theorem State.modPort_hdr (s : State) (k j : Nat) (f : Port → Port) : (s.modPort k f).hdr j = s.hdr j := rfl

@[simp] theorem State.modPort_ses (s : State) (k j : Nat) (f : Port → Port) : (s.modPort k f).ses j = s.ses j := rfl

@[simp] theorem State.modPort_eng (s : State) (k j : Nat) (f : Port → Port) : (s.modPort k f).eng j = s.eng j := rfl

@[simp] theorem State.setPort_port_same (s : State) (k : Nat) (v : Port) : (s.setPort k v).port k = v := tabGet_tabSet_same _ _ _ _

@[simp] theorem State.modHall_hall_same (s : State) (k : Nat) (f : Hall → Hall) : (s.modHall k f).hall k = f (s.hall k) :=
  tabGet_tabSet_same _ _ _ _

theorem State.modHall_hall_other (s : State) (k j : Nat) (f : Hall → Hall) (h : j ≠ k) : (s.modHall k f).hall j = s.hall j :=
  tabGet_tabSet_other _ _ _ _ _ h

@[simp] theorem State.modHall_port (s : State) (k j : Nat) (f : Hall → Hall) : (s.modHall k f).port j = s.port j := rfl

@[simp] theorem State.modHall_tr (s : State) (k j : Nat) (f : Hall → Hall) : (s.modHall k f).tr j = s.tr j := rfl

@[simp] theorem State.modHall_enc (s : State) (k j : Nat) (f : Hall → Hall) : (s.modHall k f).enc j = s.enc j := rfl

@[simp] theorem State.modHall_hdr (s : State) (k j : Nat) (f : Hall → Hall) : (s.modHall k f).hdr j = s.hdr j := rfl

@[simp] theorem State.modHall_ses (s : State) (k j : Nat) (f : Hall → Hall) : (s.modHall k f).ses j = s.ses j := rfl

@[simp] theorem State.modHall_eng (s : State) (k j : Nat) (f : Hall → Hall) : (s.modHall k f).eng j = s.eng j := rfl

@[simp] theorem State.setHall_hall_same (s : State) (k : Nat) (v : Hall) : (s.setHall k v).hall k = v := tabGet_tabSet_same _ _ _ _

@[simp] theorem State.modTr_tr_same (s : State) (k : Nat) (f : Transport → Transport) : (s.modTr k f).tr k = f (s.tr k) :=
  tabGet_tabSet_same _ _ _ _

theorem State.modTr_tr_other (s : State) (k j : Nat) (f : Transport → Transport) (h : j ≠ k) : (s.modTr k f).tr j = s.tr j :=
  tabGet_tabSet_other _ _ _ _ _ h

@[simp] theorem State.modTr_port (s : State) (k j : Nat) (f : Transport → Transport) : (s.modTr k f).port j = s.port j := rfl

@[simp] theorem State.modTr_hall (s : State) (k j : Nat) (f : Transport → Transport) : (s.modTr k f).hall j = s.hall j := rfl

@[simp] theorem State.modTr_enc (s : State) (k j : Nat) (f : Transport → Transport) : (s.modTr k f).enc j = s.enc j := rfl

@[simp] theorem State.modTr_hdr (s : State) (k j : Nat) (f : Transport → Transport) : (s.modTr k f).hdr j = s.hdr j := rfl

@[simp] theorem State.modTr_ses (s : State) (k j : Nat) (f : Transport → Transport) : (s.modTr k f).ses j = s.ses j := rfl

@[simp] theorem State.modTr_eng (s : State) (k j : Nat) (f : Transport → Transport) : (s.modTr k f).eng j = s.eng j := rfl

@[simp] theorem State.modEnc_enc_same (s : State) (k : Nat) (f : Encoder → Encoder) : (s.modEnc k f).enc k = f (s.enc k) :=
  tabGet_tabSet_same _ _ _ _

theorem State.modEnc_enc_other (s : State) (k j : Nat) (f : Encoder → Encoder) (h : j ≠ k) : (s.modEnc k f).enc j = s.enc j :=
  tabGet_tabSet_other _ _ _ _ _ h

@[simp] theorem State.modEnc_port (s : State) (k j : Nat) (f : Encoder → Encoder) : (s.modEnc k f).port j = s.port j := rfl

@[simp] theorem State.modEnc_hall (s : State) (k j : Nat) (f : Encoder → Encoder) : (s.modEnc k f).hall j = s.hall j := rfl

@[simp] theorem State.modEnc_tr (s : State) (k j : Nat) (f : Encoder → Encoder) : (s.modEnc k f).tr j = s.tr j := rfl

@[simp] theorem State.modEnc_hdr (s : State) (k j : Nat) (f : Encoder → Encoder) : (s.modEnc k f).hdr j = s.hdr j := rfl

@[simp] theorem State.modEnc_ses (s : State) (k j : Nat) (f : Encoder → Encoder) : (s.modEnc k f).ses j = s.ses j := rfl

@[simp] theorem State.modEnc_eng (s : State) (k j : Nat) (f : Encoder → Encoder) : (s.modEnc k f).eng j = s.eng j := rfl

@[simp] theorem State.modHdr_hdr_same (s : State) (k : Nat) (f : Hdr → Hdr) : (s.modHdr k f).hdr k = f (s.hdr k) :=
  tabGet_tabSet_same _ _ _ _

theorem State.modHdr_hdr_other (s : State) (k j : Nat) (f : Hdr → Hdr) (h : j ≠ k) : (s.modHdr k f).hdr j = s.hdr j :=
  tabGet_tabSet_other _ _ _ _ _ h

@[simp] theorem State.modHdr_port (s : State) (k j : Nat) (f : Hdr → Hdr) : (s.modHdr k f).port j = s.port j := rfl

@[simp] theorem State.modHdr_hall (s : State) (k j : Nat) (f : Hdr → Hdr) : (s.modHdr k f).hall j = s.hall j := rfl

@[simp] theorem State.modHdr_tr (s : State) (k j : Nat) (f : Hdr → Hdr) : (s.modHdr k f).tr j = s.tr j := rfl

@[simp] theorem State.modHdr_enc (s : State) (k j : Nat) (f : Hdr → Hdr) : (s.modHdr k f).enc j = s.enc j := rfl

@[simp] theorem State.modHdr_ses (s : State) (k j : Nat) (f : Hdr → Hdr) : (s.modHdr k f).ses j = s.ses j := rfl

@[simp] theorem State.modHdr_eng (s : State) (k j : Nat) (f : Hdr → Hdr) : (s.modHdr k f).eng j = s.eng j := rfl

@[simp] theorem State.setHdr_hdr_same (s : State) (k : Nat) (v : Hdr) : (s.setHdr k v).hdr k = v := tabGet_tabSet_same _ _ _ _

@[simp] theorem State.modSes_ses_same (s : State) (k : Nat) (f : Ses → Ses) : (s.modSes k f).ses k = f (s.ses k) :=
  tabGet_tabSet_same _ _ _ _

theorem State.modSes_ses_other (s : State) (k j : Nat) (f : Ses → Ses) (h : j ≠ k) : (s.modSes k f).ses j = s.ses j :=
  tabGet_tabSet_other _ _ _ _ _ h

@[simp] theorem State.modSes_port (s : State) (k j : Nat) (f : Ses → Ses) : (s.modSes k f).port j = s.port j := rfl

@[simp] theorem State.modSes_hall (s : State) (k j : Nat) (f : Ses → Ses) : (s.modSes k f).hall j = s.hall j := rfl

@[simp] theorem State.modSes_tr (s : State) (k j : Nat) (f : Ses → Ses) : (s.modSes k f).tr j = s.tr j := rfl

@[simp] theorem State.modSes_enc (s : State) (k j : Nat) (f : Ses → Ses) : (s.modSes k f).enc j = s.enc j := rfl

@[simp] theorem State.modSes_hdr (s : State) (k j : Nat) (f : Ses → Ses) : (s.modSes k f).hdr j = s.hdr j := rfl

@[simp] theorem State.modSes_eng (s : State) (k j : Nat) (f : Ses → Ses) : (s.modSes k f).eng j = s.eng j := rfl

@[simp] theorem State.setSes_ses_same (s : State) (k : Nat) (v : Ses) : (s.setSes k v).ses k = v := tabGet_tabSet_same _ _ _ _

@[simp] theorem State.modEng_eng_same (s : State) (k : Nat) (f : Engine → Engine) : (s.modEng k f).eng k = f (s.eng k) :=
  tabGet_tabSet_same _ _ _ _

theorem State.modEng_eng_other (s : State) (k j : Nat) (f : Engine → Engine) (h : j ≠ k) : (s.modEng k f).eng j = s.eng j :=
  tabGet_tabSet_other _ _ _ _ _ h

@[simp] theorem State.modEng_port (s : State) (k j : Nat) (f : Engine → Engine) : (s.modEng k f).port j = s.port j := rfl

@[simp] theorem State.modEng_hall (s : State) (k j : Nat) (f : Engine → Engine) : (s.modEng k f).hall j = s.hall j := rfl

@[simp] theorem State.modEng_tr (s : State) (k j : Nat) (f : Engine → Engine) : (s.modEng k f).tr j = s.tr j := rfl

@[simp] theorem State.modEng_enc (s : State) (k j : Nat) (f : Engine → Engine) : (s.modEng k f).enc j = s.enc j := rfl

@[simp] theorem State.modEng_hdr (s : State) (k j : Nat) (f : Engine → Engine) : (s.modEng k f).hdr j = s.hdr j := rfl

@[simp] theorem State.modEng_ses (s : State) (k j : Nat) (f : Engine → Engine) : (s.modEng k f).ses j = s.ses j := rfl

@[simp] theorem State.modPort_injection (s : State) (k a b : Nat) (c : Option Nat) (f : Port → Port) :
    (s.modPort k f).injection a b c = s.injection a b c := rfl

@[simp] theorem State.modPort_hnow (s : State) (k : Nat) (f : Port → Port) : (s.modPort k f).hnow = s.hnow := rfl

@[simp] theorem State.modPort_lnow (s : State) (k : Nat) (f : Port → Port) : (s.modPort k f).lnow = s.lnow := rfl

@[simp] theorem State.modPort_alive (s : State) (k : Nat) (f : Port → Port) : (s.modPort k f).alive = s.alive := rfl

@[simp] theorem State.modPort_cyc (s : State) (k : Nat) (f : Port → Port) : (s.modPort k f).cyc = s.cyc := rfl

@[simp] theorem State.modHall_injection (s : State) (k a b : Nat) (c : Option Nat) (f : Hall → Hall) :
    (s.modHall k f).injection a b c = s.injection a b c := rfl

@[simp] theorem State.modHall_hnow (s : State) (k : Nat) (f : Hall → Hall) : (s.modHall k f).hnow = s.hnow := rfl

@[simp] theorem State.modHall_lnow (s : State) (k : Nat) (f : Hall → Hall) : (s.modHall k f).lnow = s.lnow := rfl

@[simp] theorem State.modHall_alive (s : State) (k : Nat) (f : Hall → Hall) : (s.modHall k f).alive = s.alive := rfl

@[simp] theorem State.modHall_cyc (s : State) (k : Nat) (f : Hall → Hall) : (s.modHall k f).cyc = s.cyc := rfl

@[simp] theorem State.modTr_injection (s : State) (k a b : Nat) (c : Option Nat) (f : Transport → Transport) :
    (s.modTr k f).injection a b c = s.injection a b c := rfl

@[simp] theorem State.modTr_hnow (s : State) (k : Nat) (f : Transport → Transport) : (s.modTr k f).hnow = s.hnow := rfl

@[simp] theorem State.modTr_lnow (s : State) (k : Nat) (f : Transport → Transport) : (s.modTr k f).lnow = s.lnow := rfl

@[simp] theorem State.modTr_alive (s : State) (k : Nat) (f : Transport → Transport) : (s.modTr k f).alive = s.alive := rfl

@[simp] theorem State.modTr_cyc (s : State) (k : Nat) (f : Transport → Transport) : (s.modTr k f).cyc = s.cyc := rfl

@[simp] theorem State.modEnc_injection (s : State) (k a b : Nat) (c : Option Nat) (f : Encoder → Encoder) :
    (s.modEnc k f).injection a b c = s.injection a b c := rfl

@[simp] theorem State.modEnc_hnow (s : State) (k : Nat) (f : Encoder → Encoder) : (s.modEnc k f).hnow = s.hnow := rfl

@[simp] theorem State.modEnc_lnow (s : State) (k : Nat) (f : Encoder → Encoder) : (s.modEnc k f).lnow = s.lnow := rfl

@[simp] theorem State.modEnc_alive (s : State) (k : Nat) (f : Encoder → Encoder) : (s.modEnc k f).alive = s.alive := rfl

@[simp] theorem State.modEnc_cyc (s : State) (k : Nat) (f : Encoder → Encoder) : (s.modEnc k f).cyc = s.cyc := rfl

@[simp] theorem State.modHdr_hnow (s : State) (k : Nat) (f : Hdr → Hdr) : (s.modHdr k f).hnow = s.hnow := rfl

@[simp] theorem State.modHdr_lnow (s : State) (k : Nat) (f : Hdr → Hdr) : (s.modHdr k f).lnow = s.lnow := rfl

@[simp] theorem State.modHdr_alive (s : State) (k : Nat) (f : Hdr → Hdr) : (s.modHdr k f).alive = s.alive := rfl

@[simp] theorem State.modHdr_cyc (s : State) (k : Nat) (f : Hdr → Hdr) : (s.modHdr k f).cyc = s.cyc := rfl

@[simp] theorem State.modSes_injection (s : State) (k a b : Nat) (c : Option Nat) (f : Ses → Ses) :
    (s.modSes k f).injection a b c = s.injection a b c := rfl

@[simp] theorem State.modSes_hnow (s : State) (k : Nat) (f : Ses → Ses) : (s.modSes k f).hnow = s.hnow := rfl

@[simp] theorem State.modSes_lnow (s : State) (k : Nat) (f : Ses → Ses) : (s.modSes k f).lnow = s.lnow := rfl

@[simp] theorem State.modSes_alive (s : State) (k : Nat) (f : Ses → Ses) : (s.modSes k f).alive = s.alive := rfl

@[simp] theorem State.modSes_cyc (s : State) (k : Nat) (f : Ses → Ses) : (s.modSes k f).cyc = s.cyc := rfl

@[simp] theorem State.modEng_injection (s : State) (k a b : Nat) (c : Option Nat) (f : Engine → Engine) :
    (s.modEng k f).injection a b c = s.injection a b c := rfl

@[simp] theorem State.modEng_hnow (s : State) (k : Nat) (f : Engine → Engine) : (s.modEng k f).hnow = s.hnow := rfl

@[simp] theorem State.modEng_lnow (s : State) (k : Nat) (f : Engine → Engine) : (s.modEng k f).lnow = s.lnow := rfl

@[simp] theorem State.modEng_alive (s : State) (k : Nat) (f : Engine → Engine) : (s.modEng k f).alive = s.alive := rfl

@[simp] theorem State.modEng_cyc (s : State) (k : Nat) (f : Engine → Engine) : (s.modEng k f).cyc = s.cyc := rfl

@[simp] theorem State.modLink_injection (s : State) (k a b : Nat) (c : Option Nat) (f : Link → Link) :
    (s.modLink k f).injection a b c = s.injection a b c := rfl

@[simp] theorem State.modLink_hnow (s : State) (k : Nat) (f : Link → Link) : (s.modLink k f).hnow = s.hnow := rfl

@[simp] theorem State.modLink_lnow (s : State) (k : Nat) (f : Link → Link) : (s.modLink k f).lnow = s.lnow := rfl

@[simp] theorem State.modLink_alive (s : State) (k : Nat) (f : Link → Link) : (s.modLink k f).alive = s.alive := rfl

@[simp] theorem State.modLink_cyc (s : State) (k : Nat) (f : Link → Link) : (s.modLink k f).cyc = s.cyc := rfl

@[simp] theorem State.modMir_injection (s : State) (k a b : Nat) (c : Option Nat) (f : MirPort → MirPort) :
    (s.modMir k f).injection a b c = s.injection a b c := rfl

@[simp] theorem State.modMir_hnow (s : State) (k : Nat) (f : MirPort → MirPort) : (s.modMir k f).hnow = s.hnow := rfl

@[simp] theorem State.modMir_lnow (s : State) (k : Nat) (f : MirPort → MirPort) : (s.modMir k f).lnow = s.lnow := rfl

@[simp] theorem State.modMir_alive (s : State) (k : Nat) (f : MirPort → MirPort) : (s.modMir k f).alive = s.alive := rfl

@[simp] theorem State.modMir_cyc (s : State) (k : Nat) (f : MirPort → MirPort) : (s.modMir k f).cyc = s.cyc := rfl

@[simp] theorem State.modRing_injection (s : State) (k a b : Nat) (c : Option Nat) (f : RingPort → RingPort) :
    (s.modRing k f).injection a b c = s.injection a b c := rfl

@[simp] theorem State.modRing_hnow (s : State) (k : Nat) (f : RingPort → RingPort) : (s.modRing k f).hnow = s.hnow := rfl

@[simp] theorem State.modRing_lnow (s : State) (k : Nat) (f : RingPort → RingPort) : (s.modRing k f).lnow = s.lnow := rfl

@[simp] theorem State.modRing_alive (s : State) (k : Nat) (f : RingPort → RingPort) : (s.modRing k f).alive = s.alive := rfl

@[simp] theorem State.modRing_cyc (s : State) (k : Nat) (f : RingPort → RingPort) : (s.modRing k f).cyc = s.cyc := rfl

@[simp] theorem State.modTree_injection (s : State) (k a b : Nat) (c : Option Nat) (f : TreePort → TreePort) :
    (s.modTree k f).injection a b c = s.injection a b c := rfl

@[simp] theorem State.modTree_hnow (s : State) (k : Nat) (f : TreePort → TreePort) : (s.modTree k f).hnow = s.hnow := rfl

@[simp] theorem State.modTree_lnow (s : State) (k : Nat) (f : TreePort → TreePort) : (s.modTree k f).lnow = s.lnow := rfl

@[simp] theorem State.modTree_alive (s : State) (k : Nat) (f : TreePort → TreePort) : (s.modTree k f).alive = s.alive := rfl

@[simp] theorem State.modTree_cyc (s : State) (k : Nat) (f : TreePort → TreePort) : (s.modTree k f).cyc = s.cyc := rfl

@[simp] theorem State.modGln_injection (s : State) (k a b : Nat) (c : Option Nat) (f : GlnPort → GlnPort) :
    (s.modGln k f).injection a b c = s.injection a b c := rfl

@[simp] theorem State.modGln_hnow (s : State) (k : Nat) (f : GlnPort → GlnPort) : (s.modGln k f).hnow = s.hnow := rfl

@[simp] theorem State.modGln_lnow (s : State) (k : Nat) (f : GlnPort → GlnPort) : (s.modGln k f).lnow = s.lnow := rfl

@[simp] theorem State.modGln_alive (s : State) (k : Nat) (f : GlnPort → GlnPort) : (s.modGln k f).alive = s.alive := rfl

@[simp] theorem State.modGln_cyc (s : State) (k : Nat) (f : GlnPort → GlnPort) : (s.modGln k f).cyc = s.cyc := rfl

@[simp] theorem State.modRls_injection (s : State) (k a b : Nat) (c : Option Nat) (f : RlsPort → RlsPort) :
    (s.modRls k f).injection a b c = s.injection a b c := rfl

@[simp] theorem State.modRls_hnow (s : State) (k : Nat) (f : RlsPort → RlsPort) : (s.modRls k f).hnow = s.hnow := rfl

@[simp] theorem State.modRls_lnow (s : State) (k : Nat) (f : RlsPort → RlsPort) : (s.modRls k f).lnow = s.lnow := rfl

@[simp] theorem State.modRls_alive (s : State) (k : Nat) (f : RlsPort → RlsPort) : (s.modRls k f).alive = s.alive := rfl

@[simp] theorem State.modRls_cyc (s : State) (k : Nat) (f : RlsPort → RlsPort) : (s.modRls k f).cyc = s.cyc := rfl

@[simp] theorem State.modUpd_injection (s : State) (k a b : Nat) (c : Option Nat) (f : UpdPort → UpdPort) :
    (s.modUpd k f).injection a b c = s.injection a b c := rfl

@[simp] theorem State.modUpd_hnow (s : State) (k : Nat) (f : UpdPort → UpdPort) : (s.modUpd k f).hnow = s.hnow := rfl

@[simp] theorem State.modUpd_lnow (s : State) (k : Nat) (f : UpdPort → UpdPort) : (s.modUpd k f).lnow = s.lnow := rfl

@[simp] theorem State.modUpd_alive (s : State) (k : Nat) (f : UpdPort → UpdPort) : (s.modUpd k f).alive = s.alive := rfl

@[simp] theorem State.modUpd_cyc (s : State) (k : Nat) (f : UpdPort → UpdPort) : (s.modUpd k f).cyc = s.cyc := rfl

@[simp] theorem State.modPwd_injection (s : State) (k a b : Nat) (c : Option Nat) (f : Pwd → Pwd) :
    (s.modPwd k f).injection a b c = s.injection a b c := rfl

@[simp] theorem State.modPwd_hnow (s : State) (k : Nat) (f : Pwd → Pwd) : (s.modPwd k f).hnow = s.hnow := rfl

@[simp] theorem State.modPwd_lnow (s : State) (k : Nat) (f : Pwd → Pwd) : (s.modPwd k f).lnow = s.lnow := rfl

@[simp] theorem State.modPwd_alive (s : State) (k : Nat) (f : Pwd → Pwd) : (s.modPwd k f).alive = s.alive := rfl

@[simp] theorem State.modPwd_cyc (s : State) (k : Nat) (f : Pwd → Pwd) : (s.modPwd k f).cyc = s.cyc := rfl

@[simp] theorem State.modKey_injection (s : State) (k a b : Nat) (c : Option Nat) (f : TapKeys → TapKeys) :
    (s.modKey k f).injection a b c = s.injection a b c := rfl

@[simp] theorem State.modKey_hnow (s : State) (k : Nat) (f : TapKeys → TapKeys) : (s.modKey k f).hnow = s.hnow := rfl

@[simp] theorem State.modKey_lnow (s : State) (k : Nat) (f : TapKeys → TapKeys) : (s.modKey k f).lnow = s.lnow := rfl

@[simp] theorem State.modKey_alive (s : State) (k : Nat) (f : TapKeys → TapKeys) : (s.modKey k f).alive = s.alive := rfl

@[simp] theorem State.modKey_cyc (s : State) (k : Nat) (f : TapKeys → TapKeys) : (s.modKey k f).cyc = s.cyc := rfl

@[simp] theorem State.modLink_port_same (s : State) (p : Nat) (f : Link → Link) :
    (s.modLink p f).port p = { s.port p with link := f (s.port p).link } := tabGet_tabSet_same _ _ _ _

theorem State.modLink_port_other (s : State) (p q : Nat) (f : Link → Link) (h : q ≠ p) : (s.modLink p f).port q = s.port q :=
  tabGet_tabSet_other _ _ _ _ _ h

@[simp] theorem State.modLink_hall (s : State) (p j : Nat) (f : Link → Link) : (s.modLink p f).hall j = s.hall j := rfl

@[simp] theorem State.modLink_tr (s : State) (p j : Nat) (f : Link → Link) : (s.modLink p f).tr j = s.tr j := rfl

@[simp] theorem State.modLink_enc (s : State) (p j : Nat) (f : Link → Link) : (s.modLink p f).enc j = s.enc j := rfl

@[simp] theorem State.modLink_hdr (s : State) (p j : Nat) (f : Link → Link) : (s.modLink p f).hdr j = s.hdr j := rfl

@[simp] theorem State.modLink_ses (s : State) (p j : Nat) (f : Link → Link) : (s.modLink p f).ses j = s.ses j := rfl

@[simp] theorem State.modLink_eng (s : State) (p j : Nat) (f : Link → Link) : (s.modLink p f).eng j = s.eng j := rfl

@[simp] theorem State.modMir_port_same (s : State) (p : Nat) (f : MirPort → MirPort) :
    (s.modMir p f).port p = { s.port p with mir := f (s.port p).mir } := tabGet_tabSet_same _ _ _ _

theorem State.modMir_port_other (s : State) (p q : Nat) (f : MirPort → MirPort) (h : q ≠ p) : (s.modMir p f).port q = s.port q :=
  tabGet_tabSet_other _ _ _ _ _ h

@[simp] theorem State.modMir_hall (s : State) (p j : Nat) (f : MirPort → MirPort) : (s.modMir p f).hall j = s.hall j := rfl

@[simp] theorem State.modMir_tr (s : State) (p j : Nat) (f : MirPort → MirPort) : (s.modMir p f).tr j = s.tr j := rfl

@[simp] theorem State.modMir_enc (s : State) (p j : Nat) (f : MirPort → MirPort) : (s.modMir p f).enc j = s.enc j := rfl

@[simp] theorem State.modMir_hdr (s : State) (p j : Nat) (f : MirPort → MirPort) : (s.modMir p f).hdr j = s.hdr j := rfl

@[simp] theorem State.modMir_ses (s : State) (p j : Nat) (f : MirPort → MirPort) : (s.modMir p f).ses j = s.ses j := rfl

@[simp] theorem State.modMir_eng (s : State) (p j : Nat) (f : MirPort → MirPort) : (s.modMir p f).eng j = s.eng j := rfl

@[simp] theorem State.modRing_port_same (s : State) (p : Nat) (f : RingPort → RingPort) :
    (s.modRing p f).port p = { s.port p with ring := f (s.port p).ring } := tabGet_tabSet_same _ _ _ _

theorem State.modRing_port_other (s : State) (p q : Nat) (f : RingPort → RingPort) (h : q ≠ p) : (s.modRing p f).port q = s.port q :=
  tabGet_tabSet_other _ _ _ _ _ h

@[simp] theorem State.modRing_hall (s : State) (p j : Nat) (f : RingPort → RingPort) : (s.modRing p f).hall j = s.hall j := rfl

@[simp] theorem State.modRing_tr (s : State) (p j : Nat) (f : RingPort → RingPort) : (s.modRing p f).tr j = s.tr j := rfl

@[simp] theorem State.modRing_enc (s : State) (p j : Nat) (f : RingPort → RingPort) : (s.modRing p f).enc j = s.enc j := rfl

@[simp] theorem State.modRing_hdr (s : State) (p j : Nat) (f : RingPort → RingPort) : (s.modRing p f).hdr j = s.hdr j := rfl

@[simp] theorem State.modRing_ses (s : State) (p j : Nat) (f : RingPort → RingPort) : (s.modRing p f).ses j = s.ses j := rfl

@[simp] theorem State.modRing_eng (s : State) (p j : Nat) (f : RingPort → RingPort) : (s.modRing p f).eng j = s.eng j := rfl

@[simp] theorem State.modTree_port_same (s : State) (p : Nat) (f : TreePort → TreePort) :
    (s.modTree p f).port p = { s.port p with tree := f (s.port p).tree } := tabGet_tabSet_same _ _ _ _

theorem State.modTree_port_other (s : State) (p q : Nat) (f : TreePort → TreePort) (h : q ≠ p) : (s.modTree p f).port q = s.port q :=
  tabGet_tabSet_other _ _ _ _ _ h

@[simp] theorem State.modTree_hall (s : State) (p j : Nat) (f : TreePort → TreePort) : (s.modTree p f).hall j = s.hall j := rfl

@[simp] theorem State.modTree_tr (s : State) (p j : Nat) (f : TreePort → TreePort) : (s.modTree p f).tr j = s.tr j := rfl

@[simp] theorem State.modTree_enc (s : State) (p j : Nat) (f : TreePort → TreePort) : (s.modTree p f).enc j = s.enc j := rfl

@[simp] theorem State.modTree_hdr (s : State) (p j : Nat) (f : TreePort → TreePort) : (s.modTree p f).hdr j = s.hdr j := rfl

@[simp] theorem State.modTree_ses (s : State) (p j : Nat) (f : TreePort → TreePort) : (s.modTree p f).ses j = s.ses j := rfl

@[simp] theorem State.modTree_eng (s : State) (p j : Nat) (f : TreePort → TreePort) : (s.modTree p f).eng j = s.eng j := rfl

@[simp] theorem State.modGln_port_same (s : State) (p : Nat) (f : GlnPort → GlnPort) :
    (s.modGln p f).port p = { s.port p with gln := f (s.port p).gln } := tabGet_tabSet_same _ _ _ _

theorem State.modGln_port_other (s : State) (p q : Nat) (f : GlnPort → GlnPort) (h : q ≠ p) : (s.modGln p f).port q = s.port q :=
  tabGet_tabSet_other _ _ _ _ _ h

@[simp] theorem State.modGln_hall (s : State) (p j : Nat) (f : GlnPort → GlnPort) : (s.modGln p f).hall j = s.hall j := rfl

@[simp] theorem State.modGln_tr (s : State) (p j : Nat) (f : GlnPort → GlnPort) : (s.modGln p f).tr j = s.tr j := rfl

@[simp] theorem State.modGln_enc (s : State) (p j : Nat) (f : GlnPort → GlnPort) : (s.modGln p f).enc j = s.enc j := rfl

@[simp] theorem State.modGln_hdr (s : State) (p j : Nat) (f : GlnPort → GlnPort) : (s.modGln p f).hdr j = s.hdr j := rfl

@[simp] theorem State.modGln_ses (s : State) (p j : Nat) (f : GlnPort → GlnPort) : (s.modGln p f).ses j = s.ses j := rfl

@[simp] theorem State.modGln_eng (s : State) (p j : Nat) (f : GlnPort → GlnPort) : (s.modGln p f).eng j = s.eng j := rfl

@[simp] theorem State.modRls_port_same (s : State) (p : Nat) (f : RlsPort → RlsPort) :
    (s.modRls p f).port p = { s.port p with rls := f (s.port p).rls } := tabGet_tabSet_same _ _ _ _

theorem State.modRls_port_other (s : State) (p q : Nat) (f : RlsPort → RlsPort) (h : q ≠ p) : (s.modRls p f).port q = s.port q :=
  tabGet_tabSet_other _ _ _ _ _ h

@[simp] theorem State.modRls_hall (s : State) (p j : Nat) (f : RlsPort → RlsPort) : (s.modRls p f).hall j = s.hall j := rfl

@[simp] theorem State.modRls_tr (s : State) (p j : Nat) (f : RlsPort → RlsPort) : (s.modRls p f).tr j = s.tr j := rfl

@[simp] theorem State.modRls_enc (s : State) (p j : Nat) (f : RlsPort → RlsPort) : (s.modRls p f).enc j = s.enc j := rfl

@[simp] theorem State.modRls_hdr (s : State) (p j : Nat) (f : RlsPort → RlsPort) : (s.modRls p f).hdr j = s.hdr j := rfl

@[simp] theorem State.modRls_ses (s : State) (p j : Nat) (f : RlsPort → RlsPort) : (s.modRls p f).ses j = s.ses j := rfl

@[simp] theorem State.modRls_eng (s : State) (p j : Nat) (f : RlsPort → RlsPort) : (s.modRls p f).eng j = s.eng j := rfl

@[simp] theorem State.modUpd_port_same (s : State) (p : Nat) (f : UpdPort → UpdPort) :
    (s.modUpd p f).port p = { s.port p with upd := f (s.port p).upd } := tabGet_tabSet_same _ _ _ _

theorem State.modUpd_port_other (s : State) (p q : Nat) (f : UpdPort → UpdPort) (h : q ≠ p) : (s.modUpd p f).port q = s.port q :=
  tabGet_tabSet_other _ _ _ _ _ h

@[simp] theorem State.modUpd_hall (s : State) (p j : Nat) (f : UpdPort → UpdPort) : (s.modUpd p f).hall j = s.hall j := rfl

@[simp] theorem State.modUpd_tr (s : State) (p j : Nat) (f : UpdPort → UpdPort) : (s.modUpd p f).tr j = s.tr j := rfl

@[simp] theorem State.modUpd_enc (s : State) (p j : Nat) (f : UpdPort → UpdPort) : (s.modUpd p f).enc j = s.enc j := rfl

@[simp] theorem State.modUpd_hdr (s : State) (p j : Nat) (f : UpdPort → UpdPort) : (s.modUpd p f).hdr j = s.hdr j := rfl

@[simp] theorem State.modUpd_ses (s : State) (p j : Nat) (f : UpdPort → UpdPort) : (s.modUpd p f).ses j = s.ses j := rfl

@[simp] theorem State.modUpd_eng (s : State) (p j : Nat) (f : UpdPort → UpdPort) : (s.modUpd p f).eng j = s.eng j := rfl

@[simp] theorem State.modPwd_port_same (s : State) (p : Nat) (f : Pwd → Pwd) :
    (s.modPwd p f).port p = { s.port p with pwd := f (s.port p).pwd } := tabGet_tabSet_same _ _ _ _

theorem State.modPwd_port_other (s : State) (p q : Nat) (f : Pwd → Pwd) (h : q ≠ p) : (s.modPwd p f).port q = s.port q :=
  tabGet_tabSet_other _ _ _ _ _ h

@[simp] theorem State.modPwd_hall (s : State) (p j : Nat) (f : Pwd → Pwd) : (s.modPwd p f).hall j = s.hall j := rfl

@[simp] theorem State.modPwd_tr (s : State) (p j : Nat) (f : Pwd → Pwd) : (s.modPwd p f).tr j = s.tr j := rfl

@[simp] theorem State.modPwd_enc (s : State) (p j : Nat) (f : Pwd → Pwd) : (s.modPwd p f).enc j = s.enc j := rfl

@[simp] theorem State.modPwd_hdr (s : State) (p j : Nat) (f : Pwd → Pwd) : (s.modPwd p f).hdr j = s.hdr j := rfl

@[simp] theorem State.modPwd_ses (s : State) (p j : Nat) (f : Pwd → Pwd) : (s.modPwd p f).ses j = s.ses j := rfl

@[simp] theorem State.modPwd_eng (s : State) (p j : Nat) (f : Pwd → Pwd) : (s.modPwd p f).eng j = s.eng j := rfl

@[simp] theorem State.modKey_port_same (s : State) (p : Nat) (f : TapKeys → TapKeys) :
    (s.modKey p f).port p = { s.port p with key := f (s.port p).key } := tabGet_tabSet_same _ _ _ _

theorem State.modKey_port_other (s : State) (p q : Nat) (f : TapKeys → TapKeys) (h : q ≠ p) : (s.modKey p f).port q = s.port q :=
  tabGet_tabSet_other _ _ _ _ _ h

@[simp] theorem State.modKey_hall (s : State) (p j : Nat) (f : TapKeys → TapKeys) : (s.modKey p f).hall j = s.hall j := rfl

@[simp] theorem State.modKey_tr (s : State) (p j : Nat) (f : TapKeys → TapKeys) : (s.modKey p f).tr j = s.tr j := rfl

@[simp] theorem State.modKey_enc (s : State) (p j : Nat) (f : TapKeys → TapKeys) : (s.modKey p f).enc j = s.enc j := rfl

@[simp] theorem State.modKey_hdr (s : State) (p j : Nat) (f : TapKeys → TapKeys) : (s.modKey p f).hdr j = s.hdr j := rfl

@[simp] theorem State.modKey_ses (s : State) (p j : Nat) (f : TapKeys → TapKeys) : (s.modKey p f).ses j = s.ses j := rfl

@[simp] theorem State.modKey_eng (s : State) (p j : Nat) (f : TapKeys → TapKeys) : (s.modKey p f).eng j = s.eng j := rfl

end Sys2Proof.Machine
end

