-- ==== Sys2Proof/Laws/Mem.lean ====
section
/-! SUPPORT. The mirror slices keep their canonical form, and a write changes the bytes written and no others. -/

namespace Sys2Proof.Machine

theorem memCells_bounds (a : Nat) (bs : Bytes) : ∀ c ∈ memCells a bs, a ≤ c.1 ∧ c.1 < a + bs.length ∧ c.2 ≠ memDefault := by
  induction bs generalizing a with
  | nil => simp [memCells]
  | cons b t ih =>
    intro c hc
    unfold memCells at hc
    split at hc
    · obtain ⟨h1, h2, h3⟩ := ih (a + 1) c hc
      exact ⟨by omega, by simp only [List.length_cons]; omega, h3⟩
    · rcases List.mem_cons.mp hc with rfl | h
      · simp_all
      · obtain ⟨h1, h2, h3⟩ := ih (a + 1) c h
        exact ⟨by omega, by simp only [List.length_cons]; omega, h3⟩

theorem memCells_sorted (a : Nat) (bs : Bytes) : (memCells a bs).Pairwise (fun x y => x.1 < y.1) := by
  induction bs generalizing a with
  | nil => simp [memCells]
  | cons b t ih =>
    unfold memCells
    split
    · exact ih _
    · refine List.pairwise_cons.mpr ⟨fun c hc => ?_, ih _⟩
      have := (memCells_bounds (a + 1) t c hc).1
      omega

/-- A write keeps the canonical form. -/
theorem memWrite_wf (m : List Host.Cell) (a : Nat) (bs : Bytes) (h : Memory.wf m) : Memory.wf (memWrite m a bs) := by
  obtain ⟨hs, hd⟩ := h
  refine ⟨?_, ?_⟩
  · unfold memWrite
    refine List.pairwise_append.mpr ⟨List.pairwise_append.mpr ⟨hs.filter _, memCells_sorted a bs, ?_⟩, hs.filter _, ?_⟩
    · intro x hx y hy
      have hx := (List.mem_filter.mp hx).2
      have := (memCells_bounds a bs y hy).1
      simp only [decide_eq_true_eq] at hx
      omega
    · intro x hx y hy
      have hy := (List.mem_filter.mp hy).2
      simp only [decide_eq_true_eq] at hy
      rcases List.mem_append.mp hx with hx | hx
      · have hx := (List.mem_filter.mp hx).2
        simp only [decide_eq_true_eq] at hx
        omega
      · have := (memCells_bounds a bs x hx).2.1
        omega
  · intro c hc
    unfold memWrite at hc
    rcases List.mem_append.mp hc with hc | hc
    · rcases List.mem_append.mp hc with hc | hc
      · exact hd c (List.mem_filter.mp hc).1
      · exact (memCells_bounds a bs c hc).2.2
    · exact hd c (List.mem_filter.mp hc).1

/-- The empty memory, which a slice is at reset, has the form. -/
theorem mem_nil_wf : Memory.wf [] := by decide

/-- Writing a slice of the mirror keeps every slice canonical. -/
theorem writeSlice_wf (s : State) (p a : Nat) (bs : Bytes) (h : ∀ q, Memory.wf (s.slice q)) :
    ∀ q, Memory.wf ((s.writeSlice p a bs).slice q) := by
  intro q
  have e : (s.writeSlice p a bs).slice q = tabGet [] (tabSet s.mirror p (memWrite (s.slice p) a bs)) q := by
    simp only [State.writeSlice, State.slice]; split <;> rfl
  rw [e]
  by_cases hq : q = p
  · subst hq; rw [tabGet_tabSet_same]; exact memWrite_wf _ _ _ (h _)
  · rw [tabGet_tabSet_other _ _ _ _ _ hq]; exact h q

/-- Writing one port's slice leaves every other port's slice as it was. -/
theorem writeSlice_other (s : State) (p q a : Nat) (bs : Bytes) (hq : q ≠ p) : (s.writeSlice p a bs).slice q = s.slice q := by
  have e : (s.writeSlice p a bs).slice q = tabGet [] (tabSet s.mirror p (memWrite (s.slice p) a bs)) q := by
    simp only [State.writeSlice, State.slice]; split <;> rfl
  rw [e, tabGet_tabSet_other _ _ _ _ _ hq]; rfl

end Sys2Proof.Machine
end

