-- ==== Sys2Proof/Laws/Shared.lean ====
section
/-! SUPPORT. What the shared operations do where they act: a frame that is heard, a write that reaches its register, a request that a
session takes, and the end of every command. -/

namespace Sys2Proof.Machine

/-- A port of which no window has passed has no expiry due. -/
theorem overdue_none (s : State) (p : Nat) (h : (s.port p).link.lateBy s.hnow = false) : s.overdue p = s := by
  simp [State.overdue, h]

/-- A frame that passes its check while no window of the port has passed acts at once, whether or not the link is trained. -/
theorem rx_clean (s : State) (p : Nat) (act : State → State) (h : s.clean p) : s.rx p act = act s := by
  simp [State.rx, overdue_none s p h.2, h.1]

theorem rx_heard (s : State) (p : Nat) (act : State → State) (h : s.hears p) : s.rx p act = act s := rx_clean s p act h.2

theorem rxSeq_heard (s : State) (p : Nat) (v : Vc) (n : Nat) (act : State → State) (h : s.hears p) :
    s.rxSeq p v n act = act (s.accept p v n) := by
  simp [State.rxSeq, h.1, rx_heard s p _ h]

theorem access17_reaches (s : State) (page off : Nat) (r : Requester) (act : State → State) (h : s.reaches page off r) :
    s.access17 page off r act = act s := by
  obtain ⟨h1, h2, h3, h4⟩ := h
  simp [State.access17, h1, h2, h3, h4]

theorem access17rw_reaches (s : State) (page off v : Nat) (r : Requester) (act : State → State) (h : s.reaches page off r)
    (hf : s.frozen page off v = false) : s.access17rw page off v r act = act s := by
  simp [State.access17rw, access17_reaches s page off r _ h, hf]

theorem access17b_reaches (s : State) (page off need : Nat) (r : Requester) (act : State → State) (h : s.reaches page off r)
    (hm : s.writeMask page off r &&& need ≠ 0) : s.access17b page off need r act = act s := by
  simp [State.access17b, access17_reaches s page off r _ h, hm]

/-- While the page is barred a write is refused with reason RESET and has no other effect (17 R484). -/
theorem access17_reset (s : State) (page off : Nat) (r : Requester) (act : State → State) (h1 : s.live r = true)
    (h2 : pageExists page = true) (h3 : s.barred page r = true) : s.access17 page off r act = s.accErr page off 6 r := by
  simp [State.access17, h1, h2, h3]

/-- An open session whose windows have not passed stays as it is. -/
theorem lapse_none (s : State) (x : Nat) (h : (s.ses x).st = 2) (ht : s.timely x) : s.lapse x = s := by
  obtain ⟨h1, h2⟩ := ht
  have hp : s.proofLapsed x = false := by
    unfold State.proofLapsed
    cases (s.ses x).proofWin <;> simp [h]
  simp [State.lapse, h1, h2, hp]

theorem serve_taken (s : State) (x type : Nat) (act : Nat → State → Option Bytes × State) (h : s.opens x) :
    s.serve x type true true act = (match (act (s.nextReq x) (s.taken x type)).1 with
      | some b => (act (s.nextReq x) (s.taken x type)).2.respond x (s.nextReq x) b
      | none => (act (s.nextReq x) (s.taken x type)).2) := by
  obtain ⟨h1, h2, h3, h4, h5, h6⟩ := h
  have hi : s.lapse x = s := lapse_none s x h2 h3
  have h6' : ¬ (s.ses x).outst.length ≥ 64 := by omega
  simp only [State.serve, h1, hi, h2, h4, h5, h6', State.taken, State.nextReq]
  rfl

theorem serveNow_taken (s : State) (x type : Nat) (act : State → Bytes × State) (h : s.opens x) :
    s.serveNow x type true true act =
      (act (s.taken x type)).2.respond x (s.nextReq x) (act (s.taken x type)).1 := by
  simp only [State.serveNow, serve_taken s x type _ h]

theorem serveRead_taken (s : State) (x type : Nat) (ans : State → Bytes) (h : s.opens x) :
    s.serveRead x type true true ans = (s.taken x type).respond x (s.nextReq x) (ans (s.taken x type)) := by
  simp only [State.serveRead, serveNow_taken s x type _ h]

theorem keyOp_taken (s : State) (x op : Nat) (b : Bytes) (act : Nat → State → Option Bytes × State) (h : s.opens x)
    (hr : ((s.ses x).eff == 1) = true) (hb : keyBody op b) : s.keyOp x op b act = (match (act (s.nextReq x) (s.taken x 0x23)).1 with
      | some y => (act (s.nextReq x) (s.taken x 0x23)).2.respond x (s.nextReq x) y
      | none => (act (s.nextReq x) (s.taken x 0x23)).2) := by
  obtain ⟨h1, h2, h3, h4⟩ := hb
  have e : (decide (10 ≤ b.length) && b.length == 10 + num b 8 2 && (decide (num b 2 2 < 1024) || decide (op ≤ 3))) = true := by
    simp only [Bool.and_eq_true, decide_eq_true_eq, beq_iff_eq, Bool.or_eq_true]; exact ⟨⟨h2, h3⟩, h4⟩
  simp only [State.keyOp, h1, hr, e, if_true]
  exact serve_taken s x 0x23 act h

/-- Every outcome of done is a next state, the state's finish. -/
theorem done_next (s : State) : s.done = .next s.finish := rfl

/-- A lookup in a collector table after its children's bits are set. -/
theorem tabGet_orTab (need : Nat → BitVec 32) (n : Nat) (t : Tab (BitVec 32)) (k : Nat) (h : k < n) :
    tabGet 0 (orTab need n t) k = tabGet 0 t k ||| need k := by
  simp only [orTab]
  generalize hl : List.range n = l
  have hk : k ∈ l := by rw [← hl]; exact List.mem_range.mpr h
  clear hl h
  induction l with
  | nil => simp at hk
  | cons a r ih =>
    simp only [List.map_cons, tabGet]
    split
    · rename_i e; subst e; rfl
    · rename_i e; exact ih ((List.mem_cons.mp hk).resolve_left e)

end Sys2Proof.Machine
end

