-- ==== Sys2Proof/Laws/State.lean ====
section
/-! SUPPORT. One lemma for each field of State and each update: what the update leaves in it. -/

namespace Sys2Proof.Machine

/-! ### setPort -/

@[simp] theorem State.setPort_time (s : State) (p : Nat) (v : Port) : (s.setPort p v).time = s.time := rfl
@[simp] theorem State.setPort_pending (s : State) (p : Nat) (v : Port) : (s.setPort p v).pending = s.pending := rfl
@[simp] theorem State.setPort_out (s : State) (p : Nat) (v : Port) : (s.setPort p v).out = s.out := rfl
@[simp] theorem State.setPort_freeCtr (s : State) (p : Nat) (v : Port) : (s.setPort p v).freeCtr = s.freeCtr := rfl
@[simp] theorem State.setPort_ports (s : State) (p : Nat) (v : Port) : (s.setPort p v).ports = tabSet s.ports p v := rfl
@[simp] theorem State.setPort_halls (s : State) (p : Nat) (v : Port) : (s.setPort p v).halls = s.halls := rfl
@[simp] theorem State.setPort_mirror (s : State) (p : Nat) (v : Port) : (s.setPort p v).mirror = s.mirror := rfl
@[simp] theorem State.setPort_trs (s : State) (p : Nat) (v : Port) : (s.setPort p v).trs = s.trs := rfl
@[simp] theorem State.setPort_encs (s : State) (p : Nat) (v : Port) : (s.setPort p v).encs = s.encs := rfl
@[simp] theorem State.setPort_hdrs (s : State) (p : Nat) (v : Port) : (s.setPort p v).hdrs = s.hdrs := rfl
@[simp] theorem State.setPort_portErr (s : State) (p : Nat) (v : Port) : (s.setPort p v).portErr = s.portErr := rfl
@[simp] theorem State.setPort_sel (s : State) (p : Nat) (v : Port) : (s.setPort p v).sel = s.sel := rfl
@[simp] theorem State.setPort_latch (s : State) (p : Nat) (v : Port) : (s.setPort p v).latch = s.latch := rfl
@[simp] theorem State.setPort_root (s : State) (p : Nat) (v : Port) : (s.setPort p v).root = s.root := rfl
@[simp] theorem State.setPort_modState (s : State) (p : Nat) (v : Port) : (s.setPort p v).modState = s.modState := rfl
@[simp] theorem State.setPort_prevState (s : State) (p : Nat) (v : Port) : (s.setPort p v).prevState = s.prevState := rfl
@[simp] theorem State.setPort_loftAt (s : State) (p : Nat) (v : Port) : (s.setPort p v).loftAt = s.loftAt := rfl
@[simp] theorem State.setPort_ledger (s : State) (p : Nat) (v : Port) : (s.setPort p v).ledger = s.ledger := rfl
@[simp] theorem State.setPort_ledgerNo (s : State) (p : Nat) (v : Port) : (s.setPort p v).ledgerNo = s.ledgerNo := rfl
@[simp] theorem State.setPort_ledgerFull (s : State) (p : Nat) (v : Port) : (s.setPort p v).ledgerFull = s.ledgerFull := rfl
@[simp] theorem State.setPort_barnQ (s : State) (p : Nat) (v : Port) : (s.setPort p v).barnQ = s.barnQ := rfl
@[simp] theorem State.setPort_sealUsed (s : State) (p : Nat) (v : Port) : (s.setPort p v).sealUsed = s.sealUsed := rfl
@[simp] theorem State.setPort_excLog (s : State) (p : Nat) (v : Port) : (s.setPort p v).excLog = s.excLog := rfl
@[simp] theorem State.setPort_ledgerKey (s : State) (p : Nat) (v : Port) : (s.setPort p v).ledgerKey = s.ledgerKey := rfl
@[simp] theorem State.setPort_copies (s : State) (p : Nat) (v : Port) : (s.setPort p v).copies = s.copies := rfl
@[simp] theorem State.setPort_images (s : State) (p : Nat) (v : Port) : (s.setPort p v).images = s.images := rfl
@[simp] theorem State.setPort_pkeQ (s : State) (p : Nat) (v : Port) : (s.setPort p v).pkeQ = s.pkeQ := rfl
@[simp] theorem State.setPort_sheafDocs (s : State) (p : Nat) (v : Port) : (s.setPort p v).sheafDocs = s.sheafDocs := rfl
@[simp] theorem State.setPort_sheafMs (s : State) (p : Nat) (v : Port) : (s.setPort p v).sheafMs = s.sheafMs := rfl
@[simp] theorem State.setPort_signCnt (s : State) (p : Nat) (v : Port) : (s.setPort p v).signCnt = s.signCnt := rfl
@[simp] theorem State.setPort_dropSheaf (s : State) (p : Nat) (v : Port) : (s.setPort p v).dropSheaf = s.dropSheaf := rfl
@[simp] theorem State.setPort_dropImage (s : State) (p : Nat) (v : Port) : (s.setPort p v).dropImage = s.dropImage := rfl
@[simp] theorem State.setPort_areaHigh (s : State) (p : Nat) (v : Port) : (s.setPort p v).areaHigh = s.areaHigh := rfl
@[simp] theorem State.setPort_lpRefused (s : State) (p : Nat) (v : Port) : (s.setPort p v).lpRefused = s.lpRefused := rfl
@[simp] theorem State.setPort_lpLate (s : State) (p : Nat) (v : Port) : (s.setPort p v).lpLate = s.lpLate := rfl
@[simp] theorem State.setPort_lpForced (s : State) (p : Nat) (v : Port) : (s.setPort p v).lpForced = s.lpForced := rfl
@[simp] theorem State.setPort_healCopies (s : State) (p : Nat) (v : Port) : (s.setPort p v).healCopies = s.healCopies := rfl
@[simp] theorem State.setPort_engines (s : State) (p : Nat) (v : Port) : (s.setPort p v).engines = s.engines := rfl
@[simp] theorem State.setPort_descs (s : State) (p : Nat) (v : Port) : (s.setPort p v).descs = s.descs := rfl
@[simp] theorem State.setPort_outBlocks (s : State) (p : Nat) (v : Port) : (s.setPort p v).outBlocks = s.outBlocks := rfl
@[simp] theorem State.setPort_gran (s : State) (p : Nat) (v : Port) : (s.setPort p v).gran = s.gran := rfl
@[simp] theorem State.setPort_kjournal (s : State) (p : Nat) (v : Port) : (s.setPort p v).kjournal = s.kjournal := rfl
@[simp] theorem State.setPort_kRecNo (s : State) (p : Nat) (v : Port) : (s.setPort p v).kRecNo = s.kRecNo := rfl
@[simp] theorem State.setPort_kstore (s : State) (p : Nat) (v : Port) : (s.setPort p v).kstore = s.kstore := rfl
@[simp] theorem State.setPort_kOpen (s : State) (p : Nat) (v : Port) : (s.setPort p v).kOpen = s.kOpen := rfl
@[simp] theorem State.setPort_enrols (s : State) (p : Nat) (v : Port) : (s.setPort p v).enrols = s.enrols := rfl
@[simp] theorem State.setPort_certs (s : State) (p : Nat) (v : Port) : (s.setPort p v).certs = s.certs := rfl
@[simp] theorem State.setPort_att (s : State) (p : Nat) (v : Port) : (s.setPort p v).att = s.att := rfl
@[simp] theorem State.setPort_puf (s : State) (p : Nat) (v : Port) : (s.setPort p v).puf = s.puf := rfl
@[simp] theorem State.setPort_otp (s : State) (p : Nat) (v : Port) : (s.setPort p v).otp = s.otp := rfl
@[simp] theorem State.setPort_stageEn (s : State) (p : Nat) (v : Port) : (s.setPort p v).stageEn = s.stageEn := rfl
@[simp] theorem State.setPort_diffCopy (s : State) (p : Nat) (v : Port) : (s.setPort p v).diffCopy = s.diffCopy := rfl
@[simp] theorem State.setPort_defConf (s : State) (p : Nat) (v : Port) : (s.setPort p v).defConf = s.defConf := rfl
@[simp] theorem State.setPort_brnReady (s : State) (p : Nat) (v : Port) : (s.setPort p v).brnReady = s.brnReady := rfl
@[simp] theorem State.setPort_maxPe (s : State) (p : Nat) (v : Port) : (s.setPort p v).maxPe = s.maxPe := rfl
@[simp] theorem State.setPort_badBlocks (s : State) (p : Nat) (v : Port) : (s.setPort p v).badBlocks = s.badBlocks := rfl
@[simp] theorem State.setPort_manSlots (s : State) (p : Nat) (v : Port) : (s.setPort p v).manSlots = s.manSlots := rfl
@[simp] theorem State.setPort_kept (s : State) (p : Nat) (v : Port) : (s.setPort p v).kept = s.kept := rfl
@[simp] theorem State.setPort_keptNo (s : State) (p : Nat) (v : Port) : (s.setPort p v).keptNo = s.keptNo := rfl
@[simp] theorem State.setPort_ulog (s : State) (p : Nat) (v : Port) : (s.setPort p v).ulog = s.ulog := rfl
@[simp] theorem State.setPort_uRecNo (s : State) (p : Nat) (v : Port) : (s.setPort p v).uRecNo = s.uRecNo := rfl
@[simp] theorem State.setPort_act (s : State) (p : Nat) (v : Port) : (s.setPort p v).act = s.act := rfl
@[simp] theorem State.setPort_wdnMan (s : State) (p : Nat) (v : Port) : (s.setPort p v).wdnMan = s.wdnMan := rfl
@[simp] theorem State.setPort_revCopies (s : State) (p : Nat) (v : Port) : (s.setPort p v).revCopies = s.revCopies := rfl
@[simp] theorem State.setPort_wslots (s : State) (p : Nat) (v : Port) : (s.setPort p v).wslots = s.wslots := rfl
@[simp] theorem State.setPort_depRecs (s : State) (p : Nat) (v : Port) : (s.setPort p v).depRecs = s.depRecs := rfl
@[simp] theorem State.setPort_depAsked (s : State) (p : Nat) (v : Port) : (s.setPort p v).depAsked = s.depAsked := rfl
@[simp] theorem State.setPort_depSent (s : State) (p : Nat) (v : Port) : (s.setPort p v).depSent = s.depSent := rfl
@[simp] theorem State.setPort_retained (s : State) (p : Nat) (v : Port) : (s.setPort p v).retained = s.retained := rfl
@[simp] theorem State.setPort_loft (s : State) (p : Nat) (v : Port) : (s.setPort p v).loft = s.loft := rfl
@[simp] theorem State.setPort_wwd (s : State) (p : Nat) (v : Port) : (s.setPort p v).wwd = s.wwd := rfl
@[simp] theorem State.setPort_lwd (s : State) (p : Nat) (v : Port) : (s.setPort p v).lwd = s.lwd := rfl
@[simp] theorem State.setPort_sessions (s : State) (p : Nat) (v : Port) : (s.setPort p v).sessions = s.sessions := rfl
@[simp] theorem State.setPort_xng (s : State) (p : Nat) (v : Port) : (s.setPort p v).xng = s.xng := rfl
@[simp] theorem State.setPort_svc (s : State) (p : Nat) (v : Port) : (s.setPort p v).svc = s.svc := rfl
@[simp] theorem State.setPort_pwr (s : State) (p : Nat) (v : Port) : (s.setPort p v).pwr = s.pwr := rfl
@[simp] theorem State.setPort_env (s : State) (p : Nat) (v : Port) : (s.setPort p v).env = s.env := rfl
@[simp] theorem State.setPort_shutter (s : State) (p : Nat) (v : Port) : (s.setPort p v).shutter = s.shutter := rfl
@[simp] theorem State.setPort_lpStage (s : State) (p : Nat) (v : Port) : (s.setPort p v).lpStage = s.lpStage := rfl
@[simp] theorem State.setPort_lpResult (s : State) (p : Nat) (v : Port) : (s.setPort p v).lpResult = s.lpResult := rfl

/-! ### modPort -/

@[simp] theorem State.modPort_time (s : State) (p : Nat) (f : Port → Port) : (s.modPort p f).time = s.time := rfl
@[simp] theorem State.modPort_pending (s : State) (p : Nat) (f : Port → Port) : (s.modPort p f).pending = s.pending := rfl
@[simp] theorem State.modPort_out (s : State) (p : Nat) (f : Port → Port) : (s.modPort p f).out = s.out := rfl
@[simp] theorem State.modPort_freeCtr (s : State) (p : Nat) (f : Port → Port) : (s.modPort p f).freeCtr = s.freeCtr := rfl
@[simp] theorem State.modPort_ports (s : State) (p : Nat) (f : Port → Port) : (s.modPort p f).ports = tabSet s.ports p (f (s.port p)) := rfl
@[simp] theorem State.modPort_halls (s : State) (p : Nat) (f : Port → Port) : (s.modPort p f).halls = s.halls := rfl
@[simp] theorem State.modPort_mirror (s : State) (p : Nat) (f : Port → Port) : (s.modPort p f).mirror = s.mirror := rfl
@[simp] theorem State.modPort_trs (s : State) (p : Nat) (f : Port → Port) : (s.modPort p f).trs = s.trs := rfl
@[simp] theorem State.modPort_encs (s : State) (p : Nat) (f : Port → Port) : (s.modPort p f).encs = s.encs := rfl
@[simp] theorem State.modPort_hdrs (s : State) (p : Nat) (f : Port → Port) : (s.modPort p f).hdrs = s.hdrs := rfl
@[simp] theorem State.modPort_portErr (s : State) (p : Nat) (f : Port → Port) : (s.modPort p f).portErr = s.portErr := rfl
@[simp] theorem State.modPort_sel (s : State) (p : Nat) (f : Port → Port) : (s.modPort p f).sel = s.sel := rfl
@[simp] theorem State.modPort_latch (s : State) (p : Nat) (f : Port → Port) : (s.modPort p f).latch = s.latch := rfl
@[simp] theorem State.modPort_root (s : State) (p : Nat) (f : Port → Port) : (s.modPort p f).root = s.root := rfl
@[simp] theorem State.modPort_modState (s : State) (p : Nat) (f : Port → Port) : (s.modPort p f).modState = s.modState := rfl
@[simp] theorem State.modPort_prevState (s : State) (p : Nat) (f : Port → Port) : (s.modPort p f).prevState = s.prevState := rfl
@[simp] theorem State.modPort_loftAt (s : State) (p : Nat) (f : Port → Port) : (s.modPort p f).loftAt = s.loftAt := rfl
@[simp] theorem State.modPort_ledger (s : State) (p : Nat) (f : Port → Port) : (s.modPort p f).ledger = s.ledger := rfl
@[simp] theorem State.modPort_ledgerNo (s : State) (p : Nat) (f : Port → Port) : (s.modPort p f).ledgerNo = s.ledgerNo := rfl
@[simp] theorem State.modPort_ledgerFull (s : State) (p : Nat) (f : Port → Port) : (s.modPort p f).ledgerFull = s.ledgerFull := rfl
@[simp] theorem State.modPort_barnQ (s : State) (p : Nat) (f : Port → Port) : (s.modPort p f).barnQ = s.barnQ := rfl
@[simp] theorem State.modPort_sealUsed (s : State) (p : Nat) (f : Port → Port) : (s.modPort p f).sealUsed = s.sealUsed := rfl
@[simp] theorem State.modPort_excLog (s : State) (p : Nat) (f : Port → Port) : (s.modPort p f).excLog = s.excLog := rfl
@[simp] theorem State.modPort_ledgerKey (s : State) (p : Nat) (f : Port → Port) : (s.modPort p f).ledgerKey = s.ledgerKey := rfl
@[simp] theorem State.modPort_copies (s : State) (p : Nat) (f : Port → Port) : (s.modPort p f).copies = s.copies := rfl
@[simp] theorem State.modPort_images (s : State) (p : Nat) (f : Port → Port) : (s.modPort p f).images = s.images := rfl
@[simp] theorem State.modPort_pkeQ (s : State) (p : Nat) (f : Port → Port) : (s.modPort p f).pkeQ = s.pkeQ := rfl
@[simp] theorem State.modPort_sheafDocs (s : State) (p : Nat) (f : Port → Port) : (s.modPort p f).sheafDocs = s.sheafDocs := rfl
@[simp] theorem State.modPort_sheafMs (s : State) (p : Nat) (f : Port → Port) : (s.modPort p f).sheafMs = s.sheafMs := rfl
@[simp] theorem State.modPort_signCnt (s : State) (p : Nat) (f : Port → Port) : (s.modPort p f).signCnt = s.signCnt := rfl
@[simp] theorem State.modPort_dropSheaf (s : State) (p : Nat) (f : Port → Port) : (s.modPort p f).dropSheaf = s.dropSheaf := rfl
@[simp] theorem State.modPort_dropImage (s : State) (p : Nat) (f : Port → Port) : (s.modPort p f).dropImage = s.dropImage := rfl
@[simp] theorem State.modPort_areaHigh (s : State) (p : Nat) (f : Port → Port) : (s.modPort p f).areaHigh = s.areaHigh := rfl
@[simp] theorem State.modPort_lpRefused (s : State) (p : Nat) (f : Port → Port) : (s.modPort p f).lpRefused = s.lpRefused := rfl
@[simp] theorem State.modPort_lpLate (s : State) (p : Nat) (f : Port → Port) : (s.modPort p f).lpLate = s.lpLate := rfl
@[simp] theorem State.modPort_lpForced (s : State) (p : Nat) (f : Port → Port) : (s.modPort p f).lpForced = s.lpForced := rfl
@[simp] theorem State.modPort_healCopies (s : State) (p : Nat) (f : Port → Port) : (s.modPort p f).healCopies = s.healCopies := rfl
@[simp] theorem State.modPort_engines (s : State) (p : Nat) (f : Port → Port) : (s.modPort p f).engines = s.engines := rfl
@[simp] theorem State.modPort_descs (s : State) (p : Nat) (f : Port → Port) : (s.modPort p f).descs = s.descs := rfl
@[simp] theorem State.modPort_outBlocks (s : State) (p : Nat) (f : Port → Port) : (s.modPort p f).outBlocks = s.outBlocks := rfl
@[simp] theorem State.modPort_gran (s : State) (p : Nat) (f : Port → Port) : (s.modPort p f).gran = s.gran := rfl
@[simp] theorem State.modPort_kjournal (s : State) (p : Nat) (f : Port → Port) : (s.modPort p f).kjournal = s.kjournal := rfl
@[simp] theorem State.modPort_kRecNo (s : State) (p : Nat) (f : Port → Port) : (s.modPort p f).kRecNo = s.kRecNo := rfl
@[simp] theorem State.modPort_kstore (s : State) (p : Nat) (f : Port → Port) : (s.modPort p f).kstore = s.kstore := rfl
@[simp] theorem State.modPort_kOpen (s : State) (p : Nat) (f : Port → Port) : (s.modPort p f).kOpen = s.kOpen := rfl
@[simp] theorem State.modPort_enrols (s : State) (p : Nat) (f : Port → Port) : (s.modPort p f).enrols = s.enrols := rfl
@[simp] theorem State.modPort_certs (s : State) (p : Nat) (f : Port → Port) : (s.modPort p f).certs = s.certs := rfl
@[simp] theorem State.modPort_att (s : State) (p : Nat) (f : Port → Port) : (s.modPort p f).att = s.att := rfl
@[simp] theorem State.modPort_puf (s : State) (p : Nat) (f : Port → Port) : (s.modPort p f).puf = s.puf := rfl
@[simp] theorem State.modPort_otp (s : State) (p : Nat) (f : Port → Port) : (s.modPort p f).otp = s.otp := rfl
@[simp] theorem State.modPort_stageEn (s : State) (p : Nat) (f : Port → Port) : (s.modPort p f).stageEn = s.stageEn := rfl
@[simp] theorem State.modPort_diffCopy (s : State) (p : Nat) (f : Port → Port) : (s.modPort p f).diffCopy = s.diffCopy := rfl
@[simp] theorem State.modPort_defConf (s : State) (p : Nat) (f : Port → Port) : (s.modPort p f).defConf = s.defConf := rfl
@[simp] theorem State.modPort_brnReady (s : State) (p : Nat) (f : Port → Port) : (s.modPort p f).brnReady = s.brnReady := rfl
@[simp] theorem State.modPort_maxPe (s : State) (p : Nat) (f : Port → Port) : (s.modPort p f).maxPe = s.maxPe := rfl
@[simp] theorem State.modPort_badBlocks (s : State) (p : Nat) (f : Port → Port) : (s.modPort p f).badBlocks = s.badBlocks := rfl
@[simp] theorem State.modPort_manSlots (s : State) (p : Nat) (f : Port → Port) : (s.modPort p f).manSlots = s.manSlots := rfl
@[simp] theorem State.modPort_kept (s : State) (p : Nat) (f : Port → Port) : (s.modPort p f).kept = s.kept := rfl
@[simp] theorem State.modPort_keptNo (s : State) (p : Nat) (f : Port → Port) : (s.modPort p f).keptNo = s.keptNo := rfl
@[simp] theorem State.modPort_ulog (s : State) (p : Nat) (f : Port → Port) : (s.modPort p f).ulog = s.ulog := rfl
@[simp] theorem State.modPort_uRecNo (s : State) (p : Nat) (f : Port → Port) : (s.modPort p f).uRecNo = s.uRecNo := rfl
@[simp] theorem State.modPort_act (s : State) (p : Nat) (f : Port → Port) : (s.modPort p f).act = s.act := rfl
@[simp] theorem State.modPort_wdnMan (s : State) (p : Nat) (f : Port → Port) : (s.modPort p f).wdnMan = s.wdnMan := rfl
@[simp] theorem State.modPort_revCopies (s : State) (p : Nat) (f : Port → Port) : (s.modPort p f).revCopies = s.revCopies := rfl
@[simp] theorem State.modPort_wslots (s : State) (p : Nat) (f : Port → Port) : (s.modPort p f).wslots = s.wslots := rfl
@[simp] theorem State.modPort_depRecs (s : State) (p : Nat) (f : Port → Port) : (s.modPort p f).depRecs = s.depRecs := rfl
@[simp] theorem State.modPort_depAsked (s : State) (p : Nat) (f : Port → Port) : (s.modPort p f).depAsked = s.depAsked := rfl
@[simp] theorem State.modPort_depSent (s : State) (p : Nat) (f : Port → Port) : (s.modPort p f).depSent = s.depSent := rfl
@[simp] theorem State.modPort_retained (s : State) (p : Nat) (f : Port → Port) : (s.modPort p f).retained = s.retained := rfl
@[simp] theorem State.modPort_loft (s : State) (p : Nat) (f : Port → Port) : (s.modPort p f).loft = s.loft := rfl
@[simp] theorem State.modPort_wwd (s : State) (p : Nat) (f : Port → Port) : (s.modPort p f).wwd = s.wwd := rfl
@[simp] theorem State.modPort_lwd (s : State) (p : Nat) (f : Port → Port) : (s.modPort p f).lwd = s.lwd := rfl
@[simp] theorem State.modPort_sessions (s : State) (p : Nat) (f : Port → Port) : (s.modPort p f).sessions = s.sessions := rfl
@[simp] theorem State.modPort_xng (s : State) (p : Nat) (f : Port → Port) : (s.modPort p f).xng = s.xng := rfl
@[simp] theorem State.modPort_svc (s : State) (p : Nat) (f : Port → Port) : (s.modPort p f).svc = s.svc := rfl
@[simp] theorem State.modPort_pwr (s : State) (p : Nat) (f : Port → Port) : (s.modPort p f).pwr = s.pwr := rfl
@[simp] theorem State.modPort_env (s : State) (p : Nat) (f : Port → Port) : (s.modPort p f).env = s.env := rfl
@[simp] theorem State.modPort_shutter (s : State) (p : Nat) (f : Port → Port) : (s.modPort p f).shutter = s.shutter := rfl
@[simp] theorem State.modPort_lpStage (s : State) (p : Nat) (f : Port → Port) : (s.modPort p f).lpStage = s.lpStage := rfl
@[simp] theorem State.modPort_lpResult (s : State) (p : Nat) (f : Port → Port) : (s.modPort p f).lpResult = s.lpResult := rfl

/-! ### setHall -/

@[simp] theorem State.setHall_time (s : State) (h : Nat) (v : Hall) : (s.setHall h v).time = s.time := rfl
@[simp] theorem State.setHall_pending (s : State) (h : Nat) (v : Hall) : (s.setHall h v).pending = s.pending := rfl
@[simp] theorem State.setHall_out (s : State) (h : Nat) (v : Hall) : (s.setHall h v).out = s.out := rfl
@[simp] theorem State.setHall_freeCtr (s : State) (h : Nat) (v : Hall) : (s.setHall h v).freeCtr = s.freeCtr := rfl
@[simp] theorem State.setHall_ports (s : State) (h : Nat) (v : Hall) : (s.setHall h v).ports = s.ports := rfl
@[simp] theorem State.setHall_halls (s : State) (h : Nat) (v : Hall) : (s.setHall h v).halls = tabSet s.halls h v := rfl
@[simp] theorem State.setHall_mirror (s : State) (h : Nat) (v : Hall) : (s.setHall h v).mirror = s.mirror := rfl
@[simp] theorem State.setHall_trs (s : State) (h : Nat) (v : Hall) : (s.setHall h v).trs = s.trs := rfl
@[simp] theorem State.setHall_encs (s : State) (h : Nat) (v : Hall) : (s.setHall h v).encs = s.encs := rfl
@[simp] theorem State.setHall_hdrs (s : State) (h : Nat) (v : Hall) : (s.setHall h v).hdrs = s.hdrs := rfl
@[simp] theorem State.setHall_portErr (s : State) (h : Nat) (v : Hall) : (s.setHall h v).portErr = s.portErr := rfl
@[simp] theorem State.setHall_sel (s : State) (h : Nat) (v : Hall) : (s.setHall h v).sel = s.sel := rfl
@[simp] theorem State.setHall_latch (s : State) (h : Nat) (v : Hall) : (s.setHall h v).latch = s.latch := rfl
@[simp] theorem State.setHall_root (s : State) (h : Nat) (v : Hall) : (s.setHall h v).root = s.root := rfl
@[simp] theorem State.setHall_modState (s : State) (h : Nat) (v : Hall) : (s.setHall h v).modState = s.modState := rfl
@[simp] theorem State.setHall_prevState (s : State) (h : Nat) (v : Hall) : (s.setHall h v).prevState = s.prevState := rfl
@[simp] theorem State.setHall_loftAt (s : State) (h : Nat) (v : Hall) : (s.setHall h v).loftAt = s.loftAt := rfl
@[simp] theorem State.setHall_ledger (s : State) (h : Nat) (v : Hall) : (s.setHall h v).ledger = s.ledger := rfl
@[simp] theorem State.setHall_ledgerNo (s : State) (h : Nat) (v : Hall) : (s.setHall h v).ledgerNo = s.ledgerNo := rfl
@[simp] theorem State.setHall_ledgerFull (s : State) (h : Nat) (v : Hall) : (s.setHall h v).ledgerFull = s.ledgerFull := rfl
@[simp] theorem State.setHall_barnQ (s : State) (h : Nat) (v : Hall) : (s.setHall h v).barnQ = s.barnQ := rfl
@[simp] theorem State.setHall_sealUsed (s : State) (h : Nat) (v : Hall) : (s.setHall h v).sealUsed = s.sealUsed := rfl
@[simp] theorem State.setHall_excLog (s : State) (h : Nat) (v : Hall) : (s.setHall h v).excLog = s.excLog := rfl
@[simp] theorem State.setHall_ledgerKey (s : State) (h : Nat) (v : Hall) : (s.setHall h v).ledgerKey = s.ledgerKey := rfl
@[simp] theorem State.setHall_copies (s : State) (h : Nat) (v : Hall) : (s.setHall h v).copies = s.copies := rfl
@[simp] theorem State.setHall_images (s : State) (h : Nat) (v : Hall) : (s.setHall h v).images = s.images := rfl
@[simp] theorem State.setHall_pkeQ (s : State) (h : Nat) (v : Hall) : (s.setHall h v).pkeQ = s.pkeQ := rfl
@[simp] theorem State.setHall_sheafDocs (s : State) (h : Nat) (v : Hall) : (s.setHall h v).sheafDocs = s.sheafDocs := rfl
@[simp] theorem State.setHall_sheafMs (s : State) (h : Nat) (v : Hall) : (s.setHall h v).sheafMs = s.sheafMs := rfl
@[simp] theorem State.setHall_signCnt (s : State) (h : Nat) (v : Hall) : (s.setHall h v).signCnt = s.signCnt := rfl
@[simp] theorem State.setHall_dropSheaf (s : State) (h : Nat) (v : Hall) : (s.setHall h v).dropSheaf = s.dropSheaf := rfl
@[simp] theorem State.setHall_dropImage (s : State) (h : Nat) (v : Hall) : (s.setHall h v).dropImage = s.dropImage := rfl
@[simp] theorem State.setHall_areaHigh (s : State) (h : Nat) (v : Hall) : (s.setHall h v).areaHigh = s.areaHigh := rfl
@[simp] theorem State.setHall_lpRefused (s : State) (h : Nat) (v : Hall) : (s.setHall h v).lpRefused = s.lpRefused := rfl
@[simp] theorem State.setHall_lpLate (s : State) (h : Nat) (v : Hall) : (s.setHall h v).lpLate = s.lpLate := rfl
@[simp] theorem State.setHall_lpForced (s : State) (h : Nat) (v : Hall) : (s.setHall h v).lpForced = s.lpForced := rfl
@[simp] theorem State.setHall_healCopies (s : State) (h : Nat) (v : Hall) : (s.setHall h v).healCopies = s.healCopies := rfl
@[simp] theorem State.setHall_engines (s : State) (h : Nat) (v : Hall) : (s.setHall h v).engines = s.engines := rfl
@[simp] theorem State.setHall_descs (s : State) (h : Nat) (v : Hall) : (s.setHall h v).descs = s.descs := rfl
@[simp] theorem State.setHall_outBlocks (s : State) (h : Nat) (v : Hall) : (s.setHall h v).outBlocks = s.outBlocks := rfl
@[simp] theorem State.setHall_gran (s : State) (h : Nat) (v : Hall) : (s.setHall h v).gran = s.gran := rfl
@[simp] theorem State.setHall_kjournal (s : State) (h : Nat) (v : Hall) : (s.setHall h v).kjournal = s.kjournal := rfl
@[simp] theorem State.setHall_kRecNo (s : State) (h : Nat) (v : Hall) : (s.setHall h v).kRecNo = s.kRecNo := rfl
@[simp] theorem State.setHall_kstore (s : State) (h : Nat) (v : Hall) : (s.setHall h v).kstore = s.kstore := rfl
@[simp] theorem State.setHall_kOpen (s : State) (h : Nat) (v : Hall) : (s.setHall h v).kOpen = s.kOpen := rfl
@[simp] theorem State.setHall_enrols (s : State) (h : Nat) (v : Hall) : (s.setHall h v).enrols = s.enrols := rfl
@[simp] theorem State.setHall_certs (s : State) (h : Nat) (v : Hall) : (s.setHall h v).certs = s.certs := rfl
@[simp] theorem State.setHall_att (s : State) (h : Nat) (v : Hall) : (s.setHall h v).att = s.att := rfl
@[simp] theorem State.setHall_puf (s : State) (h : Nat) (v : Hall) : (s.setHall h v).puf = s.puf := rfl
@[simp] theorem State.setHall_otp (s : State) (h : Nat) (v : Hall) : (s.setHall h v).otp = s.otp := rfl
@[simp] theorem State.setHall_stageEn (s : State) (h : Nat) (v : Hall) : (s.setHall h v).stageEn = s.stageEn := rfl
@[simp] theorem State.setHall_diffCopy (s : State) (h : Nat) (v : Hall) : (s.setHall h v).diffCopy = s.diffCopy := rfl
@[simp] theorem State.setHall_defConf (s : State) (h : Nat) (v : Hall) : (s.setHall h v).defConf = s.defConf := rfl
@[simp] theorem State.setHall_brnReady (s : State) (h : Nat) (v : Hall) : (s.setHall h v).brnReady = s.brnReady := rfl
@[simp] theorem State.setHall_maxPe (s : State) (h : Nat) (v : Hall) : (s.setHall h v).maxPe = s.maxPe := rfl
@[simp] theorem State.setHall_badBlocks (s : State) (h : Nat) (v : Hall) : (s.setHall h v).badBlocks = s.badBlocks := rfl
@[simp] theorem State.setHall_manSlots (s : State) (h : Nat) (v : Hall) : (s.setHall h v).manSlots = s.manSlots := rfl
@[simp] theorem State.setHall_kept (s : State) (h : Nat) (v : Hall) : (s.setHall h v).kept = s.kept := rfl
@[simp] theorem State.setHall_keptNo (s : State) (h : Nat) (v : Hall) : (s.setHall h v).keptNo = s.keptNo := rfl
@[simp] theorem State.setHall_ulog (s : State) (h : Nat) (v : Hall) : (s.setHall h v).ulog = s.ulog := rfl
@[simp] theorem State.setHall_uRecNo (s : State) (h : Nat) (v : Hall) : (s.setHall h v).uRecNo = s.uRecNo := rfl
@[simp] theorem State.setHall_act (s : State) (h : Nat) (v : Hall) : (s.setHall h v).act = s.act := rfl
@[simp] theorem State.setHall_wdnMan (s : State) (h : Nat) (v : Hall) : (s.setHall h v).wdnMan = s.wdnMan := rfl
@[simp] theorem State.setHall_revCopies (s : State) (h : Nat) (v : Hall) : (s.setHall h v).revCopies = s.revCopies := rfl
@[simp] theorem State.setHall_wslots (s : State) (h : Nat) (v : Hall) : (s.setHall h v).wslots = s.wslots := rfl
@[simp] theorem State.setHall_depRecs (s : State) (h : Nat) (v : Hall) : (s.setHall h v).depRecs = s.depRecs := rfl
@[simp] theorem State.setHall_depAsked (s : State) (h : Nat) (v : Hall) : (s.setHall h v).depAsked = s.depAsked := rfl
@[simp] theorem State.setHall_depSent (s : State) (h : Nat) (v : Hall) : (s.setHall h v).depSent = s.depSent := rfl
@[simp] theorem State.setHall_retained (s : State) (h : Nat) (v : Hall) : (s.setHall h v).retained = s.retained := rfl
@[simp] theorem State.setHall_loft (s : State) (h : Nat) (v : Hall) : (s.setHall h v).loft = s.loft := rfl
@[simp] theorem State.setHall_wwd (s : State) (h : Nat) (v : Hall) : (s.setHall h v).wwd = s.wwd := rfl
@[simp] theorem State.setHall_lwd (s : State) (h : Nat) (v : Hall) : (s.setHall h v).lwd = s.lwd := rfl
@[simp] theorem State.setHall_sessions (s : State) (h : Nat) (v : Hall) : (s.setHall h v).sessions = s.sessions := rfl
@[simp] theorem State.setHall_xng (s : State) (h : Nat) (v : Hall) : (s.setHall h v).xng = s.xng := rfl
@[simp] theorem State.setHall_svc (s : State) (h : Nat) (v : Hall) : (s.setHall h v).svc = s.svc := rfl
@[simp] theorem State.setHall_pwr (s : State) (h : Nat) (v : Hall) : (s.setHall h v).pwr = s.pwr := rfl
@[simp] theorem State.setHall_env (s : State) (h : Nat) (v : Hall) : (s.setHall h v).env = s.env := rfl
@[simp] theorem State.setHall_shutter (s : State) (h : Nat) (v : Hall) : (s.setHall h v).shutter = s.shutter := rfl
@[simp] theorem State.setHall_lpStage (s : State) (h : Nat) (v : Hall) : (s.setHall h v).lpStage = s.lpStage := rfl
@[simp] theorem State.setHall_lpResult (s : State) (h : Nat) (v : Hall) : (s.setHall h v).lpResult = s.lpResult := rfl

/-! ### modHall -/

@[simp] theorem State.modHall_time (s : State) (h : Nat) (f : Hall → Hall) : (s.modHall h f).time = s.time := rfl
@[simp] theorem State.modHall_pending (s : State) (h : Nat) (f : Hall → Hall) : (s.modHall h f).pending = s.pending := rfl
@[simp] theorem State.modHall_out (s : State) (h : Nat) (f : Hall → Hall) : (s.modHall h f).out = s.out := rfl
@[simp] theorem State.modHall_freeCtr (s : State) (h : Nat) (f : Hall → Hall) : (s.modHall h f).freeCtr = s.freeCtr := rfl
@[simp] theorem State.modHall_ports (s : State) (h : Nat) (f : Hall → Hall) : (s.modHall h f).ports = s.ports := rfl
@[simp] theorem State.modHall_halls (s : State) (h : Nat) (f : Hall → Hall) : (s.modHall h f).halls = tabSet s.halls h (f (s.hall h)) := rfl
@[simp] theorem State.modHall_mirror (s : State) (h : Nat) (f : Hall → Hall) : (s.modHall h f).mirror = s.mirror := rfl
@[simp] theorem State.modHall_trs (s : State) (h : Nat) (f : Hall → Hall) : (s.modHall h f).trs = s.trs := rfl
@[simp] theorem State.modHall_encs (s : State) (h : Nat) (f : Hall → Hall) : (s.modHall h f).encs = s.encs := rfl
@[simp] theorem State.modHall_hdrs (s : State) (h : Nat) (f : Hall → Hall) : (s.modHall h f).hdrs = s.hdrs := rfl
@[simp] theorem State.modHall_portErr (s : State) (h : Nat) (f : Hall → Hall) : (s.modHall h f).portErr = s.portErr := rfl
@[simp] theorem State.modHall_sel (s : State) (h : Nat) (f : Hall → Hall) : (s.modHall h f).sel = s.sel := rfl
@[simp] theorem State.modHall_latch (s : State) (h : Nat) (f : Hall → Hall) : (s.modHall h f).latch = s.latch := rfl
@[simp] theorem State.modHall_root (s : State) (h : Nat) (f : Hall → Hall) : (s.modHall h f).root = s.root := rfl
@[simp] theorem State.modHall_modState (s : State) (h : Nat) (f : Hall → Hall) : (s.modHall h f).modState = s.modState := rfl
@[simp] theorem State.modHall_prevState (s : State) (h : Nat) (f : Hall → Hall) : (s.modHall h f).prevState = s.prevState := rfl
@[simp] theorem State.modHall_loftAt (s : State) (h : Nat) (f : Hall → Hall) : (s.modHall h f).loftAt = s.loftAt := rfl
@[simp] theorem State.modHall_ledger (s : State) (h : Nat) (f : Hall → Hall) : (s.modHall h f).ledger = s.ledger := rfl
@[simp] theorem State.modHall_ledgerNo (s : State) (h : Nat) (f : Hall → Hall) : (s.modHall h f).ledgerNo = s.ledgerNo := rfl
@[simp] theorem State.modHall_ledgerFull (s : State) (h : Nat) (f : Hall → Hall) : (s.modHall h f).ledgerFull = s.ledgerFull := rfl
@[simp] theorem State.modHall_barnQ (s : State) (h : Nat) (f : Hall → Hall) : (s.modHall h f).barnQ = s.barnQ := rfl
@[simp] theorem State.modHall_sealUsed (s : State) (h : Nat) (f : Hall → Hall) : (s.modHall h f).sealUsed = s.sealUsed := rfl
@[simp] theorem State.modHall_excLog (s : State) (h : Nat) (f : Hall → Hall) : (s.modHall h f).excLog = s.excLog := rfl
@[simp] theorem State.modHall_ledgerKey (s : State) (h : Nat) (f : Hall → Hall) : (s.modHall h f).ledgerKey = s.ledgerKey := rfl
@[simp] theorem State.modHall_copies (s : State) (h : Nat) (f : Hall → Hall) : (s.modHall h f).copies = s.copies := rfl
@[simp] theorem State.modHall_images (s : State) (h : Nat) (f : Hall → Hall) : (s.modHall h f).images = s.images := rfl
@[simp] theorem State.modHall_pkeQ (s : State) (h : Nat) (f : Hall → Hall) : (s.modHall h f).pkeQ = s.pkeQ := rfl
@[simp] theorem State.modHall_sheafDocs (s : State) (h : Nat) (f : Hall → Hall) : (s.modHall h f).sheafDocs = s.sheafDocs := rfl
@[simp] theorem State.modHall_sheafMs (s : State) (h : Nat) (f : Hall → Hall) : (s.modHall h f).sheafMs = s.sheafMs := rfl
@[simp] theorem State.modHall_signCnt (s : State) (h : Nat) (f : Hall → Hall) : (s.modHall h f).signCnt = s.signCnt := rfl
@[simp] theorem State.modHall_dropSheaf (s : State) (h : Nat) (f : Hall → Hall) : (s.modHall h f).dropSheaf = s.dropSheaf := rfl
@[simp] theorem State.modHall_dropImage (s : State) (h : Nat) (f : Hall → Hall) : (s.modHall h f).dropImage = s.dropImage := rfl
@[simp] theorem State.modHall_areaHigh (s : State) (h : Nat) (f : Hall → Hall) : (s.modHall h f).areaHigh = s.areaHigh := rfl
@[simp] theorem State.modHall_lpRefused (s : State) (h : Nat) (f : Hall → Hall) : (s.modHall h f).lpRefused = s.lpRefused := rfl
@[simp] theorem State.modHall_lpLate (s : State) (h : Nat) (f : Hall → Hall) : (s.modHall h f).lpLate = s.lpLate := rfl
@[simp] theorem State.modHall_lpForced (s : State) (h : Nat) (f : Hall → Hall) : (s.modHall h f).lpForced = s.lpForced := rfl
@[simp] theorem State.modHall_healCopies (s : State) (h : Nat) (f : Hall → Hall) : (s.modHall h f).healCopies = s.healCopies := rfl
@[simp] theorem State.modHall_engines (s : State) (h : Nat) (f : Hall → Hall) : (s.modHall h f).engines = s.engines := rfl
@[simp] theorem State.modHall_descs (s : State) (h : Nat) (f : Hall → Hall) : (s.modHall h f).descs = s.descs := rfl
@[simp] theorem State.modHall_outBlocks (s : State) (h : Nat) (f : Hall → Hall) : (s.modHall h f).outBlocks = s.outBlocks := rfl
@[simp] theorem State.modHall_gran (s : State) (h : Nat) (f : Hall → Hall) : (s.modHall h f).gran = s.gran := rfl
@[simp] theorem State.modHall_kjournal (s : State) (h : Nat) (f : Hall → Hall) : (s.modHall h f).kjournal = s.kjournal := rfl
@[simp] theorem State.modHall_kRecNo (s : State) (h : Nat) (f : Hall → Hall) : (s.modHall h f).kRecNo = s.kRecNo := rfl
@[simp] theorem State.modHall_kstore (s : State) (h : Nat) (f : Hall → Hall) : (s.modHall h f).kstore = s.kstore := rfl
@[simp] theorem State.modHall_kOpen (s : State) (h : Nat) (f : Hall → Hall) : (s.modHall h f).kOpen = s.kOpen := rfl
@[simp] theorem State.modHall_enrols (s : State) (h : Nat) (f : Hall → Hall) : (s.modHall h f).enrols = s.enrols := rfl
@[simp] theorem State.modHall_certs (s : State) (h : Nat) (f : Hall → Hall) : (s.modHall h f).certs = s.certs := rfl
@[simp] theorem State.modHall_att (s : State) (h : Nat) (f : Hall → Hall) : (s.modHall h f).att = s.att := rfl
@[simp] theorem State.modHall_puf (s : State) (h : Nat) (f : Hall → Hall) : (s.modHall h f).puf = s.puf := rfl
@[simp] theorem State.modHall_otp (s : State) (h : Nat) (f : Hall → Hall) : (s.modHall h f).otp = s.otp := rfl
@[simp] theorem State.modHall_stageEn (s : State) (h : Nat) (f : Hall → Hall) : (s.modHall h f).stageEn = s.stageEn := rfl
@[simp] theorem State.modHall_diffCopy (s : State) (h : Nat) (f : Hall → Hall) : (s.modHall h f).diffCopy = s.diffCopy := rfl
@[simp] theorem State.modHall_defConf (s : State) (h : Nat) (f : Hall → Hall) : (s.modHall h f).defConf = s.defConf := rfl
@[simp] theorem State.modHall_brnReady (s : State) (h : Nat) (f : Hall → Hall) : (s.modHall h f).brnReady = s.brnReady := rfl
@[simp] theorem State.modHall_maxPe (s : State) (h : Nat) (f : Hall → Hall) : (s.modHall h f).maxPe = s.maxPe := rfl
@[simp] theorem State.modHall_badBlocks (s : State) (h : Nat) (f : Hall → Hall) : (s.modHall h f).badBlocks = s.badBlocks := rfl
@[simp] theorem State.modHall_manSlots (s : State) (h : Nat) (f : Hall → Hall) : (s.modHall h f).manSlots = s.manSlots := rfl
@[simp] theorem State.modHall_kept (s : State) (h : Nat) (f : Hall → Hall) : (s.modHall h f).kept = s.kept := rfl
@[simp] theorem State.modHall_keptNo (s : State) (h : Nat) (f : Hall → Hall) : (s.modHall h f).keptNo = s.keptNo := rfl
@[simp] theorem State.modHall_ulog (s : State) (h : Nat) (f : Hall → Hall) : (s.modHall h f).ulog = s.ulog := rfl
@[simp] theorem State.modHall_uRecNo (s : State) (h : Nat) (f : Hall → Hall) : (s.modHall h f).uRecNo = s.uRecNo := rfl
@[simp] theorem State.modHall_act (s : State) (h : Nat) (f : Hall → Hall) : (s.modHall h f).act = s.act := rfl
@[simp] theorem State.modHall_wdnMan (s : State) (h : Nat) (f : Hall → Hall) : (s.modHall h f).wdnMan = s.wdnMan := rfl
@[simp] theorem State.modHall_revCopies (s : State) (h : Nat) (f : Hall → Hall) : (s.modHall h f).revCopies = s.revCopies := rfl
@[simp] theorem State.modHall_wslots (s : State) (h : Nat) (f : Hall → Hall) : (s.modHall h f).wslots = s.wslots := rfl
@[simp] theorem State.modHall_depRecs (s : State) (h : Nat) (f : Hall → Hall) : (s.modHall h f).depRecs = s.depRecs := rfl
@[simp] theorem State.modHall_depAsked (s : State) (h : Nat) (f : Hall → Hall) : (s.modHall h f).depAsked = s.depAsked := rfl
@[simp] theorem State.modHall_depSent (s : State) (h : Nat) (f : Hall → Hall) : (s.modHall h f).depSent = s.depSent := rfl
@[simp] theorem State.modHall_retained (s : State) (h : Nat) (f : Hall → Hall) : (s.modHall h f).retained = s.retained := rfl
@[simp] theorem State.modHall_loft (s : State) (h : Nat) (f : Hall → Hall) : (s.modHall h f).loft = s.loft := rfl
@[simp] theorem State.modHall_wwd (s : State) (h : Nat) (f : Hall → Hall) : (s.modHall h f).wwd = s.wwd := rfl
@[simp] theorem State.modHall_lwd (s : State) (h : Nat) (f : Hall → Hall) : (s.modHall h f).lwd = s.lwd := rfl
@[simp] theorem State.modHall_sessions (s : State) (h : Nat) (f : Hall → Hall) : (s.modHall h f).sessions = s.sessions := rfl
@[simp] theorem State.modHall_xng (s : State) (h : Nat) (f : Hall → Hall) : (s.modHall h f).xng = s.xng := rfl
@[simp] theorem State.modHall_svc (s : State) (h : Nat) (f : Hall → Hall) : (s.modHall h f).svc = s.svc := rfl
@[simp] theorem State.modHall_pwr (s : State) (h : Nat) (f : Hall → Hall) : (s.modHall h f).pwr = s.pwr := rfl
@[simp] theorem State.modHall_env (s : State) (h : Nat) (f : Hall → Hall) : (s.modHall h f).env = s.env := rfl
@[simp] theorem State.modHall_shutter (s : State) (h : Nat) (f : Hall → Hall) : (s.modHall h f).shutter = s.shutter := rfl
@[simp] theorem State.modHall_lpStage (s : State) (h : Nat) (f : Hall → Hall) : (s.modHall h f).lpStage = s.lpStage := rfl
@[simp] theorem State.modHall_lpResult (s : State) (h : Nat) (f : Hall → Hall) : (s.modHall h f).lpResult = s.lpResult := rfl

/-! ### setTr -/

@[simp] theorem State.setTr_time (s : State) (t : Nat) (v : Transport) : (s.setTr t v).time = s.time := rfl
@[simp] theorem State.setTr_pending (s : State) (t : Nat) (v : Transport) : (s.setTr t v).pending = s.pending := rfl
@[simp] theorem State.setTr_out (s : State) (t : Nat) (v : Transport) : (s.setTr t v).out = s.out := rfl
@[simp] theorem State.setTr_freeCtr (s : State) (t : Nat) (v : Transport) : (s.setTr t v).freeCtr = s.freeCtr := rfl
@[simp] theorem State.setTr_ports (s : State) (t : Nat) (v : Transport) : (s.setTr t v).ports = s.ports := rfl
@[simp] theorem State.setTr_halls (s : State) (t : Nat) (v : Transport) : (s.setTr t v).halls = s.halls := rfl
@[simp] theorem State.setTr_mirror (s : State) (t : Nat) (v : Transport) : (s.setTr t v).mirror = s.mirror := rfl
@[simp] theorem State.setTr_trs (s : State) (t : Nat) (v : Transport) : (s.setTr t v).trs = tabSet s.trs t v := rfl
@[simp] theorem State.setTr_encs (s : State) (t : Nat) (v : Transport) : (s.setTr t v).encs = s.encs := rfl
@[simp] theorem State.setTr_hdrs (s : State) (t : Nat) (v : Transport) : (s.setTr t v).hdrs = s.hdrs := rfl
@[simp] theorem State.setTr_portErr (s : State) (t : Nat) (v : Transport) : (s.setTr t v).portErr = s.portErr := rfl
@[simp] theorem State.setTr_sel (s : State) (t : Nat) (v : Transport) : (s.setTr t v).sel = s.sel := rfl
@[simp] theorem State.setTr_latch (s : State) (t : Nat) (v : Transport) : (s.setTr t v).latch = s.latch := rfl
@[simp] theorem State.setTr_root (s : State) (t : Nat) (v : Transport) : (s.setTr t v).root = s.root := rfl
@[simp] theorem State.setTr_modState (s : State) (t : Nat) (v : Transport) : (s.setTr t v).modState = s.modState := rfl
@[simp] theorem State.setTr_prevState (s : State) (t : Nat) (v : Transport) : (s.setTr t v).prevState = s.prevState := rfl
@[simp] theorem State.setTr_loftAt (s : State) (t : Nat) (v : Transport) : (s.setTr t v).loftAt = s.loftAt := rfl
@[simp] theorem State.setTr_ledger (s : State) (t : Nat) (v : Transport) : (s.setTr t v).ledger = s.ledger := rfl
@[simp] theorem State.setTr_ledgerNo (s : State) (t : Nat) (v : Transport) : (s.setTr t v).ledgerNo = s.ledgerNo := rfl
@[simp] theorem State.setTr_ledgerFull (s : State) (t : Nat) (v : Transport) : (s.setTr t v).ledgerFull = s.ledgerFull := rfl
@[simp] theorem State.setTr_barnQ (s : State) (t : Nat) (v : Transport) : (s.setTr t v).barnQ = s.barnQ := rfl
@[simp] theorem State.setTr_sealUsed (s : State) (t : Nat) (v : Transport) : (s.setTr t v).sealUsed = s.sealUsed := rfl
@[simp] theorem State.setTr_excLog (s : State) (t : Nat) (v : Transport) : (s.setTr t v).excLog = s.excLog := rfl
@[simp] theorem State.setTr_ledgerKey (s : State) (t : Nat) (v : Transport) : (s.setTr t v).ledgerKey = s.ledgerKey := rfl
@[simp] theorem State.setTr_copies (s : State) (t : Nat) (v : Transport) : (s.setTr t v).copies = s.copies := rfl
@[simp] theorem State.setTr_images (s : State) (t : Nat) (v : Transport) : (s.setTr t v).images = s.images := rfl
@[simp] theorem State.setTr_pkeQ (s : State) (t : Nat) (v : Transport) : (s.setTr t v).pkeQ = s.pkeQ := rfl
@[simp] theorem State.setTr_sheafDocs (s : State) (t : Nat) (v : Transport) : (s.setTr t v).sheafDocs = s.sheafDocs := rfl
@[simp] theorem State.setTr_sheafMs (s : State) (t : Nat) (v : Transport) : (s.setTr t v).sheafMs = s.sheafMs := rfl
@[simp] theorem State.setTr_signCnt (s : State) (t : Nat) (v : Transport) : (s.setTr t v).signCnt = s.signCnt := rfl
@[simp] theorem State.setTr_dropSheaf (s : State) (t : Nat) (v : Transport) : (s.setTr t v).dropSheaf = s.dropSheaf := rfl
@[simp] theorem State.setTr_dropImage (s : State) (t : Nat) (v : Transport) : (s.setTr t v).dropImage = s.dropImage := rfl
@[simp] theorem State.setTr_areaHigh (s : State) (t : Nat) (v : Transport) : (s.setTr t v).areaHigh = s.areaHigh := rfl
@[simp] theorem State.setTr_lpRefused (s : State) (t : Nat) (v : Transport) : (s.setTr t v).lpRefused = s.lpRefused := rfl
@[simp] theorem State.setTr_lpLate (s : State) (t : Nat) (v : Transport) : (s.setTr t v).lpLate = s.lpLate := rfl
@[simp] theorem State.setTr_lpForced (s : State) (t : Nat) (v : Transport) : (s.setTr t v).lpForced = s.lpForced := rfl
@[simp] theorem State.setTr_healCopies (s : State) (t : Nat) (v : Transport) : (s.setTr t v).healCopies = s.healCopies := rfl
@[simp] theorem State.setTr_engines (s : State) (t : Nat) (v : Transport) : (s.setTr t v).engines = s.engines := rfl
@[simp] theorem State.setTr_descs (s : State) (t : Nat) (v : Transport) : (s.setTr t v).descs = s.descs := rfl
@[simp] theorem State.setTr_outBlocks (s : State) (t : Nat) (v : Transport) : (s.setTr t v).outBlocks = s.outBlocks := rfl
@[simp] theorem State.setTr_gran (s : State) (t : Nat) (v : Transport) : (s.setTr t v).gran = s.gran := rfl
@[simp] theorem State.setTr_kjournal (s : State) (t : Nat) (v : Transport) : (s.setTr t v).kjournal = s.kjournal := rfl
@[simp] theorem State.setTr_kRecNo (s : State) (t : Nat) (v : Transport) : (s.setTr t v).kRecNo = s.kRecNo := rfl
@[simp] theorem State.setTr_kstore (s : State) (t : Nat) (v : Transport) : (s.setTr t v).kstore = s.kstore := rfl
@[simp] theorem State.setTr_kOpen (s : State) (t : Nat) (v : Transport) : (s.setTr t v).kOpen = s.kOpen := rfl
@[simp] theorem State.setTr_enrols (s : State) (t : Nat) (v : Transport) : (s.setTr t v).enrols = s.enrols := rfl
@[simp] theorem State.setTr_certs (s : State) (t : Nat) (v : Transport) : (s.setTr t v).certs = s.certs := rfl
@[simp] theorem State.setTr_att (s : State) (t : Nat) (v : Transport) : (s.setTr t v).att = s.att := rfl
@[simp] theorem State.setTr_puf (s : State) (t : Nat) (v : Transport) : (s.setTr t v).puf = s.puf := rfl
@[simp] theorem State.setTr_otp (s : State) (t : Nat) (v : Transport) : (s.setTr t v).otp = s.otp := rfl
@[simp] theorem State.setTr_stageEn (s : State) (t : Nat) (v : Transport) : (s.setTr t v).stageEn = s.stageEn := rfl
@[simp] theorem State.setTr_diffCopy (s : State) (t : Nat) (v : Transport) : (s.setTr t v).diffCopy = s.diffCopy := rfl
@[simp] theorem State.setTr_defConf (s : State) (t : Nat) (v : Transport) : (s.setTr t v).defConf = s.defConf := rfl
@[simp] theorem State.setTr_brnReady (s : State) (t : Nat) (v : Transport) : (s.setTr t v).brnReady = s.brnReady := rfl
@[simp] theorem State.setTr_maxPe (s : State) (t : Nat) (v : Transport) : (s.setTr t v).maxPe = s.maxPe := rfl
@[simp] theorem State.setTr_badBlocks (s : State) (t : Nat) (v : Transport) : (s.setTr t v).badBlocks = s.badBlocks := rfl
@[simp] theorem State.setTr_manSlots (s : State) (t : Nat) (v : Transport) : (s.setTr t v).manSlots = s.manSlots := rfl
@[simp] theorem State.setTr_kept (s : State) (t : Nat) (v : Transport) : (s.setTr t v).kept = s.kept := rfl
@[simp] theorem State.setTr_keptNo (s : State) (t : Nat) (v : Transport) : (s.setTr t v).keptNo = s.keptNo := rfl
@[simp] theorem State.setTr_ulog (s : State) (t : Nat) (v : Transport) : (s.setTr t v).ulog = s.ulog := rfl
@[simp] theorem State.setTr_uRecNo (s : State) (t : Nat) (v : Transport) : (s.setTr t v).uRecNo = s.uRecNo := rfl
@[simp] theorem State.setTr_act (s : State) (t : Nat) (v : Transport) : (s.setTr t v).act = s.act := rfl
@[simp] theorem State.setTr_wdnMan (s : State) (t : Nat) (v : Transport) : (s.setTr t v).wdnMan = s.wdnMan := rfl
@[simp] theorem State.setTr_revCopies (s : State) (t : Nat) (v : Transport) : (s.setTr t v).revCopies = s.revCopies := rfl
@[simp] theorem State.setTr_wslots (s : State) (t : Nat) (v : Transport) : (s.setTr t v).wslots = s.wslots := rfl
@[simp] theorem State.setTr_depRecs (s : State) (t : Nat) (v : Transport) : (s.setTr t v).depRecs = s.depRecs := rfl
@[simp] theorem State.setTr_depAsked (s : State) (t : Nat) (v : Transport) : (s.setTr t v).depAsked = s.depAsked := rfl
@[simp] theorem State.setTr_depSent (s : State) (t : Nat) (v : Transport) : (s.setTr t v).depSent = s.depSent := rfl
@[simp] theorem State.setTr_retained (s : State) (t : Nat) (v : Transport) : (s.setTr t v).retained = s.retained := rfl
@[simp] theorem State.setTr_loft (s : State) (t : Nat) (v : Transport) : (s.setTr t v).loft = s.loft := rfl
@[simp] theorem State.setTr_wwd (s : State) (t : Nat) (v : Transport) : (s.setTr t v).wwd = s.wwd := rfl
@[simp] theorem State.setTr_lwd (s : State) (t : Nat) (v : Transport) : (s.setTr t v).lwd = s.lwd := rfl
@[simp] theorem State.setTr_sessions (s : State) (t : Nat) (v : Transport) : (s.setTr t v).sessions = s.sessions := rfl
@[simp] theorem State.setTr_xng (s : State) (t : Nat) (v : Transport) : (s.setTr t v).xng = s.xng := rfl
@[simp] theorem State.setTr_svc (s : State) (t : Nat) (v : Transport) : (s.setTr t v).svc = s.svc := rfl
@[simp] theorem State.setTr_pwr (s : State) (t : Nat) (v : Transport) : (s.setTr t v).pwr = s.pwr := rfl
@[simp] theorem State.setTr_env (s : State) (t : Nat) (v : Transport) : (s.setTr t v).env = s.env := rfl
@[simp] theorem State.setTr_shutter (s : State) (t : Nat) (v : Transport) : (s.setTr t v).shutter = s.shutter := rfl
@[simp] theorem State.setTr_lpStage (s : State) (t : Nat) (v : Transport) : (s.setTr t v).lpStage = s.lpStage := rfl
@[simp] theorem State.setTr_lpResult (s : State) (t : Nat) (v : Transport) : (s.setTr t v).lpResult = s.lpResult := rfl

/-! ### modTr -/

@[simp] theorem State.modTr_time (s : State) (t : Nat) (f : Transport → Transport) : (s.modTr t f).time = s.time := rfl
@[simp] theorem State.modTr_pending (s : State) (t : Nat) (f : Transport → Transport) : (s.modTr t f).pending = s.pending := rfl
@[simp] theorem State.modTr_out (s : State) (t : Nat) (f : Transport → Transport) : (s.modTr t f).out = s.out := rfl
@[simp] theorem State.modTr_freeCtr (s : State) (t : Nat) (f : Transport → Transport) : (s.modTr t f).freeCtr = s.freeCtr := rfl
@[simp] theorem State.modTr_ports (s : State) (t : Nat) (f : Transport → Transport) : (s.modTr t f).ports = s.ports := rfl
@[simp] theorem State.modTr_halls (s : State) (t : Nat) (f : Transport → Transport) : (s.modTr t f).halls = s.halls := rfl
@[simp] theorem State.modTr_mirror (s : State) (t : Nat) (f : Transport → Transport) : (s.modTr t f).mirror = s.mirror := rfl
@[simp] theorem State.modTr_trs (s : State) (t : Nat) (f : Transport → Transport) : (s.modTr t f).trs = tabSet s.trs t (f (s.tr t)) := rfl
@[simp] theorem State.modTr_encs (s : State) (t : Nat) (f : Transport → Transport) : (s.modTr t f).encs = s.encs := rfl
@[simp] theorem State.modTr_hdrs (s : State) (t : Nat) (f : Transport → Transport) : (s.modTr t f).hdrs = s.hdrs := rfl
@[simp] theorem State.modTr_portErr (s : State) (t : Nat) (f : Transport → Transport) : (s.modTr t f).portErr = s.portErr := rfl
@[simp] theorem State.modTr_sel (s : State) (t : Nat) (f : Transport → Transport) : (s.modTr t f).sel = s.sel := rfl
@[simp] theorem State.modTr_latch (s : State) (t : Nat) (f : Transport → Transport) : (s.modTr t f).latch = s.latch := rfl
@[simp] theorem State.modTr_root (s : State) (t : Nat) (f : Transport → Transport) : (s.modTr t f).root = s.root := rfl
@[simp] theorem State.modTr_modState (s : State) (t : Nat) (f : Transport → Transport) : (s.modTr t f).modState = s.modState := rfl
@[simp] theorem State.modTr_prevState (s : State) (t : Nat) (f : Transport → Transport) : (s.modTr t f).prevState = s.prevState := rfl
@[simp] theorem State.modTr_loftAt (s : State) (t : Nat) (f : Transport → Transport) : (s.modTr t f).loftAt = s.loftAt := rfl
@[simp] theorem State.modTr_ledger (s : State) (t : Nat) (f : Transport → Transport) : (s.modTr t f).ledger = s.ledger := rfl
@[simp] theorem State.modTr_ledgerNo (s : State) (t : Nat) (f : Transport → Transport) : (s.modTr t f).ledgerNo = s.ledgerNo := rfl
@[simp] theorem State.modTr_ledgerFull (s : State) (t : Nat) (f : Transport → Transport) : (s.modTr t f).ledgerFull = s.ledgerFull := rfl
@[simp] theorem State.modTr_barnQ (s : State) (t : Nat) (f : Transport → Transport) : (s.modTr t f).barnQ = s.barnQ := rfl
@[simp] theorem State.modTr_sealUsed (s : State) (t : Nat) (f : Transport → Transport) : (s.modTr t f).sealUsed = s.sealUsed := rfl
@[simp] theorem State.modTr_excLog (s : State) (t : Nat) (f : Transport → Transport) : (s.modTr t f).excLog = s.excLog := rfl
@[simp] theorem State.modTr_ledgerKey (s : State) (t : Nat) (f : Transport → Transport) : (s.modTr t f).ledgerKey = s.ledgerKey := rfl
@[simp] theorem State.modTr_copies (s : State) (t : Nat) (f : Transport → Transport) : (s.modTr t f).copies = s.copies := rfl
@[simp] theorem State.modTr_images (s : State) (t : Nat) (f : Transport → Transport) : (s.modTr t f).images = s.images := rfl
@[simp] theorem State.modTr_pkeQ (s : State) (t : Nat) (f : Transport → Transport) : (s.modTr t f).pkeQ = s.pkeQ := rfl
@[simp] theorem State.modTr_sheafDocs (s : State) (t : Nat) (f : Transport → Transport) : (s.modTr t f).sheafDocs = s.sheafDocs := rfl
@[simp] theorem State.modTr_sheafMs (s : State) (t : Nat) (f : Transport → Transport) : (s.modTr t f).sheafMs = s.sheafMs := rfl
@[simp] theorem State.modTr_signCnt (s : State) (t : Nat) (f : Transport → Transport) : (s.modTr t f).signCnt = s.signCnt := rfl
@[simp] theorem State.modTr_dropSheaf (s : State) (t : Nat) (f : Transport → Transport) : (s.modTr t f).dropSheaf = s.dropSheaf := rfl
@[simp] theorem State.modTr_dropImage (s : State) (t : Nat) (f : Transport → Transport) : (s.modTr t f).dropImage = s.dropImage := rfl
@[simp] theorem State.modTr_areaHigh (s : State) (t : Nat) (f : Transport → Transport) : (s.modTr t f).areaHigh = s.areaHigh := rfl
@[simp] theorem State.modTr_lpRefused (s : State) (t : Nat) (f : Transport → Transport) : (s.modTr t f).lpRefused = s.lpRefused := rfl
@[simp] theorem State.modTr_lpLate (s : State) (t : Nat) (f : Transport → Transport) : (s.modTr t f).lpLate = s.lpLate := rfl
@[simp] theorem State.modTr_lpForced (s : State) (t : Nat) (f : Transport → Transport) : (s.modTr t f).lpForced = s.lpForced := rfl
@[simp] theorem State.modTr_healCopies (s : State) (t : Nat) (f : Transport → Transport) : (s.modTr t f).healCopies = s.healCopies := rfl
@[simp] theorem State.modTr_engines (s : State) (t : Nat) (f : Transport → Transport) : (s.modTr t f).engines = s.engines := rfl
@[simp] theorem State.modTr_descs (s : State) (t : Nat) (f : Transport → Transport) : (s.modTr t f).descs = s.descs := rfl
@[simp] theorem State.modTr_outBlocks (s : State) (t : Nat) (f : Transport → Transport) : (s.modTr t f).outBlocks = s.outBlocks := rfl
@[simp] theorem State.modTr_gran (s : State) (t : Nat) (f : Transport → Transport) : (s.modTr t f).gran = s.gran := rfl
@[simp] theorem State.modTr_kjournal (s : State) (t : Nat) (f : Transport → Transport) : (s.modTr t f).kjournal = s.kjournal := rfl
@[simp] theorem State.modTr_kRecNo (s : State) (t : Nat) (f : Transport → Transport) : (s.modTr t f).kRecNo = s.kRecNo := rfl
@[simp] theorem State.modTr_kstore (s : State) (t : Nat) (f : Transport → Transport) : (s.modTr t f).kstore = s.kstore := rfl
@[simp] theorem State.modTr_kOpen (s : State) (t : Nat) (f : Transport → Transport) : (s.modTr t f).kOpen = s.kOpen := rfl
@[simp] theorem State.modTr_enrols (s : State) (t : Nat) (f : Transport → Transport) : (s.modTr t f).enrols = s.enrols := rfl
@[simp] theorem State.modTr_certs (s : State) (t : Nat) (f : Transport → Transport) : (s.modTr t f).certs = s.certs := rfl
@[simp] theorem State.modTr_att (s : State) (t : Nat) (f : Transport → Transport) : (s.modTr t f).att = s.att := rfl
@[simp] theorem State.modTr_puf (s : State) (t : Nat) (f : Transport → Transport) : (s.modTr t f).puf = s.puf := rfl
@[simp] theorem State.modTr_otp (s : State) (t : Nat) (f : Transport → Transport) : (s.modTr t f).otp = s.otp := rfl
@[simp] theorem State.modTr_stageEn (s : State) (t : Nat) (f : Transport → Transport) : (s.modTr t f).stageEn = s.stageEn := rfl
@[simp] theorem State.modTr_diffCopy (s : State) (t : Nat) (f : Transport → Transport) : (s.modTr t f).diffCopy = s.diffCopy := rfl
@[simp] theorem State.modTr_defConf (s : State) (t : Nat) (f : Transport → Transport) : (s.modTr t f).defConf = s.defConf := rfl
@[simp] theorem State.modTr_brnReady (s : State) (t : Nat) (f : Transport → Transport) : (s.modTr t f).brnReady = s.brnReady := rfl
@[simp] theorem State.modTr_maxPe (s : State) (t : Nat) (f : Transport → Transport) : (s.modTr t f).maxPe = s.maxPe := rfl
@[simp] theorem State.modTr_badBlocks (s : State) (t : Nat) (f : Transport → Transport) : (s.modTr t f).badBlocks = s.badBlocks := rfl
@[simp] theorem State.modTr_manSlots (s : State) (t : Nat) (f : Transport → Transport) : (s.modTr t f).manSlots = s.manSlots := rfl
@[simp] theorem State.modTr_kept (s : State) (t : Nat) (f : Transport → Transport) : (s.modTr t f).kept = s.kept := rfl
@[simp] theorem State.modTr_keptNo (s : State) (t : Nat) (f : Transport → Transport) : (s.modTr t f).keptNo = s.keptNo := rfl
@[simp] theorem State.modTr_ulog (s : State) (t : Nat) (f : Transport → Transport) : (s.modTr t f).ulog = s.ulog := rfl
@[simp] theorem State.modTr_uRecNo (s : State) (t : Nat) (f : Transport → Transport) : (s.modTr t f).uRecNo = s.uRecNo := rfl
@[simp] theorem State.modTr_act (s : State) (t : Nat) (f : Transport → Transport) : (s.modTr t f).act = s.act := rfl
@[simp] theorem State.modTr_wdnMan (s : State) (t : Nat) (f : Transport → Transport) : (s.modTr t f).wdnMan = s.wdnMan := rfl
@[simp] theorem State.modTr_revCopies (s : State) (t : Nat) (f : Transport → Transport) : (s.modTr t f).revCopies = s.revCopies := rfl
@[simp] theorem State.modTr_wslots (s : State) (t : Nat) (f : Transport → Transport) : (s.modTr t f).wslots = s.wslots := rfl
@[simp] theorem State.modTr_depRecs (s : State) (t : Nat) (f : Transport → Transport) : (s.modTr t f).depRecs = s.depRecs := rfl
@[simp] theorem State.modTr_depAsked (s : State) (t : Nat) (f : Transport → Transport) : (s.modTr t f).depAsked = s.depAsked := rfl
@[simp] theorem State.modTr_depSent (s : State) (t : Nat) (f : Transport → Transport) : (s.modTr t f).depSent = s.depSent := rfl
@[simp] theorem State.modTr_retained (s : State) (t : Nat) (f : Transport → Transport) : (s.modTr t f).retained = s.retained := rfl
@[simp] theorem State.modTr_loft (s : State) (t : Nat) (f : Transport → Transport) : (s.modTr t f).loft = s.loft := rfl
@[simp] theorem State.modTr_wwd (s : State) (t : Nat) (f : Transport → Transport) : (s.modTr t f).wwd = s.wwd := rfl
@[simp] theorem State.modTr_lwd (s : State) (t : Nat) (f : Transport → Transport) : (s.modTr t f).lwd = s.lwd := rfl
@[simp] theorem State.modTr_sessions (s : State) (t : Nat) (f : Transport → Transport) : (s.modTr t f).sessions = s.sessions := rfl
@[simp] theorem State.modTr_xng (s : State) (t : Nat) (f : Transport → Transport) : (s.modTr t f).xng = s.xng := rfl
@[simp] theorem State.modTr_svc (s : State) (t : Nat) (f : Transport → Transport) : (s.modTr t f).svc = s.svc := rfl
@[simp] theorem State.modTr_pwr (s : State) (t : Nat) (f : Transport → Transport) : (s.modTr t f).pwr = s.pwr := rfl
@[simp] theorem State.modTr_env (s : State) (t : Nat) (f : Transport → Transport) : (s.modTr t f).env = s.env := rfl
@[simp] theorem State.modTr_shutter (s : State) (t : Nat) (f : Transport → Transport) : (s.modTr t f).shutter = s.shutter := rfl
@[simp] theorem State.modTr_lpStage (s : State) (t : Nat) (f : Transport → Transport) : (s.modTr t f).lpStage = s.lpStage := rfl
@[simp] theorem State.modTr_lpResult (s : State) (t : Nat) (f : Transport → Transport) : (s.modTr t f).lpResult = s.lpResult := rfl

/-! ### setEnc -/

@[simp] theorem State.setEnc_time (s : State) (n : Nat) (v : Encoder) : (s.setEnc n v).time = s.time := rfl
@[simp] theorem State.setEnc_pending (s : State) (n : Nat) (v : Encoder) : (s.setEnc n v).pending = s.pending := rfl
@[simp] theorem State.setEnc_out (s : State) (n : Nat) (v : Encoder) : (s.setEnc n v).out = s.out := rfl
@[simp] theorem State.setEnc_freeCtr (s : State) (n : Nat) (v : Encoder) : (s.setEnc n v).freeCtr = s.freeCtr := rfl
@[simp] theorem State.setEnc_ports (s : State) (n : Nat) (v : Encoder) : (s.setEnc n v).ports = s.ports := rfl
@[simp] theorem State.setEnc_halls (s : State) (n : Nat) (v : Encoder) : (s.setEnc n v).halls = s.halls := rfl
@[simp] theorem State.setEnc_mirror (s : State) (n : Nat) (v : Encoder) : (s.setEnc n v).mirror = s.mirror := rfl
@[simp] theorem State.setEnc_trs (s : State) (n : Nat) (v : Encoder) : (s.setEnc n v).trs = s.trs := rfl
@[simp] theorem State.setEnc_encs (s : State) (n : Nat) (v : Encoder) : (s.setEnc n v).encs = tabSet s.encs n v := rfl
@[simp] theorem State.setEnc_hdrs (s : State) (n : Nat) (v : Encoder) : (s.setEnc n v).hdrs = s.hdrs := rfl
@[simp] theorem State.setEnc_portErr (s : State) (n : Nat) (v : Encoder) : (s.setEnc n v).portErr = s.portErr := rfl
@[simp] theorem State.setEnc_sel (s : State) (n : Nat) (v : Encoder) : (s.setEnc n v).sel = s.sel := rfl
@[simp] theorem State.setEnc_latch (s : State) (n : Nat) (v : Encoder) : (s.setEnc n v).latch = s.latch := rfl
@[simp] theorem State.setEnc_root (s : State) (n : Nat) (v : Encoder) : (s.setEnc n v).root = s.root := rfl
@[simp] theorem State.setEnc_modState (s : State) (n : Nat) (v : Encoder) : (s.setEnc n v).modState = s.modState := rfl
@[simp] theorem State.setEnc_prevState (s : State) (n : Nat) (v : Encoder) : (s.setEnc n v).prevState = s.prevState := rfl
@[simp] theorem State.setEnc_loftAt (s : State) (n : Nat) (v : Encoder) : (s.setEnc n v).loftAt = s.loftAt := rfl
@[simp] theorem State.setEnc_ledger (s : State) (n : Nat) (v : Encoder) : (s.setEnc n v).ledger = s.ledger := rfl
@[simp] theorem State.setEnc_ledgerNo (s : State) (n : Nat) (v : Encoder) : (s.setEnc n v).ledgerNo = s.ledgerNo := rfl
@[simp] theorem State.setEnc_ledgerFull (s : State) (n : Nat) (v : Encoder) : (s.setEnc n v).ledgerFull = s.ledgerFull := rfl
@[simp] theorem State.setEnc_barnQ (s : State) (n : Nat) (v : Encoder) : (s.setEnc n v).barnQ = s.barnQ := rfl
@[simp] theorem State.setEnc_sealUsed (s : State) (n : Nat) (v : Encoder) : (s.setEnc n v).sealUsed = s.sealUsed := rfl
@[simp] theorem State.setEnc_excLog (s : State) (n : Nat) (v : Encoder) : (s.setEnc n v).excLog = s.excLog := rfl
@[simp] theorem State.setEnc_ledgerKey (s : State) (n : Nat) (v : Encoder) : (s.setEnc n v).ledgerKey = s.ledgerKey := rfl
@[simp] theorem State.setEnc_copies (s : State) (n : Nat) (v : Encoder) : (s.setEnc n v).copies = s.copies := rfl
@[simp] theorem State.setEnc_images (s : State) (n : Nat) (v : Encoder) : (s.setEnc n v).images = s.images := rfl
@[simp] theorem State.setEnc_pkeQ (s : State) (n : Nat) (v : Encoder) : (s.setEnc n v).pkeQ = s.pkeQ := rfl
@[simp] theorem State.setEnc_sheafDocs (s : State) (n : Nat) (v : Encoder) : (s.setEnc n v).sheafDocs = s.sheafDocs := rfl
@[simp] theorem State.setEnc_sheafMs (s : State) (n : Nat) (v : Encoder) : (s.setEnc n v).sheafMs = s.sheafMs := rfl
@[simp] theorem State.setEnc_signCnt (s : State) (n : Nat) (v : Encoder) : (s.setEnc n v).signCnt = s.signCnt := rfl
@[simp] theorem State.setEnc_dropSheaf (s : State) (n : Nat) (v : Encoder) : (s.setEnc n v).dropSheaf = s.dropSheaf := rfl
@[simp] theorem State.setEnc_dropImage (s : State) (n : Nat) (v : Encoder) : (s.setEnc n v).dropImage = s.dropImage := rfl
@[simp] theorem State.setEnc_areaHigh (s : State) (n : Nat) (v : Encoder) : (s.setEnc n v).areaHigh = s.areaHigh := rfl
@[simp] theorem State.setEnc_lpRefused (s : State) (n : Nat) (v : Encoder) : (s.setEnc n v).lpRefused = s.lpRefused := rfl
@[simp] theorem State.setEnc_lpLate (s : State) (n : Nat) (v : Encoder) : (s.setEnc n v).lpLate = s.lpLate := rfl
@[simp] theorem State.setEnc_lpForced (s : State) (n : Nat) (v : Encoder) : (s.setEnc n v).lpForced = s.lpForced := rfl
@[simp] theorem State.setEnc_healCopies (s : State) (n : Nat) (v : Encoder) : (s.setEnc n v).healCopies = s.healCopies := rfl
@[simp] theorem State.setEnc_engines (s : State) (n : Nat) (v : Encoder) : (s.setEnc n v).engines = s.engines := rfl
@[simp] theorem State.setEnc_descs (s : State) (n : Nat) (v : Encoder) : (s.setEnc n v).descs = s.descs := rfl
@[simp] theorem State.setEnc_outBlocks (s : State) (n : Nat) (v : Encoder) : (s.setEnc n v).outBlocks = s.outBlocks := rfl
@[simp] theorem State.setEnc_gran (s : State) (n : Nat) (v : Encoder) : (s.setEnc n v).gran = s.gran := rfl
@[simp] theorem State.setEnc_kjournal (s : State) (n : Nat) (v : Encoder) : (s.setEnc n v).kjournal = s.kjournal := rfl
@[simp] theorem State.setEnc_kRecNo (s : State) (n : Nat) (v : Encoder) : (s.setEnc n v).kRecNo = s.kRecNo := rfl
@[simp] theorem State.setEnc_kstore (s : State) (n : Nat) (v : Encoder) : (s.setEnc n v).kstore = s.kstore := rfl
@[simp] theorem State.setEnc_kOpen (s : State) (n : Nat) (v : Encoder) : (s.setEnc n v).kOpen = s.kOpen := rfl
@[simp] theorem State.setEnc_enrols (s : State) (n : Nat) (v : Encoder) : (s.setEnc n v).enrols = s.enrols := rfl
@[simp] theorem State.setEnc_certs (s : State) (n : Nat) (v : Encoder) : (s.setEnc n v).certs = s.certs := rfl
@[simp] theorem State.setEnc_att (s : State) (n : Nat) (v : Encoder) : (s.setEnc n v).att = s.att := rfl
@[simp] theorem State.setEnc_puf (s : State) (n : Nat) (v : Encoder) : (s.setEnc n v).puf = s.puf := rfl
@[simp] theorem State.setEnc_otp (s : State) (n : Nat) (v : Encoder) : (s.setEnc n v).otp = s.otp := rfl
@[simp] theorem State.setEnc_stageEn (s : State) (n : Nat) (v : Encoder) : (s.setEnc n v).stageEn = s.stageEn := rfl
@[simp] theorem State.setEnc_diffCopy (s : State) (n : Nat) (v : Encoder) : (s.setEnc n v).diffCopy = s.diffCopy := rfl
@[simp] theorem State.setEnc_defConf (s : State) (n : Nat) (v : Encoder) : (s.setEnc n v).defConf = s.defConf := rfl
@[simp] theorem State.setEnc_brnReady (s : State) (n : Nat) (v : Encoder) : (s.setEnc n v).brnReady = s.brnReady := rfl
@[simp] theorem State.setEnc_maxPe (s : State) (n : Nat) (v : Encoder) : (s.setEnc n v).maxPe = s.maxPe := rfl
@[simp] theorem State.setEnc_badBlocks (s : State) (n : Nat) (v : Encoder) : (s.setEnc n v).badBlocks = s.badBlocks := rfl
@[simp] theorem State.setEnc_manSlots (s : State) (n : Nat) (v : Encoder) : (s.setEnc n v).manSlots = s.manSlots := rfl
@[simp] theorem State.setEnc_kept (s : State) (n : Nat) (v : Encoder) : (s.setEnc n v).kept = s.kept := rfl
@[simp] theorem State.setEnc_keptNo (s : State) (n : Nat) (v : Encoder) : (s.setEnc n v).keptNo = s.keptNo := rfl
@[simp] theorem State.setEnc_ulog (s : State) (n : Nat) (v : Encoder) : (s.setEnc n v).ulog = s.ulog := rfl
@[simp] theorem State.setEnc_uRecNo (s : State) (n : Nat) (v : Encoder) : (s.setEnc n v).uRecNo = s.uRecNo := rfl
@[simp] theorem State.setEnc_act (s : State) (n : Nat) (v : Encoder) : (s.setEnc n v).act = s.act := rfl
@[simp] theorem State.setEnc_wdnMan (s : State) (n : Nat) (v : Encoder) : (s.setEnc n v).wdnMan = s.wdnMan := rfl
@[simp] theorem State.setEnc_revCopies (s : State) (n : Nat) (v : Encoder) : (s.setEnc n v).revCopies = s.revCopies := rfl
@[simp] theorem State.setEnc_wslots (s : State) (n : Nat) (v : Encoder) : (s.setEnc n v).wslots = s.wslots := rfl
@[simp] theorem State.setEnc_depRecs (s : State) (n : Nat) (v : Encoder) : (s.setEnc n v).depRecs = s.depRecs := rfl
@[simp] theorem State.setEnc_depAsked (s : State) (n : Nat) (v : Encoder) : (s.setEnc n v).depAsked = s.depAsked := rfl
@[simp] theorem State.setEnc_depSent (s : State) (n : Nat) (v : Encoder) : (s.setEnc n v).depSent = s.depSent := rfl
@[simp] theorem State.setEnc_retained (s : State) (n : Nat) (v : Encoder) : (s.setEnc n v).retained = s.retained := rfl
@[simp] theorem State.setEnc_loft (s : State) (n : Nat) (v : Encoder) : (s.setEnc n v).loft = s.loft := rfl
@[simp] theorem State.setEnc_wwd (s : State) (n : Nat) (v : Encoder) : (s.setEnc n v).wwd = s.wwd := rfl
@[simp] theorem State.setEnc_lwd (s : State) (n : Nat) (v : Encoder) : (s.setEnc n v).lwd = s.lwd := rfl
@[simp] theorem State.setEnc_sessions (s : State) (n : Nat) (v : Encoder) : (s.setEnc n v).sessions = s.sessions := rfl
@[simp] theorem State.setEnc_xng (s : State) (n : Nat) (v : Encoder) : (s.setEnc n v).xng = s.xng := rfl
@[simp] theorem State.setEnc_svc (s : State) (n : Nat) (v : Encoder) : (s.setEnc n v).svc = s.svc := rfl
@[simp] theorem State.setEnc_pwr (s : State) (n : Nat) (v : Encoder) : (s.setEnc n v).pwr = s.pwr := rfl
@[simp] theorem State.setEnc_env (s : State) (n : Nat) (v : Encoder) : (s.setEnc n v).env = s.env := rfl
@[simp] theorem State.setEnc_shutter (s : State) (n : Nat) (v : Encoder) : (s.setEnc n v).shutter = s.shutter := rfl
@[simp] theorem State.setEnc_lpStage (s : State) (n : Nat) (v : Encoder) : (s.setEnc n v).lpStage = s.lpStage := rfl
@[simp] theorem State.setEnc_lpResult (s : State) (n : Nat) (v : Encoder) : (s.setEnc n v).lpResult = s.lpResult := rfl

/-! ### modEnc -/

@[simp] theorem State.modEnc_time (s : State) (n : Nat) (f : Encoder → Encoder) : (s.modEnc n f).time = s.time := rfl
@[simp] theorem State.modEnc_pending (s : State) (n : Nat) (f : Encoder → Encoder) : (s.modEnc n f).pending = s.pending := rfl
@[simp] theorem State.modEnc_out (s : State) (n : Nat) (f : Encoder → Encoder) : (s.modEnc n f).out = s.out := rfl
@[simp] theorem State.modEnc_freeCtr (s : State) (n : Nat) (f : Encoder → Encoder) : (s.modEnc n f).freeCtr = s.freeCtr := rfl
@[simp] theorem State.modEnc_ports (s : State) (n : Nat) (f : Encoder → Encoder) : (s.modEnc n f).ports = s.ports := rfl
@[simp] theorem State.modEnc_halls (s : State) (n : Nat) (f : Encoder → Encoder) : (s.modEnc n f).halls = s.halls := rfl
@[simp] theorem State.modEnc_mirror (s : State) (n : Nat) (f : Encoder → Encoder) : (s.modEnc n f).mirror = s.mirror := rfl
@[simp] theorem State.modEnc_trs (s : State) (n : Nat) (f : Encoder → Encoder) : (s.modEnc n f).trs = s.trs := rfl
@[simp] theorem State.modEnc_encs (s : State) (n : Nat) (f : Encoder → Encoder) : (s.modEnc n f).encs = tabSet s.encs n (f (s.enc n)) := rfl
@[simp] theorem State.modEnc_hdrs (s : State) (n : Nat) (f : Encoder → Encoder) : (s.modEnc n f).hdrs = s.hdrs := rfl
@[simp] theorem State.modEnc_portErr (s : State) (n : Nat) (f : Encoder → Encoder) : (s.modEnc n f).portErr = s.portErr := rfl
@[simp] theorem State.modEnc_sel (s : State) (n : Nat) (f : Encoder → Encoder) : (s.modEnc n f).sel = s.sel := rfl
@[simp] theorem State.modEnc_latch (s : State) (n : Nat) (f : Encoder → Encoder) : (s.modEnc n f).latch = s.latch := rfl
@[simp] theorem State.modEnc_root (s : State) (n : Nat) (f : Encoder → Encoder) : (s.modEnc n f).root = s.root := rfl
@[simp] theorem State.modEnc_modState (s : State) (n : Nat) (f : Encoder → Encoder) : (s.modEnc n f).modState = s.modState := rfl
@[simp] theorem State.modEnc_prevState (s : State) (n : Nat) (f : Encoder → Encoder) : (s.modEnc n f).prevState = s.prevState := rfl
@[simp] theorem State.modEnc_loftAt (s : State) (n : Nat) (f : Encoder → Encoder) : (s.modEnc n f).loftAt = s.loftAt := rfl
@[simp] theorem State.modEnc_ledger (s : State) (n : Nat) (f : Encoder → Encoder) : (s.modEnc n f).ledger = s.ledger := rfl
@[simp] theorem State.modEnc_ledgerNo (s : State) (n : Nat) (f : Encoder → Encoder) : (s.modEnc n f).ledgerNo = s.ledgerNo := rfl
@[simp] theorem State.modEnc_ledgerFull (s : State) (n : Nat) (f : Encoder → Encoder) : (s.modEnc n f).ledgerFull = s.ledgerFull := rfl
@[simp] theorem State.modEnc_barnQ (s : State) (n : Nat) (f : Encoder → Encoder) : (s.modEnc n f).barnQ = s.barnQ := rfl
@[simp] theorem State.modEnc_sealUsed (s : State) (n : Nat) (f : Encoder → Encoder) : (s.modEnc n f).sealUsed = s.sealUsed := rfl
@[simp] theorem State.modEnc_excLog (s : State) (n : Nat) (f : Encoder → Encoder) : (s.modEnc n f).excLog = s.excLog := rfl
@[simp] theorem State.modEnc_ledgerKey (s : State) (n : Nat) (f : Encoder → Encoder) : (s.modEnc n f).ledgerKey = s.ledgerKey := rfl
@[simp] theorem State.modEnc_copies (s : State) (n : Nat) (f : Encoder → Encoder) : (s.modEnc n f).copies = s.copies := rfl
@[simp] theorem State.modEnc_images (s : State) (n : Nat) (f : Encoder → Encoder) : (s.modEnc n f).images = s.images := rfl
@[simp] theorem State.modEnc_pkeQ (s : State) (n : Nat) (f : Encoder → Encoder) : (s.modEnc n f).pkeQ = s.pkeQ := rfl
@[simp] theorem State.modEnc_sheafDocs (s : State) (n : Nat) (f : Encoder → Encoder) : (s.modEnc n f).sheafDocs = s.sheafDocs := rfl
@[simp] theorem State.modEnc_sheafMs (s : State) (n : Nat) (f : Encoder → Encoder) : (s.modEnc n f).sheafMs = s.sheafMs := rfl
@[simp] theorem State.modEnc_signCnt (s : State) (n : Nat) (f : Encoder → Encoder) : (s.modEnc n f).signCnt = s.signCnt := rfl
@[simp] theorem State.modEnc_dropSheaf (s : State) (n : Nat) (f : Encoder → Encoder) : (s.modEnc n f).dropSheaf = s.dropSheaf := rfl
@[simp] theorem State.modEnc_dropImage (s : State) (n : Nat) (f : Encoder → Encoder) : (s.modEnc n f).dropImage = s.dropImage := rfl
@[simp] theorem State.modEnc_areaHigh (s : State) (n : Nat) (f : Encoder → Encoder) : (s.modEnc n f).areaHigh = s.areaHigh := rfl
@[simp] theorem State.modEnc_lpRefused (s : State) (n : Nat) (f : Encoder → Encoder) : (s.modEnc n f).lpRefused = s.lpRefused := rfl
@[simp] theorem State.modEnc_lpLate (s : State) (n : Nat) (f : Encoder → Encoder) : (s.modEnc n f).lpLate = s.lpLate := rfl
@[simp] theorem State.modEnc_lpForced (s : State) (n : Nat) (f : Encoder → Encoder) : (s.modEnc n f).lpForced = s.lpForced := rfl
@[simp] theorem State.modEnc_healCopies (s : State) (n : Nat) (f : Encoder → Encoder) : (s.modEnc n f).healCopies = s.healCopies := rfl
@[simp] theorem State.modEnc_engines (s : State) (n : Nat) (f : Encoder → Encoder) : (s.modEnc n f).engines = s.engines := rfl
@[simp] theorem State.modEnc_descs (s : State) (n : Nat) (f : Encoder → Encoder) : (s.modEnc n f).descs = s.descs := rfl
@[simp] theorem State.modEnc_outBlocks (s : State) (n : Nat) (f : Encoder → Encoder) : (s.modEnc n f).outBlocks = s.outBlocks := rfl
@[simp] theorem State.modEnc_gran (s : State) (n : Nat) (f : Encoder → Encoder) : (s.modEnc n f).gran = s.gran := rfl
@[simp] theorem State.modEnc_kjournal (s : State) (n : Nat) (f : Encoder → Encoder) : (s.modEnc n f).kjournal = s.kjournal := rfl
@[simp] theorem State.modEnc_kRecNo (s : State) (n : Nat) (f : Encoder → Encoder) : (s.modEnc n f).kRecNo = s.kRecNo := rfl
@[simp] theorem State.modEnc_kstore (s : State) (n : Nat) (f : Encoder → Encoder) : (s.modEnc n f).kstore = s.kstore := rfl
@[simp] theorem State.modEnc_kOpen (s : State) (n : Nat) (f : Encoder → Encoder) : (s.modEnc n f).kOpen = s.kOpen := rfl
@[simp] theorem State.modEnc_enrols (s : State) (n : Nat) (f : Encoder → Encoder) : (s.modEnc n f).enrols = s.enrols := rfl
@[simp] theorem State.modEnc_certs (s : State) (n : Nat) (f : Encoder → Encoder) : (s.modEnc n f).certs = s.certs := rfl
@[simp] theorem State.modEnc_att (s : State) (n : Nat) (f : Encoder → Encoder) : (s.modEnc n f).att = s.att := rfl
@[simp] theorem State.modEnc_puf (s : State) (n : Nat) (f : Encoder → Encoder) : (s.modEnc n f).puf = s.puf := rfl
@[simp] theorem State.modEnc_otp (s : State) (n : Nat) (f : Encoder → Encoder) : (s.modEnc n f).otp = s.otp := rfl
@[simp] theorem State.modEnc_stageEn (s : State) (n : Nat) (f : Encoder → Encoder) : (s.modEnc n f).stageEn = s.stageEn := rfl
@[simp] theorem State.modEnc_diffCopy (s : State) (n : Nat) (f : Encoder → Encoder) : (s.modEnc n f).diffCopy = s.diffCopy := rfl
@[simp] theorem State.modEnc_defConf (s : State) (n : Nat) (f : Encoder → Encoder) : (s.modEnc n f).defConf = s.defConf := rfl
@[simp] theorem State.modEnc_brnReady (s : State) (n : Nat) (f : Encoder → Encoder) : (s.modEnc n f).brnReady = s.brnReady := rfl
@[simp] theorem State.modEnc_maxPe (s : State) (n : Nat) (f : Encoder → Encoder) : (s.modEnc n f).maxPe = s.maxPe := rfl
@[simp] theorem State.modEnc_badBlocks (s : State) (n : Nat) (f : Encoder → Encoder) : (s.modEnc n f).badBlocks = s.badBlocks := rfl
@[simp] theorem State.modEnc_manSlots (s : State) (n : Nat) (f : Encoder → Encoder) : (s.modEnc n f).manSlots = s.manSlots := rfl
@[simp] theorem State.modEnc_kept (s : State) (n : Nat) (f : Encoder → Encoder) : (s.modEnc n f).kept = s.kept := rfl
@[simp] theorem State.modEnc_keptNo (s : State) (n : Nat) (f : Encoder → Encoder) : (s.modEnc n f).keptNo = s.keptNo := rfl
@[simp] theorem State.modEnc_ulog (s : State) (n : Nat) (f : Encoder → Encoder) : (s.modEnc n f).ulog = s.ulog := rfl
@[simp] theorem State.modEnc_uRecNo (s : State) (n : Nat) (f : Encoder → Encoder) : (s.modEnc n f).uRecNo = s.uRecNo := rfl
@[simp] theorem State.modEnc_act (s : State) (n : Nat) (f : Encoder → Encoder) : (s.modEnc n f).act = s.act := rfl
@[simp] theorem State.modEnc_wdnMan (s : State) (n : Nat) (f : Encoder → Encoder) : (s.modEnc n f).wdnMan = s.wdnMan := rfl
@[simp] theorem State.modEnc_revCopies (s : State) (n : Nat) (f : Encoder → Encoder) : (s.modEnc n f).revCopies = s.revCopies := rfl
@[simp] theorem State.modEnc_wslots (s : State) (n : Nat) (f : Encoder → Encoder) : (s.modEnc n f).wslots = s.wslots := rfl
@[simp] theorem State.modEnc_depRecs (s : State) (n : Nat) (f : Encoder → Encoder) : (s.modEnc n f).depRecs = s.depRecs := rfl
@[simp] theorem State.modEnc_depAsked (s : State) (n : Nat) (f : Encoder → Encoder) : (s.modEnc n f).depAsked = s.depAsked := rfl
@[simp] theorem State.modEnc_depSent (s : State) (n : Nat) (f : Encoder → Encoder) : (s.modEnc n f).depSent = s.depSent := rfl
@[simp] theorem State.modEnc_retained (s : State) (n : Nat) (f : Encoder → Encoder) : (s.modEnc n f).retained = s.retained := rfl
@[simp] theorem State.modEnc_loft (s : State) (n : Nat) (f : Encoder → Encoder) : (s.modEnc n f).loft = s.loft := rfl
@[simp] theorem State.modEnc_wwd (s : State) (n : Nat) (f : Encoder → Encoder) : (s.modEnc n f).wwd = s.wwd := rfl
@[simp] theorem State.modEnc_lwd (s : State) (n : Nat) (f : Encoder → Encoder) : (s.modEnc n f).lwd = s.lwd := rfl
@[simp] theorem State.modEnc_sessions (s : State) (n : Nat) (f : Encoder → Encoder) : (s.modEnc n f).sessions = s.sessions := rfl
@[simp] theorem State.modEnc_xng (s : State) (n : Nat) (f : Encoder → Encoder) : (s.modEnc n f).xng = s.xng := rfl
@[simp] theorem State.modEnc_svc (s : State) (n : Nat) (f : Encoder → Encoder) : (s.modEnc n f).svc = s.svc := rfl
@[simp] theorem State.modEnc_pwr (s : State) (n : Nat) (f : Encoder → Encoder) : (s.modEnc n f).pwr = s.pwr := rfl
@[simp] theorem State.modEnc_env (s : State) (n : Nat) (f : Encoder → Encoder) : (s.modEnc n f).env = s.env := rfl
@[simp] theorem State.modEnc_shutter (s : State) (n : Nat) (f : Encoder → Encoder) : (s.modEnc n f).shutter = s.shutter := rfl
@[simp] theorem State.modEnc_lpStage (s : State) (n : Nat) (f : Encoder → Encoder) : (s.modEnc n f).lpStage = s.lpStage := rfl
@[simp] theorem State.modEnc_lpResult (s : State) (n : Nat) (f : Encoder → Encoder) : (s.modEnc n f).lpResult = s.lpResult := rfl

/-! ### setHdr -/

@[simp] theorem State.setHdr_time (s : State) (page : Nat) (v : Hdr) : (s.setHdr page v).time = s.time := rfl
@[simp] theorem State.setHdr_pending (s : State) (page : Nat) (v : Hdr) : (s.setHdr page v).pending = s.pending := rfl
@[simp] theorem State.setHdr_out (s : State) (page : Nat) (v : Hdr) : (s.setHdr page v).out = s.out := rfl
@[simp] theorem State.setHdr_freeCtr (s : State) (page : Nat) (v : Hdr) : (s.setHdr page v).freeCtr = s.freeCtr := rfl
@[simp] theorem State.setHdr_ports (s : State) (page : Nat) (v : Hdr) : (s.setHdr page v).ports = s.ports := rfl
@[simp] theorem State.setHdr_halls (s : State) (page : Nat) (v : Hdr) : (s.setHdr page v).halls = s.halls := rfl
@[simp] theorem State.setHdr_mirror (s : State) (page : Nat) (v : Hdr) : (s.setHdr page v).mirror = s.mirror := rfl
@[simp] theorem State.setHdr_trs (s : State) (page : Nat) (v : Hdr) : (s.setHdr page v).trs = s.trs := rfl
@[simp] theorem State.setHdr_encs (s : State) (page : Nat) (v : Hdr) : (s.setHdr page v).encs = s.encs := rfl
@[simp] theorem State.setHdr_hdrs (s : State) (page : Nat) (v : Hdr) : (s.setHdr page v).hdrs = tabSet s.hdrs page v := rfl
@[simp] theorem State.setHdr_portErr (s : State) (page : Nat) (v : Hdr) : (s.setHdr page v).portErr = s.portErr := rfl
@[simp] theorem State.setHdr_sel (s : State) (page : Nat) (v : Hdr) : (s.setHdr page v).sel = s.sel := rfl
@[simp] theorem State.setHdr_latch (s : State) (page : Nat) (v : Hdr) : (s.setHdr page v).latch = s.latch := rfl
@[simp] theorem State.setHdr_root (s : State) (page : Nat) (v : Hdr) : (s.setHdr page v).root = s.root := rfl
@[simp] theorem State.setHdr_modState (s : State) (page : Nat) (v : Hdr) : (s.setHdr page v).modState = s.modState := rfl
@[simp] theorem State.setHdr_prevState (s : State) (page : Nat) (v : Hdr) : (s.setHdr page v).prevState = s.prevState := rfl
@[simp] theorem State.setHdr_loftAt (s : State) (page : Nat) (v : Hdr) : (s.setHdr page v).loftAt = s.loftAt := rfl
@[simp] theorem State.setHdr_ledger (s : State) (page : Nat) (v : Hdr) : (s.setHdr page v).ledger = s.ledger := rfl
@[simp] theorem State.setHdr_ledgerNo (s : State) (page : Nat) (v : Hdr) : (s.setHdr page v).ledgerNo = s.ledgerNo := rfl
@[simp] theorem State.setHdr_ledgerFull (s : State) (page : Nat) (v : Hdr) : (s.setHdr page v).ledgerFull = s.ledgerFull := rfl
@[simp] theorem State.setHdr_barnQ (s : State) (page : Nat) (v : Hdr) : (s.setHdr page v).barnQ = s.barnQ := rfl
@[simp] theorem State.setHdr_sealUsed (s : State) (page : Nat) (v : Hdr) : (s.setHdr page v).sealUsed = s.sealUsed := rfl
@[simp] theorem State.setHdr_excLog (s : State) (page : Nat) (v : Hdr) : (s.setHdr page v).excLog = s.excLog := rfl
@[simp] theorem State.setHdr_ledgerKey (s : State) (page : Nat) (v : Hdr) : (s.setHdr page v).ledgerKey = s.ledgerKey := rfl
@[simp] theorem State.setHdr_copies (s : State) (page : Nat) (v : Hdr) : (s.setHdr page v).copies = s.copies := rfl
@[simp] theorem State.setHdr_images (s : State) (page : Nat) (v : Hdr) : (s.setHdr page v).images = s.images := rfl
@[simp] theorem State.setHdr_pkeQ (s : State) (page : Nat) (v : Hdr) : (s.setHdr page v).pkeQ = s.pkeQ := rfl
@[simp] theorem State.setHdr_sheafDocs (s : State) (page : Nat) (v : Hdr) : (s.setHdr page v).sheafDocs = s.sheafDocs := rfl
@[simp] theorem State.setHdr_sheafMs (s : State) (page : Nat) (v : Hdr) : (s.setHdr page v).sheafMs = s.sheafMs := rfl
@[simp] theorem State.setHdr_signCnt (s : State) (page : Nat) (v : Hdr) : (s.setHdr page v).signCnt = s.signCnt := rfl
@[simp] theorem State.setHdr_dropSheaf (s : State) (page : Nat) (v : Hdr) : (s.setHdr page v).dropSheaf = s.dropSheaf := rfl
@[simp] theorem State.setHdr_dropImage (s : State) (page : Nat) (v : Hdr) : (s.setHdr page v).dropImage = s.dropImage := rfl
@[simp] theorem State.setHdr_areaHigh (s : State) (page : Nat) (v : Hdr) : (s.setHdr page v).areaHigh = s.areaHigh := rfl
@[simp] theorem State.setHdr_lpRefused (s : State) (page : Nat) (v : Hdr) : (s.setHdr page v).lpRefused = s.lpRefused := rfl
@[simp] theorem State.setHdr_lpLate (s : State) (page : Nat) (v : Hdr) : (s.setHdr page v).lpLate = s.lpLate := rfl
@[simp] theorem State.setHdr_lpForced (s : State) (page : Nat) (v : Hdr) : (s.setHdr page v).lpForced = s.lpForced := rfl
@[simp] theorem State.setHdr_healCopies (s : State) (page : Nat) (v : Hdr) : (s.setHdr page v).healCopies = s.healCopies := rfl
@[simp] theorem State.setHdr_engines (s : State) (page : Nat) (v : Hdr) : (s.setHdr page v).engines = s.engines := rfl
@[simp] theorem State.setHdr_descs (s : State) (page : Nat) (v : Hdr) : (s.setHdr page v).descs = s.descs := rfl
@[simp] theorem State.setHdr_outBlocks (s : State) (page : Nat) (v : Hdr) : (s.setHdr page v).outBlocks = s.outBlocks := rfl
@[simp] theorem State.setHdr_gran (s : State) (page : Nat) (v : Hdr) : (s.setHdr page v).gran = s.gran := rfl
@[simp] theorem State.setHdr_kjournal (s : State) (page : Nat) (v : Hdr) : (s.setHdr page v).kjournal = s.kjournal := rfl
@[simp] theorem State.setHdr_kRecNo (s : State) (page : Nat) (v : Hdr) : (s.setHdr page v).kRecNo = s.kRecNo := rfl
@[simp] theorem State.setHdr_kstore (s : State) (page : Nat) (v : Hdr) : (s.setHdr page v).kstore = s.kstore := rfl
@[simp] theorem State.setHdr_kOpen (s : State) (page : Nat) (v : Hdr) : (s.setHdr page v).kOpen = s.kOpen := rfl
@[simp] theorem State.setHdr_enrols (s : State) (page : Nat) (v : Hdr) : (s.setHdr page v).enrols = s.enrols := rfl
@[simp] theorem State.setHdr_certs (s : State) (page : Nat) (v : Hdr) : (s.setHdr page v).certs = s.certs := rfl
@[simp] theorem State.setHdr_att (s : State) (page : Nat) (v : Hdr) : (s.setHdr page v).att = s.att := rfl
@[simp] theorem State.setHdr_puf (s : State) (page : Nat) (v : Hdr) : (s.setHdr page v).puf = s.puf := rfl
@[simp] theorem State.setHdr_otp (s : State) (page : Nat) (v : Hdr) : (s.setHdr page v).otp = s.otp := rfl
@[simp] theorem State.setHdr_stageEn (s : State) (page : Nat) (v : Hdr) : (s.setHdr page v).stageEn = s.stageEn := rfl
@[simp] theorem State.setHdr_diffCopy (s : State) (page : Nat) (v : Hdr) : (s.setHdr page v).diffCopy = s.diffCopy := rfl
@[simp] theorem State.setHdr_defConf (s : State) (page : Nat) (v : Hdr) : (s.setHdr page v).defConf = s.defConf := rfl
@[simp] theorem State.setHdr_brnReady (s : State) (page : Nat) (v : Hdr) : (s.setHdr page v).brnReady = s.brnReady := rfl
@[simp] theorem State.setHdr_maxPe (s : State) (page : Nat) (v : Hdr) : (s.setHdr page v).maxPe = s.maxPe := rfl
@[simp] theorem State.setHdr_badBlocks (s : State) (page : Nat) (v : Hdr) : (s.setHdr page v).badBlocks = s.badBlocks := rfl
@[simp] theorem State.setHdr_manSlots (s : State) (page : Nat) (v : Hdr) : (s.setHdr page v).manSlots = s.manSlots := rfl
@[simp] theorem State.setHdr_kept (s : State) (page : Nat) (v : Hdr) : (s.setHdr page v).kept = s.kept := rfl
@[simp] theorem State.setHdr_keptNo (s : State) (page : Nat) (v : Hdr) : (s.setHdr page v).keptNo = s.keptNo := rfl
@[simp] theorem State.setHdr_ulog (s : State) (page : Nat) (v : Hdr) : (s.setHdr page v).ulog = s.ulog := rfl
@[simp] theorem State.setHdr_uRecNo (s : State) (page : Nat) (v : Hdr) : (s.setHdr page v).uRecNo = s.uRecNo := rfl
@[simp] theorem State.setHdr_act (s : State) (page : Nat) (v : Hdr) : (s.setHdr page v).act = s.act := rfl
@[simp] theorem State.setHdr_wdnMan (s : State) (page : Nat) (v : Hdr) : (s.setHdr page v).wdnMan = s.wdnMan := rfl
@[simp] theorem State.setHdr_revCopies (s : State) (page : Nat) (v : Hdr) : (s.setHdr page v).revCopies = s.revCopies := rfl
@[simp] theorem State.setHdr_wslots (s : State) (page : Nat) (v : Hdr) : (s.setHdr page v).wslots = s.wslots := rfl
@[simp] theorem State.setHdr_depRecs (s : State) (page : Nat) (v : Hdr) : (s.setHdr page v).depRecs = s.depRecs := rfl
@[simp] theorem State.setHdr_depAsked (s : State) (page : Nat) (v : Hdr) : (s.setHdr page v).depAsked = s.depAsked := rfl
@[simp] theorem State.setHdr_depSent (s : State) (page : Nat) (v : Hdr) : (s.setHdr page v).depSent = s.depSent := rfl
@[simp] theorem State.setHdr_retained (s : State) (page : Nat) (v : Hdr) : (s.setHdr page v).retained = s.retained := rfl
@[simp] theorem State.setHdr_loft (s : State) (page : Nat) (v : Hdr) : (s.setHdr page v).loft = s.loft := rfl
@[simp] theorem State.setHdr_wwd (s : State) (page : Nat) (v : Hdr) : (s.setHdr page v).wwd = s.wwd := rfl
@[simp] theorem State.setHdr_lwd (s : State) (page : Nat) (v : Hdr) : (s.setHdr page v).lwd = s.lwd := rfl
@[simp] theorem State.setHdr_sessions (s : State) (page : Nat) (v : Hdr) : (s.setHdr page v).sessions = s.sessions := rfl
@[simp] theorem State.setHdr_xng (s : State) (page : Nat) (v : Hdr) : (s.setHdr page v).xng = s.xng := rfl
@[simp] theorem State.setHdr_svc (s : State) (page : Nat) (v : Hdr) : (s.setHdr page v).svc = s.svc := rfl
@[simp] theorem State.setHdr_pwr (s : State) (page : Nat) (v : Hdr) : (s.setHdr page v).pwr = s.pwr := rfl
@[simp] theorem State.setHdr_env (s : State) (page : Nat) (v : Hdr) : (s.setHdr page v).env = s.env := rfl
@[simp] theorem State.setHdr_shutter (s : State) (page : Nat) (v : Hdr) : (s.setHdr page v).shutter = s.shutter := rfl
@[simp] theorem State.setHdr_lpStage (s : State) (page : Nat) (v : Hdr) : (s.setHdr page v).lpStage = s.lpStage := rfl
@[simp] theorem State.setHdr_lpResult (s : State) (page : Nat) (v : Hdr) : (s.setHdr page v).lpResult = s.lpResult := rfl

/-! ### modHdr -/

@[simp] theorem State.modHdr_time (s : State) (page : Nat) (f : Hdr → Hdr) : (s.modHdr page f).time = s.time := rfl
@[simp] theorem State.modHdr_pending (s : State) (page : Nat) (f : Hdr → Hdr) : (s.modHdr page f).pending = s.pending := rfl
@[simp] theorem State.modHdr_out (s : State) (page : Nat) (f : Hdr → Hdr) : (s.modHdr page f).out = s.out := rfl
@[simp] theorem State.modHdr_freeCtr (s : State) (page : Nat) (f : Hdr → Hdr) : (s.modHdr page f).freeCtr = s.freeCtr := rfl
@[simp] theorem State.modHdr_ports (s : State) (page : Nat) (f : Hdr → Hdr) : (s.modHdr page f).ports = s.ports := rfl
@[simp] theorem State.modHdr_halls (s : State) (page : Nat) (f : Hdr → Hdr) : (s.modHdr page f).halls = s.halls := rfl
@[simp] theorem State.modHdr_mirror (s : State) (page : Nat) (f : Hdr → Hdr) : (s.modHdr page f).mirror = s.mirror := rfl
@[simp] theorem State.modHdr_trs (s : State) (page : Nat) (f : Hdr → Hdr) : (s.modHdr page f).trs = s.trs := rfl
@[simp] theorem State.modHdr_encs (s : State) (page : Nat) (f : Hdr → Hdr) : (s.modHdr page f).encs = s.encs := rfl
@[simp] theorem State.modHdr_hdrs (s : State) (page : Nat) (f : Hdr → Hdr) : (s.modHdr page f).hdrs = tabSet s.hdrs page (f (s.hdr page)) := rfl
@[simp] theorem State.modHdr_portErr (s : State) (page : Nat) (f : Hdr → Hdr) : (s.modHdr page f).portErr = s.portErr := rfl
@[simp] theorem State.modHdr_sel (s : State) (page : Nat) (f : Hdr → Hdr) : (s.modHdr page f).sel = s.sel := rfl
@[simp] theorem State.modHdr_latch (s : State) (page : Nat) (f : Hdr → Hdr) : (s.modHdr page f).latch = s.latch := rfl
@[simp] theorem State.modHdr_root (s : State) (page : Nat) (f : Hdr → Hdr) : (s.modHdr page f).root = s.root := rfl
@[simp] theorem State.modHdr_modState (s : State) (page : Nat) (f : Hdr → Hdr) : (s.modHdr page f).modState = s.modState := rfl
@[simp] theorem State.modHdr_prevState (s : State) (page : Nat) (f : Hdr → Hdr) : (s.modHdr page f).prevState = s.prevState := rfl
@[simp] theorem State.modHdr_loftAt (s : State) (page : Nat) (f : Hdr → Hdr) : (s.modHdr page f).loftAt = s.loftAt := rfl
@[simp] theorem State.modHdr_ledger (s : State) (page : Nat) (f : Hdr → Hdr) : (s.modHdr page f).ledger = s.ledger := rfl
@[simp] theorem State.modHdr_ledgerNo (s : State) (page : Nat) (f : Hdr → Hdr) : (s.modHdr page f).ledgerNo = s.ledgerNo := rfl
@[simp] theorem State.modHdr_ledgerFull (s : State) (page : Nat) (f : Hdr → Hdr) : (s.modHdr page f).ledgerFull = s.ledgerFull := rfl
@[simp] theorem State.modHdr_barnQ (s : State) (page : Nat) (f : Hdr → Hdr) : (s.modHdr page f).barnQ = s.barnQ := rfl
@[simp] theorem State.modHdr_sealUsed (s : State) (page : Nat) (f : Hdr → Hdr) : (s.modHdr page f).sealUsed = s.sealUsed := rfl
@[simp] theorem State.modHdr_excLog (s : State) (page : Nat) (f : Hdr → Hdr) : (s.modHdr page f).excLog = s.excLog := rfl
@[simp] theorem State.modHdr_ledgerKey (s : State) (page : Nat) (f : Hdr → Hdr) : (s.modHdr page f).ledgerKey = s.ledgerKey := rfl
@[simp] theorem State.modHdr_copies (s : State) (page : Nat) (f : Hdr → Hdr) : (s.modHdr page f).copies = s.copies := rfl
@[simp] theorem State.modHdr_images (s : State) (page : Nat) (f : Hdr → Hdr) : (s.modHdr page f).images = s.images := rfl
@[simp] theorem State.modHdr_pkeQ (s : State) (page : Nat) (f : Hdr → Hdr) : (s.modHdr page f).pkeQ = s.pkeQ := rfl
@[simp] theorem State.modHdr_sheafDocs (s : State) (page : Nat) (f : Hdr → Hdr) : (s.modHdr page f).sheafDocs = s.sheafDocs := rfl
@[simp] theorem State.modHdr_sheafMs (s : State) (page : Nat) (f : Hdr → Hdr) : (s.modHdr page f).sheafMs = s.sheafMs := rfl
@[simp] theorem State.modHdr_signCnt (s : State) (page : Nat) (f : Hdr → Hdr) : (s.modHdr page f).signCnt = s.signCnt := rfl
@[simp] theorem State.modHdr_dropSheaf (s : State) (page : Nat) (f : Hdr → Hdr) : (s.modHdr page f).dropSheaf = s.dropSheaf := rfl
@[simp] theorem State.modHdr_dropImage (s : State) (page : Nat) (f : Hdr → Hdr) : (s.modHdr page f).dropImage = s.dropImage := rfl
@[simp] theorem State.modHdr_areaHigh (s : State) (page : Nat) (f : Hdr → Hdr) : (s.modHdr page f).areaHigh = s.areaHigh := rfl
@[simp] theorem State.modHdr_lpRefused (s : State) (page : Nat) (f : Hdr → Hdr) : (s.modHdr page f).lpRefused = s.lpRefused := rfl
@[simp] theorem State.modHdr_lpLate (s : State) (page : Nat) (f : Hdr → Hdr) : (s.modHdr page f).lpLate = s.lpLate := rfl
@[simp] theorem State.modHdr_lpForced (s : State) (page : Nat) (f : Hdr → Hdr) : (s.modHdr page f).lpForced = s.lpForced := rfl
@[simp] theorem State.modHdr_healCopies (s : State) (page : Nat) (f : Hdr → Hdr) : (s.modHdr page f).healCopies = s.healCopies := rfl
@[simp] theorem State.modHdr_engines (s : State) (page : Nat) (f : Hdr → Hdr) : (s.modHdr page f).engines = s.engines := rfl
@[simp] theorem State.modHdr_descs (s : State) (page : Nat) (f : Hdr → Hdr) : (s.modHdr page f).descs = s.descs := rfl
@[simp] theorem State.modHdr_outBlocks (s : State) (page : Nat) (f : Hdr → Hdr) : (s.modHdr page f).outBlocks = s.outBlocks := rfl
@[simp] theorem State.modHdr_gran (s : State) (page : Nat) (f : Hdr → Hdr) : (s.modHdr page f).gran = s.gran := rfl
@[simp] theorem State.modHdr_kjournal (s : State) (page : Nat) (f : Hdr → Hdr) : (s.modHdr page f).kjournal = s.kjournal := rfl
@[simp] theorem State.modHdr_kRecNo (s : State) (page : Nat) (f : Hdr → Hdr) : (s.modHdr page f).kRecNo = s.kRecNo := rfl
@[simp] theorem State.modHdr_kstore (s : State) (page : Nat) (f : Hdr → Hdr) : (s.modHdr page f).kstore = s.kstore := rfl
@[simp] theorem State.modHdr_kOpen (s : State) (page : Nat) (f : Hdr → Hdr) : (s.modHdr page f).kOpen = s.kOpen := rfl
@[simp] theorem State.modHdr_enrols (s : State) (page : Nat) (f : Hdr → Hdr) : (s.modHdr page f).enrols = s.enrols := rfl
@[simp] theorem State.modHdr_certs (s : State) (page : Nat) (f : Hdr → Hdr) : (s.modHdr page f).certs = s.certs := rfl
@[simp] theorem State.modHdr_att (s : State) (page : Nat) (f : Hdr → Hdr) : (s.modHdr page f).att = s.att := rfl
@[simp] theorem State.modHdr_puf (s : State) (page : Nat) (f : Hdr → Hdr) : (s.modHdr page f).puf = s.puf := rfl
@[simp] theorem State.modHdr_otp (s : State) (page : Nat) (f : Hdr → Hdr) : (s.modHdr page f).otp = s.otp := rfl
@[simp] theorem State.modHdr_stageEn (s : State) (page : Nat) (f : Hdr → Hdr) : (s.modHdr page f).stageEn = s.stageEn := rfl
@[simp] theorem State.modHdr_diffCopy (s : State) (page : Nat) (f : Hdr → Hdr) : (s.modHdr page f).diffCopy = s.diffCopy := rfl
@[simp] theorem State.modHdr_defConf (s : State) (page : Nat) (f : Hdr → Hdr) : (s.modHdr page f).defConf = s.defConf := rfl
@[simp] theorem State.modHdr_brnReady (s : State) (page : Nat) (f : Hdr → Hdr) : (s.modHdr page f).brnReady = s.brnReady := rfl
@[simp] theorem State.modHdr_maxPe (s : State) (page : Nat) (f : Hdr → Hdr) : (s.modHdr page f).maxPe = s.maxPe := rfl
@[simp] theorem State.modHdr_badBlocks (s : State) (page : Nat) (f : Hdr → Hdr) : (s.modHdr page f).badBlocks = s.badBlocks := rfl
@[simp] theorem State.modHdr_manSlots (s : State) (page : Nat) (f : Hdr → Hdr) : (s.modHdr page f).manSlots = s.manSlots := rfl
@[simp] theorem State.modHdr_kept (s : State) (page : Nat) (f : Hdr → Hdr) : (s.modHdr page f).kept = s.kept := rfl
@[simp] theorem State.modHdr_keptNo (s : State) (page : Nat) (f : Hdr → Hdr) : (s.modHdr page f).keptNo = s.keptNo := rfl
@[simp] theorem State.modHdr_ulog (s : State) (page : Nat) (f : Hdr → Hdr) : (s.modHdr page f).ulog = s.ulog := rfl
@[simp] theorem State.modHdr_uRecNo (s : State) (page : Nat) (f : Hdr → Hdr) : (s.modHdr page f).uRecNo = s.uRecNo := rfl
@[simp] theorem State.modHdr_act (s : State) (page : Nat) (f : Hdr → Hdr) : (s.modHdr page f).act = s.act := rfl
@[simp] theorem State.modHdr_wdnMan (s : State) (page : Nat) (f : Hdr → Hdr) : (s.modHdr page f).wdnMan = s.wdnMan := rfl
@[simp] theorem State.modHdr_revCopies (s : State) (page : Nat) (f : Hdr → Hdr) : (s.modHdr page f).revCopies = s.revCopies := rfl
@[simp] theorem State.modHdr_wslots (s : State) (page : Nat) (f : Hdr → Hdr) : (s.modHdr page f).wslots = s.wslots := rfl
@[simp] theorem State.modHdr_depRecs (s : State) (page : Nat) (f : Hdr → Hdr) : (s.modHdr page f).depRecs = s.depRecs := rfl
@[simp] theorem State.modHdr_depAsked (s : State) (page : Nat) (f : Hdr → Hdr) : (s.modHdr page f).depAsked = s.depAsked := rfl
@[simp] theorem State.modHdr_depSent (s : State) (page : Nat) (f : Hdr → Hdr) : (s.modHdr page f).depSent = s.depSent := rfl
@[simp] theorem State.modHdr_retained (s : State) (page : Nat) (f : Hdr → Hdr) : (s.modHdr page f).retained = s.retained := rfl
@[simp] theorem State.modHdr_loft (s : State) (page : Nat) (f : Hdr → Hdr) : (s.modHdr page f).loft = s.loft := rfl
@[simp] theorem State.modHdr_wwd (s : State) (page : Nat) (f : Hdr → Hdr) : (s.modHdr page f).wwd = s.wwd := rfl
@[simp] theorem State.modHdr_lwd (s : State) (page : Nat) (f : Hdr → Hdr) : (s.modHdr page f).lwd = s.lwd := rfl
@[simp] theorem State.modHdr_sessions (s : State) (page : Nat) (f : Hdr → Hdr) : (s.modHdr page f).sessions = s.sessions := rfl
@[simp] theorem State.modHdr_xng (s : State) (page : Nat) (f : Hdr → Hdr) : (s.modHdr page f).xng = s.xng := rfl
@[simp] theorem State.modHdr_svc (s : State) (page : Nat) (f : Hdr → Hdr) : (s.modHdr page f).svc = s.svc := rfl
@[simp] theorem State.modHdr_pwr (s : State) (page : Nat) (f : Hdr → Hdr) : (s.modHdr page f).pwr = s.pwr := rfl
@[simp] theorem State.modHdr_env (s : State) (page : Nat) (f : Hdr → Hdr) : (s.modHdr page f).env = s.env := rfl
@[simp] theorem State.modHdr_shutter (s : State) (page : Nat) (f : Hdr → Hdr) : (s.modHdr page f).shutter = s.shutter := rfl
@[simp] theorem State.modHdr_lpStage (s : State) (page : Nat) (f : Hdr → Hdr) : (s.modHdr page f).lpStage = s.lpStage := rfl
@[simp] theorem State.modHdr_lpResult (s : State) (page : Nat) (f : Hdr → Hdr) : (s.modHdr page f).lpResult = s.lpResult := rfl

/-! ### modRoot -/

@[simp] theorem State.modRoot_time (s : State) (f : Root → Root) : (s.modRoot f).time = s.time := rfl
@[simp] theorem State.modRoot_pending (s : State) (f : Root → Root) : (s.modRoot f).pending = s.pending := rfl
@[simp] theorem State.modRoot_out (s : State) (f : Root → Root) : (s.modRoot f).out = s.out := rfl
@[simp] theorem State.modRoot_freeCtr (s : State) (f : Root → Root) : (s.modRoot f).freeCtr = s.freeCtr := rfl
@[simp] theorem State.modRoot_ports (s : State) (f : Root → Root) : (s.modRoot f).ports = s.ports := rfl
@[simp] theorem State.modRoot_halls (s : State) (f : Root → Root) : (s.modRoot f).halls = s.halls := rfl
@[simp] theorem State.modRoot_mirror (s : State) (f : Root → Root) : (s.modRoot f).mirror = s.mirror := rfl
@[simp] theorem State.modRoot_trs (s : State) (f : Root → Root) : (s.modRoot f).trs = s.trs := rfl
@[simp] theorem State.modRoot_encs (s : State) (f : Root → Root) : (s.modRoot f).encs = s.encs := rfl
@[simp] theorem State.modRoot_hdrs (s : State) (f : Root → Root) : (s.modRoot f).hdrs = s.hdrs := rfl
@[simp] theorem State.modRoot_portErr (s : State) (f : Root → Root) : (s.modRoot f).portErr = s.portErr := rfl
@[simp] theorem State.modRoot_sel (s : State) (f : Root → Root) : (s.modRoot f).sel = s.sel := rfl
@[simp] theorem State.modRoot_latch (s : State) (f : Root → Root) : (s.modRoot f).latch = s.latch := rfl
@[simp] theorem State.modRoot_root (s : State) (f : Root → Root) : (s.modRoot f).root = f s.root := rfl
@[simp] theorem State.modRoot_modState (s : State) (f : Root → Root) : (s.modRoot f).modState = s.modState := rfl
@[simp] theorem State.modRoot_prevState (s : State) (f : Root → Root) : (s.modRoot f).prevState = s.prevState := rfl
@[simp] theorem State.modRoot_loftAt (s : State) (f : Root → Root) : (s.modRoot f).loftAt = s.loftAt := rfl
@[simp] theorem State.modRoot_ledger (s : State) (f : Root → Root) : (s.modRoot f).ledger = s.ledger := rfl
@[simp] theorem State.modRoot_ledgerNo (s : State) (f : Root → Root) : (s.modRoot f).ledgerNo = s.ledgerNo := rfl
@[simp] theorem State.modRoot_ledgerFull (s : State) (f : Root → Root) : (s.modRoot f).ledgerFull = s.ledgerFull := rfl
@[simp] theorem State.modRoot_barnQ (s : State) (f : Root → Root) : (s.modRoot f).barnQ = s.barnQ := rfl
@[simp] theorem State.modRoot_sealUsed (s : State) (f : Root → Root) : (s.modRoot f).sealUsed = s.sealUsed := rfl
@[simp] theorem State.modRoot_excLog (s : State) (f : Root → Root) : (s.modRoot f).excLog = s.excLog := rfl
@[simp] theorem State.modRoot_ledgerKey (s : State) (f : Root → Root) : (s.modRoot f).ledgerKey = s.ledgerKey := rfl
@[simp] theorem State.modRoot_copies (s : State) (f : Root → Root) : (s.modRoot f).copies = s.copies := rfl
@[simp] theorem State.modRoot_images (s : State) (f : Root → Root) : (s.modRoot f).images = s.images := rfl
@[simp] theorem State.modRoot_pkeQ (s : State) (f : Root → Root) : (s.modRoot f).pkeQ = s.pkeQ := rfl
@[simp] theorem State.modRoot_sheafDocs (s : State) (f : Root → Root) : (s.modRoot f).sheafDocs = s.sheafDocs := rfl
@[simp] theorem State.modRoot_sheafMs (s : State) (f : Root → Root) : (s.modRoot f).sheafMs = s.sheafMs := rfl
@[simp] theorem State.modRoot_signCnt (s : State) (f : Root → Root) : (s.modRoot f).signCnt = s.signCnt := rfl
@[simp] theorem State.modRoot_dropSheaf (s : State) (f : Root → Root) : (s.modRoot f).dropSheaf = s.dropSheaf := rfl
@[simp] theorem State.modRoot_dropImage (s : State) (f : Root → Root) : (s.modRoot f).dropImage = s.dropImage := rfl
@[simp] theorem State.modRoot_areaHigh (s : State) (f : Root → Root) : (s.modRoot f).areaHigh = s.areaHigh := rfl
@[simp] theorem State.modRoot_lpRefused (s : State) (f : Root → Root) : (s.modRoot f).lpRefused = s.lpRefused := rfl
@[simp] theorem State.modRoot_lpLate (s : State) (f : Root → Root) : (s.modRoot f).lpLate = s.lpLate := rfl
@[simp] theorem State.modRoot_lpForced (s : State) (f : Root → Root) : (s.modRoot f).lpForced = s.lpForced := rfl
@[simp] theorem State.modRoot_healCopies (s : State) (f : Root → Root) : (s.modRoot f).healCopies = s.healCopies := rfl
@[simp] theorem State.modRoot_engines (s : State) (f : Root → Root) : (s.modRoot f).engines = s.engines := rfl
@[simp] theorem State.modRoot_descs (s : State) (f : Root → Root) : (s.modRoot f).descs = s.descs := rfl
@[simp] theorem State.modRoot_outBlocks (s : State) (f : Root → Root) : (s.modRoot f).outBlocks = s.outBlocks := rfl
@[simp] theorem State.modRoot_gran (s : State) (f : Root → Root) : (s.modRoot f).gran = s.gran := rfl
@[simp] theorem State.modRoot_kjournal (s : State) (f : Root → Root) : (s.modRoot f).kjournal = s.kjournal := rfl
@[simp] theorem State.modRoot_kRecNo (s : State) (f : Root → Root) : (s.modRoot f).kRecNo = s.kRecNo := rfl
@[simp] theorem State.modRoot_kstore (s : State) (f : Root → Root) : (s.modRoot f).kstore = s.kstore := rfl
@[simp] theorem State.modRoot_kOpen (s : State) (f : Root → Root) : (s.modRoot f).kOpen = s.kOpen := rfl
@[simp] theorem State.modRoot_enrols (s : State) (f : Root → Root) : (s.modRoot f).enrols = s.enrols := rfl
@[simp] theorem State.modRoot_certs (s : State) (f : Root → Root) : (s.modRoot f).certs = s.certs := rfl
@[simp] theorem State.modRoot_att (s : State) (f : Root → Root) : (s.modRoot f).att = s.att := rfl
@[simp] theorem State.modRoot_puf (s : State) (f : Root → Root) : (s.modRoot f).puf = s.puf := rfl
@[simp] theorem State.modRoot_otp (s : State) (f : Root → Root) : (s.modRoot f).otp = s.otp := rfl
@[simp] theorem State.modRoot_stageEn (s : State) (f : Root → Root) : (s.modRoot f).stageEn = s.stageEn := rfl
@[simp] theorem State.modRoot_diffCopy (s : State) (f : Root → Root) : (s.modRoot f).diffCopy = s.diffCopy := rfl
@[simp] theorem State.modRoot_defConf (s : State) (f : Root → Root) : (s.modRoot f).defConf = s.defConf := rfl
@[simp] theorem State.modRoot_brnReady (s : State) (f : Root → Root) : (s.modRoot f).brnReady = s.brnReady := rfl
@[simp] theorem State.modRoot_maxPe (s : State) (f : Root → Root) : (s.modRoot f).maxPe = s.maxPe := rfl
@[simp] theorem State.modRoot_badBlocks (s : State) (f : Root → Root) : (s.modRoot f).badBlocks = s.badBlocks := rfl
@[simp] theorem State.modRoot_manSlots (s : State) (f : Root → Root) : (s.modRoot f).manSlots = s.manSlots := rfl
@[simp] theorem State.modRoot_kept (s : State) (f : Root → Root) : (s.modRoot f).kept = s.kept := rfl
@[simp] theorem State.modRoot_keptNo (s : State) (f : Root → Root) : (s.modRoot f).keptNo = s.keptNo := rfl
@[simp] theorem State.modRoot_ulog (s : State) (f : Root → Root) : (s.modRoot f).ulog = s.ulog := rfl
@[simp] theorem State.modRoot_uRecNo (s : State) (f : Root → Root) : (s.modRoot f).uRecNo = s.uRecNo := rfl
@[simp] theorem State.modRoot_act (s : State) (f : Root → Root) : (s.modRoot f).act = s.act := rfl
@[simp] theorem State.modRoot_wdnMan (s : State) (f : Root → Root) : (s.modRoot f).wdnMan = s.wdnMan := rfl
@[simp] theorem State.modRoot_revCopies (s : State) (f : Root → Root) : (s.modRoot f).revCopies = s.revCopies := rfl
@[simp] theorem State.modRoot_wslots (s : State) (f : Root → Root) : (s.modRoot f).wslots = s.wslots := rfl
@[simp] theorem State.modRoot_depRecs (s : State) (f : Root → Root) : (s.modRoot f).depRecs = s.depRecs := rfl
@[simp] theorem State.modRoot_depAsked (s : State) (f : Root → Root) : (s.modRoot f).depAsked = s.depAsked := rfl
@[simp] theorem State.modRoot_depSent (s : State) (f : Root → Root) : (s.modRoot f).depSent = s.depSent := rfl
@[simp] theorem State.modRoot_retained (s : State) (f : Root → Root) : (s.modRoot f).retained = s.retained := rfl
@[simp] theorem State.modRoot_loft (s : State) (f : Root → Root) : (s.modRoot f).loft = s.loft := rfl
@[simp] theorem State.modRoot_wwd (s : State) (f : Root → Root) : (s.modRoot f).wwd = s.wwd := rfl
@[simp] theorem State.modRoot_lwd (s : State) (f : Root → Root) : (s.modRoot f).lwd = s.lwd := rfl
@[simp] theorem State.modRoot_sessions (s : State) (f : Root → Root) : (s.modRoot f).sessions = s.sessions := rfl
@[simp] theorem State.modRoot_xng (s : State) (f : Root → Root) : (s.modRoot f).xng = s.xng := rfl
@[simp] theorem State.modRoot_svc (s : State) (f : Root → Root) : (s.modRoot f).svc = s.svc := rfl
@[simp] theorem State.modRoot_pwr (s : State) (f : Root → Root) : (s.modRoot f).pwr = s.pwr := rfl
@[simp] theorem State.modRoot_env (s : State) (f : Root → Root) : (s.modRoot f).env = s.env := rfl
@[simp] theorem State.modRoot_shutter (s : State) (f : Root → Root) : (s.modRoot f).shutter = s.shutter := rfl
@[simp] theorem State.modRoot_lpStage (s : State) (f : Root → Root) : (s.modRoot f).lpStage = s.lpStage := rfl
@[simp] theorem State.modRoot_lpResult (s : State) (f : Root → Root) : (s.modRoot f).lpResult = s.lpResult := rfl

/-! ### modOtp -/

@[simp] theorem State.modOtp_time (s : State) (f : Otp → Otp) : (s.modOtp f).time = s.time := rfl
@[simp] theorem State.modOtp_pending (s : State) (f : Otp → Otp) : (s.modOtp f).pending = s.pending := rfl
@[simp] theorem State.modOtp_out (s : State) (f : Otp → Otp) : (s.modOtp f).out = s.out := rfl
@[simp] theorem State.modOtp_freeCtr (s : State) (f : Otp → Otp) : (s.modOtp f).freeCtr = s.freeCtr := rfl
@[simp] theorem State.modOtp_ports (s : State) (f : Otp → Otp) : (s.modOtp f).ports = s.ports := rfl
@[simp] theorem State.modOtp_halls (s : State) (f : Otp → Otp) : (s.modOtp f).halls = s.halls := rfl
@[simp] theorem State.modOtp_mirror (s : State) (f : Otp → Otp) : (s.modOtp f).mirror = s.mirror := rfl
@[simp] theorem State.modOtp_trs (s : State) (f : Otp → Otp) : (s.modOtp f).trs = s.trs := rfl
@[simp] theorem State.modOtp_encs (s : State) (f : Otp → Otp) : (s.modOtp f).encs = s.encs := rfl
@[simp] theorem State.modOtp_hdrs (s : State) (f : Otp → Otp) : (s.modOtp f).hdrs = s.hdrs := rfl
@[simp] theorem State.modOtp_portErr (s : State) (f : Otp → Otp) : (s.modOtp f).portErr = s.portErr := rfl
@[simp] theorem State.modOtp_sel (s : State) (f : Otp → Otp) : (s.modOtp f).sel = s.sel := rfl
@[simp] theorem State.modOtp_latch (s : State) (f : Otp → Otp) : (s.modOtp f).latch = s.latch := rfl
@[simp] theorem State.modOtp_root (s : State) (f : Otp → Otp) : (s.modOtp f).root = s.root := rfl
@[simp] theorem State.modOtp_modState (s : State) (f : Otp → Otp) : (s.modOtp f).modState = s.modState := rfl
@[simp] theorem State.modOtp_prevState (s : State) (f : Otp → Otp) : (s.modOtp f).prevState = s.prevState := rfl
@[simp] theorem State.modOtp_loftAt (s : State) (f : Otp → Otp) : (s.modOtp f).loftAt = s.loftAt := rfl
@[simp] theorem State.modOtp_ledger (s : State) (f : Otp → Otp) : (s.modOtp f).ledger = s.ledger := rfl
@[simp] theorem State.modOtp_ledgerNo (s : State) (f : Otp → Otp) : (s.modOtp f).ledgerNo = s.ledgerNo := rfl
@[simp] theorem State.modOtp_ledgerFull (s : State) (f : Otp → Otp) : (s.modOtp f).ledgerFull = s.ledgerFull := rfl
@[simp] theorem State.modOtp_barnQ (s : State) (f : Otp → Otp) : (s.modOtp f).barnQ = s.barnQ := rfl
@[simp] theorem State.modOtp_sealUsed (s : State) (f : Otp → Otp) : (s.modOtp f).sealUsed = s.sealUsed := rfl
@[simp] theorem State.modOtp_excLog (s : State) (f : Otp → Otp) : (s.modOtp f).excLog = s.excLog := rfl
@[simp] theorem State.modOtp_ledgerKey (s : State) (f : Otp → Otp) : (s.modOtp f).ledgerKey = s.ledgerKey := rfl
@[simp] theorem State.modOtp_copies (s : State) (f : Otp → Otp) : (s.modOtp f).copies = s.copies := rfl
@[simp] theorem State.modOtp_images (s : State) (f : Otp → Otp) : (s.modOtp f).images = s.images := rfl
@[simp] theorem State.modOtp_pkeQ (s : State) (f : Otp → Otp) : (s.modOtp f).pkeQ = s.pkeQ := rfl
@[simp] theorem State.modOtp_sheafDocs (s : State) (f : Otp → Otp) : (s.modOtp f).sheafDocs = s.sheafDocs := rfl
@[simp] theorem State.modOtp_sheafMs (s : State) (f : Otp → Otp) : (s.modOtp f).sheafMs = s.sheafMs := rfl
@[simp] theorem State.modOtp_signCnt (s : State) (f : Otp → Otp) : (s.modOtp f).signCnt = s.signCnt := rfl
@[simp] theorem State.modOtp_dropSheaf (s : State) (f : Otp → Otp) : (s.modOtp f).dropSheaf = s.dropSheaf := rfl
@[simp] theorem State.modOtp_dropImage (s : State) (f : Otp → Otp) : (s.modOtp f).dropImage = s.dropImage := rfl
@[simp] theorem State.modOtp_areaHigh (s : State) (f : Otp → Otp) : (s.modOtp f).areaHigh = s.areaHigh := rfl
@[simp] theorem State.modOtp_lpRefused (s : State) (f : Otp → Otp) : (s.modOtp f).lpRefused = s.lpRefused := rfl
@[simp] theorem State.modOtp_lpLate (s : State) (f : Otp → Otp) : (s.modOtp f).lpLate = s.lpLate := rfl
@[simp] theorem State.modOtp_lpForced (s : State) (f : Otp → Otp) : (s.modOtp f).lpForced = s.lpForced := rfl
@[simp] theorem State.modOtp_healCopies (s : State) (f : Otp → Otp) : (s.modOtp f).healCopies = s.healCopies := rfl
@[simp] theorem State.modOtp_engines (s : State) (f : Otp → Otp) : (s.modOtp f).engines = s.engines := rfl
@[simp] theorem State.modOtp_descs (s : State) (f : Otp → Otp) : (s.modOtp f).descs = s.descs := rfl
@[simp] theorem State.modOtp_outBlocks (s : State) (f : Otp → Otp) : (s.modOtp f).outBlocks = s.outBlocks := rfl
@[simp] theorem State.modOtp_gran (s : State) (f : Otp → Otp) : (s.modOtp f).gran = s.gran := rfl
@[simp] theorem State.modOtp_kjournal (s : State) (f : Otp → Otp) : (s.modOtp f).kjournal = s.kjournal := rfl
@[simp] theorem State.modOtp_kRecNo (s : State) (f : Otp → Otp) : (s.modOtp f).kRecNo = s.kRecNo := rfl
@[simp] theorem State.modOtp_kstore (s : State) (f : Otp → Otp) : (s.modOtp f).kstore = s.kstore := rfl
@[simp] theorem State.modOtp_kOpen (s : State) (f : Otp → Otp) : (s.modOtp f).kOpen = s.kOpen := rfl
@[simp] theorem State.modOtp_enrols (s : State) (f : Otp → Otp) : (s.modOtp f).enrols = s.enrols := rfl
@[simp] theorem State.modOtp_certs (s : State) (f : Otp → Otp) : (s.modOtp f).certs = s.certs := rfl
@[simp] theorem State.modOtp_att (s : State) (f : Otp → Otp) : (s.modOtp f).att = s.att := rfl
@[simp] theorem State.modOtp_puf (s : State) (f : Otp → Otp) : (s.modOtp f).puf = s.puf := rfl
@[simp] theorem State.modOtp_otp (s : State) (f : Otp → Otp) : (s.modOtp f).otp = f s.otp := rfl
@[simp] theorem State.modOtp_stageEn (s : State) (f : Otp → Otp) : (s.modOtp f).stageEn = s.stageEn := rfl
@[simp] theorem State.modOtp_diffCopy (s : State) (f : Otp → Otp) : (s.modOtp f).diffCopy = s.diffCopy := rfl
@[simp] theorem State.modOtp_defConf (s : State) (f : Otp → Otp) : (s.modOtp f).defConf = s.defConf := rfl
@[simp] theorem State.modOtp_brnReady (s : State) (f : Otp → Otp) : (s.modOtp f).brnReady = s.brnReady := rfl
@[simp] theorem State.modOtp_maxPe (s : State) (f : Otp → Otp) : (s.modOtp f).maxPe = s.maxPe := rfl
@[simp] theorem State.modOtp_badBlocks (s : State) (f : Otp → Otp) : (s.modOtp f).badBlocks = s.badBlocks := rfl
@[simp] theorem State.modOtp_manSlots (s : State) (f : Otp → Otp) : (s.modOtp f).manSlots = s.manSlots := rfl
@[simp] theorem State.modOtp_kept (s : State) (f : Otp → Otp) : (s.modOtp f).kept = s.kept := rfl
@[simp] theorem State.modOtp_keptNo (s : State) (f : Otp → Otp) : (s.modOtp f).keptNo = s.keptNo := rfl
@[simp] theorem State.modOtp_ulog (s : State) (f : Otp → Otp) : (s.modOtp f).ulog = s.ulog := rfl
@[simp] theorem State.modOtp_uRecNo (s : State) (f : Otp → Otp) : (s.modOtp f).uRecNo = s.uRecNo := rfl
@[simp] theorem State.modOtp_act (s : State) (f : Otp → Otp) : (s.modOtp f).act = s.act := rfl
@[simp] theorem State.modOtp_wdnMan (s : State) (f : Otp → Otp) : (s.modOtp f).wdnMan = s.wdnMan := rfl
@[simp] theorem State.modOtp_revCopies (s : State) (f : Otp → Otp) : (s.modOtp f).revCopies = s.revCopies := rfl
@[simp] theorem State.modOtp_wslots (s : State) (f : Otp → Otp) : (s.modOtp f).wslots = s.wslots := rfl
@[simp] theorem State.modOtp_depRecs (s : State) (f : Otp → Otp) : (s.modOtp f).depRecs = s.depRecs := rfl
@[simp] theorem State.modOtp_depAsked (s : State) (f : Otp → Otp) : (s.modOtp f).depAsked = s.depAsked := rfl
@[simp] theorem State.modOtp_depSent (s : State) (f : Otp → Otp) : (s.modOtp f).depSent = s.depSent := rfl
@[simp] theorem State.modOtp_retained (s : State) (f : Otp → Otp) : (s.modOtp f).retained = s.retained := rfl
@[simp] theorem State.modOtp_loft (s : State) (f : Otp → Otp) : (s.modOtp f).loft = s.loft := rfl
@[simp] theorem State.modOtp_wwd (s : State) (f : Otp → Otp) : (s.modOtp f).wwd = s.wwd := rfl
@[simp] theorem State.modOtp_lwd (s : State) (f : Otp → Otp) : (s.modOtp f).lwd = s.lwd := rfl
@[simp] theorem State.modOtp_sessions (s : State) (f : Otp → Otp) : (s.modOtp f).sessions = s.sessions := rfl
@[simp] theorem State.modOtp_xng (s : State) (f : Otp → Otp) : (s.modOtp f).xng = s.xng := rfl
@[simp] theorem State.modOtp_svc (s : State) (f : Otp → Otp) : (s.modOtp f).svc = s.svc := rfl
@[simp] theorem State.modOtp_pwr (s : State) (f : Otp → Otp) : (s.modOtp f).pwr = s.pwr := rfl
@[simp] theorem State.modOtp_env (s : State) (f : Otp → Otp) : (s.modOtp f).env = s.env := rfl
@[simp] theorem State.modOtp_shutter (s : State) (f : Otp → Otp) : (s.modOtp f).shutter = s.shutter := rfl
@[simp] theorem State.modOtp_lpStage (s : State) (f : Otp → Otp) : (s.modOtp f).lpStage = s.lpStage := rfl
@[simp] theorem State.modOtp_lpResult (s : State) (f : Otp → Otp) : (s.modOtp f).lpResult = s.lpResult := rfl

/-! ### modLoft -/

@[simp] theorem State.modLoft_time (s : State) (f : Loft → Loft) : (s.modLoft f).time = s.time := rfl
@[simp] theorem State.modLoft_pending (s : State) (f : Loft → Loft) : (s.modLoft f).pending = s.pending := rfl
@[simp] theorem State.modLoft_out (s : State) (f : Loft → Loft) : (s.modLoft f).out = s.out := rfl
@[simp] theorem State.modLoft_freeCtr (s : State) (f : Loft → Loft) : (s.modLoft f).freeCtr = s.freeCtr := rfl
@[simp] theorem State.modLoft_ports (s : State) (f : Loft → Loft) : (s.modLoft f).ports = s.ports := rfl
@[simp] theorem State.modLoft_halls (s : State) (f : Loft → Loft) : (s.modLoft f).halls = s.halls := rfl
@[simp] theorem State.modLoft_mirror (s : State) (f : Loft → Loft) : (s.modLoft f).mirror = s.mirror := rfl
@[simp] theorem State.modLoft_trs (s : State) (f : Loft → Loft) : (s.modLoft f).trs = s.trs := rfl
@[simp] theorem State.modLoft_encs (s : State) (f : Loft → Loft) : (s.modLoft f).encs = s.encs := rfl
@[simp] theorem State.modLoft_hdrs (s : State) (f : Loft → Loft) : (s.modLoft f).hdrs = s.hdrs := rfl
@[simp] theorem State.modLoft_portErr (s : State) (f : Loft → Loft) : (s.modLoft f).portErr = s.portErr := rfl
@[simp] theorem State.modLoft_sel (s : State) (f : Loft → Loft) : (s.modLoft f).sel = s.sel := rfl
@[simp] theorem State.modLoft_latch (s : State) (f : Loft → Loft) : (s.modLoft f).latch = s.latch := rfl
@[simp] theorem State.modLoft_root (s : State) (f : Loft → Loft) : (s.modLoft f).root = s.root := rfl
@[simp] theorem State.modLoft_modState (s : State) (f : Loft → Loft) : (s.modLoft f).modState = s.modState := rfl
@[simp] theorem State.modLoft_prevState (s : State) (f : Loft → Loft) : (s.modLoft f).prevState = s.prevState := rfl
@[simp] theorem State.modLoft_loftAt (s : State) (f : Loft → Loft) : (s.modLoft f).loftAt = s.loftAt := rfl
@[simp] theorem State.modLoft_ledger (s : State) (f : Loft → Loft) : (s.modLoft f).ledger = s.ledger := rfl
@[simp] theorem State.modLoft_ledgerNo (s : State) (f : Loft → Loft) : (s.modLoft f).ledgerNo = s.ledgerNo := rfl
@[simp] theorem State.modLoft_ledgerFull (s : State) (f : Loft → Loft) : (s.modLoft f).ledgerFull = s.ledgerFull := rfl
@[simp] theorem State.modLoft_barnQ (s : State) (f : Loft → Loft) : (s.modLoft f).barnQ = s.barnQ := rfl
@[simp] theorem State.modLoft_sealUsed (s : State) (f : Loft → Loft) : (s.modLoft f).sealUsed = s.sealUsed := rfl
@[simp] theorem State.modLoft_excLog (s : State) (f : Loft → Loft) : (s.modLoft f).excLog = s.excLog := rfl
@[simp] theorem State.modLoft_ledgerKey (s : State) (f : Loft → Loft) : (s.modLoft f).ledgerKey = s.ledgerKey := rfl
@[simp] theorem State.modLoft_copies (s : State) (f : Loft → Loft) : (s.modLoft f).copies = s.copies := rfl
@[simp] theorem State.modLoft_images (s : State) (f : Loft → Loft) : (s.modLoft f).images = s.images := rfl
@[simp] theorem State.modLoft_pkeQ (s : State) (f : Loft → Loft) : (s.modLoft f).pkeQ = s.pkeQ := rfl
@[simp] theorem State.modLoft_sheafDocs (s : State) (f : Loft → Loft) : (s.modLoft f).sheafDocs = s.sheafDocs := rfl
@[simp] theorem State.modLoft_sheafMs (s : State) (f : Loft → Loft) : (s.modLoft f).sheafMs = s.sheafMs := rfl
@[simp] theorem State.modLoft_signCnt (s : State) (f : Loft → Loft) : (s.modLoft f).signCnt = s.signCnt := rfl
@[simp] theorem State.modLoft_dropSheaf (s : State) (f : Loft → Loft) : (s.modLoft f).dropSheaf = s.dropSheaf := rfl
@[simp] theorem State.modLoft_dropImage (s : State) (f : Loft → Loft) : (s.modLoft f).dropImage = s.dropImage := rfl
@[simp] theorem State.modLoft_areaHigh (s : State) (f : Loft → Loft) : (s.modLoft f).areaHigh = s.areaHigh := rfl
@[simp] theorem State.modLoft_lpRefused (s : State) (f : Loft → Loft) : (s.modLoft f).lpRefused = s.lpRefused := rfl
@[simp] theorem State.modLoft_lpLate (s : State) (f : Loft → Loft) : (s.modLoft f).lpLate = s.lpLate := rfl
@[simp] theorem State.modLoft_lpForced (s : State) (f : Loft → Loft) : (s.modLoft f).lpForced = s.lpForced := rfl
@[simp] theorem State.modLoft_healCopies (s : State) (f : Loft → Loft) : (s.modLoft f).healCopies = s.healCopies := rfl
@[simp] theorem State.modLoft_engines (s : State) (f : Loft → Loft) : (s.modLoft f).engines = s.engines := rfl
@[simp] theorem State.modLoft_descs (s : State) (f : Loft → Loft) : (s.modLoft f).descs = s.descs := rfl
@[simp] theorem State.modLoft_outBlocks (s : State) (f : Loft → Loft) : (s.modLoft f).outBlocks = s.outBlocks := rfl
@[simp] theorem State.modLoft_gran (s : State) (f : Loft → Loft) : (s.modLoft f).gran = s.gran := rfl
@[simp] theorem State.modLoft_kjournal (s : State) (f : Loft → Loft) : (s.modLoft f).kjournal = s.kjournal := rfl
@[simp] theorem State.modLoft_kRecNo (s : State) (f : Loft → Loft) : (s.modLoft f).kRecNo = s.kRecNo := rfl
@[simp] theorem State.modLoft_kstore (s : State) (f : Loft → Loft) : (s.modLoft f).kstore = s.kstore := rfl
@[simp] theorem State.modLoft_kOpen (s : State) (f : Loft → Loft) : (s.modLoft f).kOpen = s.kOpen := rfl
@[simp] theorem State.modLoft_enrols (s : State) (f : Loft → Loft) : (s.modLoft f).enrols = s.enrols := rfl
@[simp] theorem State.modLoft_certs (s : State) (f : Loft → Loft) : (s.modLoft f).certs = s.certs := rfl
@[simp] theorem State.modLoft_att (s : State) (f : Loft → Loft) : (s.modLoft f).att = s.att := rfl
@[simp] theorem State.modLoft_puf (s : State) (f : Loft → Loft) : (s.modLoft f).puf = s.puf := rfl
@[simp] theorem State.modLoft_otp (s : State) (f : Loft → Loft) : (s.modLoft f).otp = s.otp := rfl
@[simp] theorem State.modLoft_stageEn (s : State) (f : Loft → Loft) : (s.modLoft f).stageEn = s.stageEn := rfl
@[simp] theorem State.modLoft_diffCopy (s : State) (f : Loft → Loft) : (s.modLoft f).diffCopy = s.diffCopy := rfl
@[simp] theorem State.modLoft_defConf (s : State) (f : Loft → Loft) : (s.modLoft f).defConf = s.defConf := rfl
@[simp] theorem State.modLoft_brnReady (s : State) (f : Loft → Loft) : (s.modLoft f).brnReady = s.brnReady := rfl
@[simp] theorem State.modLoft_maxPe (s : State) (f : Loft → Loft) : (s.modLoft f).maxPe = s.maxPe := rfl
@[simp] theorem State.modLoft_badBlocks (s : State) (f : Loft → Loft) : (s.modLoft f).badBlocks = s.badBlocks := rfl
@[simp] theorem State.modLoft_manSlots (s : State) (f : Loft → Loft) : (s.modLoft f).manSlots = s.manSlots := rfl
@[simp] theorem State.modLoft_kept (s : State) (f : Loft → Loft) : (s.modLoft f).kept = s.kept := rfl
@[simp] theorem State.modLoft_keptNo (s : State) (f : Loft → Loft) : (s.modLoft f).keptNo = s.keptNo := rfl
@[simp] theorem State.modLoft_ulog (s : State) (f : Loft → Loft) : (s.modLoft f).ulog = s.ulog := rfl
@[simp] theorem State.modLoft_uRecNo (s : State) (f : Loft → Loft) : (s.modLoft f).uRecNo = s.uRecNo := rfl
@[simp] theorem State.modLoft_act (s : State) (f : Loft → Loft) : (s.modLoft f).act = s.act := rfl
@[simp] theorem State.modLoft_wdnMan (s : State) (f : Loft → Loft) : (s.modLoft f).wdnMan = s.wdnMan := rfl
@[simp] theorem State.modLoft_revCopies (s : State) (f : Loft → Loft) : (s.modLoft f).revCopies = s.revCopies := rfl
@[simp] theorem State.modLoft_wslots (s : State) (f : Loft → Loft) : (s.modLoft f).wslots = s.wslots := rfl
@[simp] theorem State.modLoft_depRecs (s : State) (f : Loft → Loft) : (s.modLoft f).depRecs = s.depRecs := rfl
@[simp] theorem State.modLoft_depAsked (s : State) (f : Loft → Loft) : (s.modLoft f).depAsked = s.depAsked := rfl
@[simp] theorem State.modLoft_depSent (s : State) (f : Loft → Loft) : (s.modLoft f).depSent = s.depSent := rfl
@[simp] theorem State.modLoft_retained (s : State) (f : Loft → Loft) : (s.modLoft f).retained = s.retained := rfl
@[simp] theorem State.modLoft_loft (s : State) (f : Loft → Loft) : (s.modLoft f).loft = f s.loft := rfl
@[simp] theorem State.modLoft_wwd (s : State) (f : Loft → Loft) : (s.modLoft f).wwd = s.wwd := rfl
@[simp] theorem State.modLoft_lwd (s : State) (f : Loft → Loft) : (s.modLoft f).lwd = s.lwd := rfl
@[simp] theorem State.modLoft_sessions (s : State) (f : Loft → Loft) : (s.modLoft f).sessions = s.sessions := rfl
@[simp] theorem State.modLoft_xng (s : State) (f : Loft → Loft) : (s.modLoft f).xng = s.xng := rfl
@[simp] theorem State.modLoft_svc (s : State) (f : Loft → Loft) : (s.modLoft f).svc = s.svc := rfl
@[simp] theorem State.modLoft_pwr (s : State) (f : Loft → Loft) : (s.modLoft f).pwr = s.pwr := rfl
@[simp] theorem State.modLoft_env (s : State) (f : Loft → Loft) : (s.modLoft f).env = s.env := rfl
@[simp] theorem State.modLoft_shutter (s : State) (f : Loft → Loft) : (s.modLoft f).shutter = s.shutter := rfl
@[simp] theorem State.modLoft_lpStage (s : State) (f : Loft → Loft) : (s.modLoft f).lpStage = s.lpStage := rfl
@[simp] theorem State.modLoft_lpResult (s : State) (f : Loft → Loft) : (s.modLoft f).lpResult = s.lpResult := rfl

/-! ### modPwr -/

@[simp] theorem State.modPwr_time (s : State) (f : Pwr → Pwr) : (s.modPwr f).time = s.time := rfl
@[simp] theorem State.modPwr_pending (s : State) (f : Pwr → Pwr) : (s.modPwr f).pending = s.pending := rfl
@[simp] theorem State.modPwr_out (s : State) (f : Pwr → Pwr) : (s.modPwr f).out = s.out := rfl
@[simp] theorem State.modPwr_freeCtr (s : State) (f : Pwr → Pwr) : (s.modPwr f).freeCtr = s.freeCtr := rfl
@[simp] theorem State.modPwr_ports (s : State) (f : Pwr → Pwr) : (s.modPwr f).ports = s.ports := rfl
@[simp] theorem State.modPwr_halls (s : State) (f : Pwr → Pwr) : (s.modPwr f).halls = s.halls := rfl
@[simp] theorem State.modPwr_mirror (s : State) (f : Pwr → Pwr) : (s.modPwr f).mirror = s.mirror := rfl
@[simp] theorem State.modPwr_trs (s : State) (f : Pwr → Pwr) : (s.modPwr f).trs = s.trs := rfl
@[simp] theorem State.modPwr_encs (s : State) (f : Pwr → Pwr) : (s.modPwr f).encs = s.encs := rfl
@[simp] theorem State.modPwr_hdrs (s : State) (f : Pwr → Pwr) : (s.modPwr f).hdrs = s.hdrs := rfl
@[simp] theorem State.modPwr_portErr (s : State) (f : Pwr → Pwr) : (s.modPwr f).portErr = s.portErr := rfl
@[simp] theorem State.modPwr_sel (s : State) (f : Pwr → Pwr) : (s.modPwr f).sel = s.sel := rfl
@[simp] theorem State.modPwr_latch (s : State) (f : Pwr → Pwr) : (s.modPwr f).latch = s.latch := rfl
@[simp] theorem State.modPwr_root (s : State) (f : Pwr → Pwr) : (s.modPwr f).root = s.root := rfl
@[simp] theorem State.modPwr_modState (s : State) (f : Pwr → Pwr) : (s.modPwr f).modState = s.modState := rfl
@[simp] theorem State.modPwr_prevState (s : State) (f : Pwr → Pwr) : (s.modPwr f).prevState = s.prevState := rfl
@[simp] theorem State.modPwr_loftAt (s : State) (f : Pwr → Pwr) : (s.modPwr f).loftAt = s.loftAt := rfl
@[simp] theorem State.modPwr_ledger (s : State) (f : Pwr → Pwr) : (s.modPwr f).ledger = s.ledger := rfl
@[simp] theorem State.modPwr_ledgerNo (s : State) (f : Pwr → Pwr) : (s.modPwr f).ledgerNo = s.ledgerNo := rfl
@[simp] theorem State.modPwr_ledgerFull (s : State) (f : Pwr → Pwr) : (s.modPwr f).ledgerFull = s.ledgerFull := rfl
@[simp] theorem State.modPwr_barnQ (s : State) (f : Pwr → Pwr) : (s.modPwr f).barnQ = s.barnQ := rfl
@[simp] theorem State.modPwr_sealUsed (s : State) (f : Pwr → Pwr) : (s.modPwr f).sealUsed = s.sealUsed := rfl
@[simp] theorem State.modPwr_excLog (s : State) (f : Pwr → Pwr) : (s.modPwr f).excLog = s.excLog := rfl
@[simp] theorem State.modPwr_ledgerKey (s : State) (f : Pwr → Pwr) : (s.modPwr f).ledgerKey = s.ledgerKey := rfl
@[simp] theorem State.modPwr_copies (s : State) (f : Pwr → Pwr) : (s.modPwr f).copies = s.copies := rfl
@[simp] theorem State.modPwr_images (s : State) (f : Pwr → Pwr) : (s.modPwr f).images = s.images := rfl
@[simp] theorem State.modPwr_pkeQ (s : State) (f : Pwr → Pwr) : (s.modPwr f).pkeQ = s.pkeQ := rfl
@[simp] theorem State.modPwr_sheafDocs (s : State) (f : Pwr → Pwr) : (s.modPwr f).sheafDocs = s.sheafDocs := rfl
@[simp] theorem State.modPwr_sheafMs (s : State) (f : Pwr → Pwr) : (s.modPwr f).sheafMs = s.sheafMs := rfl
@[simp] theorem State.modPwr_signCnt (s : State) (f : Pwr → Pwr) : (s.modPwr f).signCnt = s.signCnt := rfl
@[simp] theorem State.modPwr_dropSheaf (s : State) (f : Pwr → Pwr) : (s.modPwr f).dropSheaf = s.dropSheaf := rfl
@[simp] theorem State.modPwr_dropImage (s : State) (f : Pwr → Pwr) : (s.modPwr f).dropImage = s.dropImage := rfl
@[simp] theorem State.modPwr_areaHigh (s : State) (f : Pwr → Pwr) : (s.modPwr f).areaHigh = s.areaHigh := rfl
@[simp] theorem State.modPwr_lpRefused (s : State) (f : Pwr → Pwr) : (s.modPwr f).lpRefused = s.lpRefused := rfl
@[simp] theorem State.modPwr_lpLate (s : State) (f : Pwr → Pwr) : (s.modPwr f).lpLate = s.lpLate := rfl
@[simp] theorem State.modPwr_lpForced (s : State) (f : Pwr → Pwr) : (s.modPwr f).lpForced = s.lpForced := rfl
@[simp] theorem State.modPwr_healCopies (s : State) (f : Pwr → Pwr) : (s.modPwr f).healCopies = s.healCopies := rfl
@[simp] theorem State.modPwr_engines (s : State) (f : Pwr → Pwr) : (s.modPwr f).engines = s.engines := rfl
@[simp] theorem State.modPwr_descs (s : State) (f : Pwr → Pwr) : (s.modPwr f).descs = s.descs := rfl
@[simp] theorem State.modPwr_outBlocks (s : State) (f : Pwr → Pwr) : (s.modPwr f).outBlocks = s.outBlocks := rfl
@[simp] theorem State.modPwr_gran (s : State) (f : Pwr → Pwr) : (s.modPwr f).gran = s.gran := rfl
@[simp] theorem State.modPwr_kjournal (s : State) (f : Pwr → Pwr) : (s.modPwr f).kjournal = s.kjournal := rfl
@[simp] theorem State.modPwr_kRecNo (s : State) (f : Pwr → Pwr) : (s.modPwr f).kRecNo = s.kRecNo := rfl
@[simp] theorem State.modPwr_kstore (s : State) (f : Pwr → Pwr) : (s.modPwr f).kstore = s.kstore := rfl
@[simp] theorem State.modPwr_kOpen (s : State) (f : Pwr → Pwr) : (s.modPwr f).kOpen = s.kOpen := rfl
@[simp] theorem State.modPwr_enrols (s : State) (f : Pwr → Pwr) : (s.modPwr f).enrols = s.enrols := rfl
@[simp] theorem State.modPwr_certs (s : State) (f : Pwr → Pwr) : (s.modPwr f).certs = s.certs := rfl
@[simp] theorem State.modPwr_att (s : State) (f : Pwr → Pwr) : (s.modPwr f).att = s.att := rfl
@[simp] theorem State.modPwr_puf (s : State) (f : Pwr → Pwr) : (s.modPwr f).puf = s.puf := rfl
@[simp] theorem State.modPwr_otp (s : State) (f : Pwr → Pwr) : (s.modPwr f).otp = s.otp := rfl
@[simp] theorem State.modPwr_stageEn (s : State) (f : Pwr → Pwr) : (s.modPwr f).stageEn = s.stageEn := rfl
@[simp] theorem State.modPwr_diffCopy (s : State) (f : Pwr → Pwr) : (s.modPwr f).diffCopy = s.diffCopy := rfl
@[simp] theorem State.modPwr_defConf (s : State) (f : Pwr → Pwr) : (s.modPwr f).defConf = s.defConf := rfl
@[simp] theorem State.modPwr_brnReady (s : State) (f : Pwr → Pwr) : (s.modPwr f).brnReady = s.brnReady := rfl
@[simp] theorem State.modPwr_maxPe (s : State) (f : Pwr → Pwr) : (s.modPwr f).maxPe = s.maxPe := rfl
@[simp] theorem State.modPwr_badBlocks (s : State) (f : Pwr → Pwr) : (s.modPwr f).badBlocks = s.badBlocks := rfl
@[simp] theorem State.modPwr_manSlots (s : State) (f : Pwr → Pwr) : (s.modPwr f).manSlots = s.manSlots := rfl
@[simp] theorem State.modPwr_kept (s : State) (f : Pwr → Pwr) : (s.modPwr f).kept = s.kept := rfl
@[simp] theorem State.modPwr_keptNo (s : State) (f : Pwr → Pwr) : (s.modPwr f).keptNo = s.keptNo := rfl
@[simp] theorem State.modPwr_ulog (s : State) (f : Pwr → Pwr) : (s.modPwr f).ulog = s.ulog := rfl
@[simp] theorem State.modPwr_uRecNo (s : State) (f : Pwr → Pwr) : (s.modPwr f).uRecNo = s.uRecNo := rfl
@[simp] theorem State.modPwr_act (s : State) (f : Pwr → Pwr) : (s.modPwr f).act = s.act := rfl
@[simp] theorem State.modPwr_wdnMan (s : State) (f : Pwr → Pwr) : (s.modPwr f).wdnMan = s.wdnMan := rfl
@[simp] theorem State.modPwr_revCopies (s : State) (f : Pwr → Pwr) : (s.modPwr f).revCopies = s.revCopies := rfl
@[simp] theorem State.modPwr_wslots (s : State) (f : Pwr → Pwr) : (s.modPwr f).wslots = s.wslots := rfl
@[simp] theorem State.modPwr_depRecs (s : State) (f : Pwr → Pwr) : (s.modPwr f).depRecs = s.depRecs := rfl
@[simp] theorem State.modPwr_depAsked (s : State) (f : Pwr → Pwr) : (s.modPwr f).depAsked = s.depAsked := rfl
@[simp] theorem State.modPwr_depSent (s : State) (f : Pwr → Pwr) : (s.modPwr f).depSent = s.depSent := rfl
@[simp] theorem State.modPwr_retained (s : State) (f : Pwr → Pwr) : (s.modPwr f).retained = s.retained := rfl
@[simp] theorem State.modPwr_loft (s : State) (f : Pwr → Pwr) : (s.modPwr f).loft = s.loft := rfl
@[simp] theorem State.modPwr_wwd (s : State) (f : Pwr → Pwr) : (s.modPwr f).wwd = s.wwd := rfl
@[simp] theorem State.modPwr_lwd (s : State) (f : Pwr → Pwr) : (s.modPwr f).lwd = s.lwd := rfl
@[simp] theorem State.modPwr_sessions (s : State) (f : Pwr → Pwr) : (s.modPwr f).sessions = s.sessions := rfl
@[simp] theorem State.modPwr_xng (s : State) (f : Pwr → Pwr) : (s.modPwr f).xng = s.xng := rfl
@[simp] theorem State.modPwr_svc (s : State) (f : Pwr → Pwr) : (s.modPwr f).svc = s.svc := rfl
@[simp] theorem State.modPwr_pwr (s : State) (f : Pwr → Pwr) : (s.modPwr f).pwr = f s.pwr := rfl
@[simp] theorem State.modPwr_env (s : State) (f : Pwr → Pwr) : (s.modPwr f).env = s.env := rfl
@[simp] theorem State.modPwr_shutter (s : State) (f : Pwr → Pwr) : (s.modPwr f).shutter = s.shutter := rfl
@[simp] theorem State.modPwr_lpStage (s : State) (f : Pwr → Pwr) : (s.modPwr f).lpStage = s.lpStage := rfl
@[simp] theorem State.modPwr_lpResult (s : State) (f : Pwr → Pwr) : (s.modPwr f).lpResult = s.lpResult := rfl

/-! ### modWwd -/

@[simp] theorem State.modWwd_time (s : State) (f : Wwd → Wwd) : (s.modWwd f).time = s.time := rfl
@[simp] theorem State.modWwd_pending (s : State) (f : Wwd → Wwd) : (s.modWwd f).pending = s.pending := rfl
@[simp] theorem State.modWwd_out (s : State) (f : Wwd → Wwd) : (s.modWwd f).out = s.out := rfl
@[simp] theorem State.modWwd_freeCtr (s : State) (f : Wwd → Wwd) : (s.modWwd f).freeCtr = s.freeCtr := rfl
@[simp] theorem State.modWwd_ports (s : State) (f : Wwd → Wwd) : (s.modWwd f).ports = s.ports := rfl
@[simp] theorem State.modWwd_halls (s : State) (f : Wwd → Wwd) : (s.modWwd f).halls = s.halls := rfl
@[simp] theorem State.modWwd_mirror (s : State) (f : Wwd → Wwd) : (s.modWwd f).mirror = s.mirror := rfl
@[simp] theorem State.modWwd_trs (s : State) (f : Wwd → Wwd) : (s.modWwd f).trs = s.trs := rfl
@[simp] theorem State.modWwd_encs (s : State) (f : Wwd → Wwd) : (s.modWwd f).encs = s.encs := rfl
@[simp] theorem State.modWwd_hdrs (s : State) (f : Wwd → Wwd) : (s.modWwd f).hdrs = s.hdrs := rfl
@[simp] theorem State.modWwd_portErr (s : State) (f : Wwd → Wwd) : (s.modWwd f).portErr = s.portErr := rfl
@[simp] theorem State.modWwd_sel (s : State) (f : Wwd → Wwd) : (s.modWwd f).sel = s.sel := rfl
@[simp] theorem State.modWwd_latch (s : State) (f : Wwd → Wwd) : (s.modWwd f).latch = s.latch := rfl
@[simp] theorem State.modWwd_root (s : State) (f : Wwd → Wwd) : (s.modWwd f).root = s.root := rfl
@[simp] theorem State.modWwd_modState (s : State) (f : Wwd → Wwd) : (s.modWwd f).modState = s.modState := rfl
@[simp] theorem State.modWwd_prevState (s : State) (f : Wwd → Wwd) : (s.modWwd f).prevState = s.prevState := rfl
@[simp] theorem State.modWwd_loftAt (s : State) (f : Wwd → Wwd) : (s.modWwd f).loftAt = s.loftAt := rfl
@[simp] theorem State.modWwd_ledger (s : State) (f : Wwd → Wwd) : (s.modWwd f).ledger = s.ledger := rfl
@[simp] theorem State.modWwd_ledgerNo (s : State) (f : Wwd → Wwd) : (s.modWwd f).ledgerNo = s.ledgerNo := rfl
@[simp] theorem State.modWwd_ledgerFull (s : State) (f : Wwd → Wwd) : (s.modWwd f).ledgerFull = s.ledgerFull := rfl
@[simp] theorem State.modWwd_barnQ (s : State) (f : Wwd → Wwd) : (s.modWwd f).barnQ = s.barnQ := rfl
@[simp] theorem State.modWwd_sealUsed (s : State) (f : Wwd → Wwd) : (s.modWwd f).sealUsed = s.sealUsed := rfl
@[simp] theorem State.modWwd_excLog (s : State) (f : Wwd → Wwd) : (s.modWwd f).excLog = s.excLog := rfl
@[simp] theorem State.modWwd_ledgerKey (s : State) (f : Wwd → Wwd) : (s.modWwd f).ledgerKey = s.ledgerKey := rfl
@[simp] theorem State.modWwd_copies (s : State) (f : Wwd → Wwd) : (s.modWwd f).copies = s.copies := rfl
@[simp] theorem State.modWwd_images (s : State) (f : Wwd → Wwd) : (s.modWwd f).images = s.images := rfl
@[simp] theorem State.modWwd_pkeQ (s : State) (f : Wwd → Wwd) : (s.modWwd f).pkeQ = s.pkeQ := rfl
@[simp] theorem State.modWwd_sheafDocs (s : State) (f : Wwd → Wwd) : (s.modWwd f).sheafDocs = s.sheafDocs := rfl
@[simp] theorem State.modWwd_sheafMs (s : State) (f : Wwd → Wwd) : (s.modWwd f).sheafMs = s.sheafMs := rfl
@[simp] theorem State.modWwd_signCnt (s : State) (f : Wwd → Wwd) : (s.modWwd f).signCnt = s.signCnt := rfl
@[simp] theorem State.modWwd_dropSheaf (s : State) (f : Wwd → Wwd) : (s.modWwd f).dropSheaf = s.dropSheaf := rfl
@[simp] theorem State.modWwd_dropImage (s : State) (f : Wwd → Wwd) : (s.modWwd f).dropImage = s.dropImage := rfl
@[simp] theorem State.modWwd_areaHigh (s : State) (f : Wwd → Wwd) : (s.modWwd f).areaHigh = s.areaHigh := rfl
@[simp] theorem State.modWwd_lpRefused (s : State) (f : Wwd → Wwd) : (s.modWwd f).lpRefused = s.lpRefused := rfl
@[simp] theorem State.modWwd_lpLate (s : State) (f : Wwd → Wwd) : (s.modWwd f).lpLate = s.lpLate := rfl
@[simp] theorem State.modWwd_lpForced (s : State) (f : Wwd → Wwd) : (s.modWwd f).lpForced = s.lpForced := rfl
@[simp] theorem State.modWwd_healCopies (s : State) (f : Wwd → Wwd) : (s.modWwd f).healCopies = s.healCopies := rfl
@[simp] theorem State.modWwd_engines (s : State) (f : Wwd → Wwd) : (s.modWwd f).engines = s.engines := rfl
@[simp] theorem State.modWwd_descs (s : State) (f : Wwd → Wwd) : (s.modWwd f).descs = s.descs := rfl
@[simp] theorem State.modWwd_outBlocks (s : State) (f : Wwd → Wwd) : (s.modWwd f).outBlocks = s.outBlocks := rfl
@[simp] theorem State.modWwd_gran (s : State) (f : Wwd → Wwd) : (s.modWwd f).gran = s.gran := rfl
@[simp] theorem State.modWwd_kjournal (s : State) (f : Wwd → Wwd) : (s.modWwd f).kjournal = s.kjournal := rfl
@[simp] theorem State.modWwd_kRecNo (s : State) (f : Wwd → Wwd) : (s.modWwd f).kRecNo = s.kRecNo := rfl
@[simp] theorem State.modWwd_kstore (s : State) (f : Wwd → Wwd) : (s.modWwd f).kstore = s.kstore := rfl
@[simp] theorem State.modWwd_kOpen (s : State) (f : Wwd → Wwd) : (s.modWwd f).kOpen = s.kOpen := rfl
@[simp] theorem State.modWwd_enrols (s : State) (f : Wwd → Wwd) : (s.modWwd f).enrols = s.enrols := rfl
@[simp] theorem State.modWwd_certs (s : State) (f : Wwd → Wwd) : (s.modWwd f).certs = s.certs := rfl
@[simp] theorem State.modWwd_att (s : State) (f : Wwd → Wwd) : (s.modWwd f).att = s.att := rfl
@[simp] theorem State.modWwd_puf (s : State) (f : Wwd → Wwd) : (s.modWwd f).puf = s.puf := rfl
@[simp] theorem State.modWwd_otp (s : State) (f : Wwd → Wwd) : (s.modWwd f).otp = s.otp := rfl
@[simp] theorem State.modWwd_stageEn (s : State) (f : Wwd → Wwd) : (s.modWwd f).stageEn = s.stageEn := rfl
@[simp] theorem State.modWwd_diffCopy (s : State) (f : Wwd → Wwd) : (s.modWwd f).diffCopy = s.diffCopy := rfl
@[simp] theorem State.modWwd_defConf (s : State) (f : Wwd → Wwd) : (s.modWwd f).defConf = s.defConf := rfl
@[simp] theorem State.modWwd_brnReady (s : State) (f : Wwd → Wwd) : (s.modWwd f).brnReady = s.brnReady := rfl
@[simp] theorem State.modWwd_maxPe (s : State) (f : Wwd → Wwd) : (s.modWwd f).maxPe = s.maxPe := rfl
@[simp] theorem State.modWwd_badBlocks (s : State) (f : Wwd → Wwd) : (s.modWwd f).badBlocks = s.badBlocks := rfl
@[simp] theorem State.modWwd_manSlots (s : State) (f : Wwd → Wwd) : (s.modWwd f).manSlots = s.manSlots := rfl
@[simp] theorem State.modWwd_kept (s : State) (f : Wwd → Wwd) : (s.modWwd f).kept = s.kept := rfl
@[simp] theorem State.modWwd_keptNo (s : State) (f : Wwd → Wwd) : (s.modWwd f).keptNo = s.keptNo := rfl
@[simp] theorem State.modWwd_ulog (s : State) (f : Wwd → Wwd) : (s.modWwd f).ulog = s.ulog := rfl
@[simp] theorem State.modWwd_uRecNo (s : State) (f : Wwd → Wwd) : (s.modWwd f).uRecNo = s.uRecNo := rfl
@[simp] theorem State.modWwd_act (s : State) (f : Wwd → Wwd) : (s.modWwd f).act = s.act := rfl
@[simp] theorem State.modWwd_wdnMan (s : State) (f : Wwd → Wwd) : (s.modWwd f).wdnMan = s.wdnMan := rfl
@[simp] theorem State.modWwd_revCopies (s : State) (f : Wwd → Wwd) : (s.modWwd f).revCopies = s.revCopies := rfl
@[simp] theorem State.modWwd_wslots (s : State) (f : Wwd → Wwd) : (s.modWwd f).wslots = s.wslots := rfl
@[simp] theorem State.modWwd_depRecs (s : State) (f : Wwd → Wwd) : (s.modWwd f).depRecs = s.depRecs := rfl
@[simp] theorem State.modWwd_depAsked (s : State) (f : Wwd → Wwd) : (s.modWwd f).depAsked = s.depAsked := rfl
@[simp] theorem State.modWwd_depSent (s : State) (f : Wwd → Wwd) : (s.modWwd f).depSent = s.depSent := rfl
@[simp] theorem State.modWwd_retained (s : State) (f : Wwd → Wwd) : (s.modWwd f).retained = s.retained := rfl
@[simp] theorem State.modWwd_loft (s : State) (f : Wwd → Wwd) : (s.modWwd f).loft = s.loft := rfl
@[simp] theorem State.modWwd_wwd (s : State) (f : Wwd → Wwd) : (s.modWwd f).wwd = f s.wwd := rfl
@[simp] theorem State.modWwd_lwd (s : State) (f : Wwd → Wwd) : (s.modWwd f).lwd = s.lwd := rfl
@[simp] theorem State.modWwd_sessions (s : State) (f : Wwd → Wwd) : (s.modWwd f).sessions = s.sessions := rfl
@[simp] theorem State.modWwd_xng (s : State) (f : Wwd → Wwd) : (s.modWwd f).xng = s.xng := rfl
@[simp] theorem State.modWwd_svc (s : State) (f : Wwd → Wwd) : (s.modWwd f).svc = s.svc := rfl
@[simp] theorem State.modWwd_pwr (s : State) (f : Wwd → Wwd) : (s.modWwd f).pwr = s.pwr := rfl
@[simp] theorem State.modWwd_env (s : State) (f : Wwd → Wwd) : (s.modWwd f).env = s.env := rfl
@[simp] theorem State.modWwd_shutter (s : State) (f : Wwd → Wwd) : (s.modWwd f).shutter = s.shutter := rfl
@[simp] theorem State.modWwd_lpStage (s : State) (f : Wwd → Wwd) : (s.modWwd f).lpStage = s.lpStage := rfl
@[simp] theorem State.modWwd_lpResult (s : State) (f : Wwd → Wwd) : (s.modWwd f).lpResult = s.lpResult := rfl

/-! ### modRet -/

@[simp] theorem State.modRet_time (s : State) (f : Retained → Retained) : (s.modRet f).time = s.time := rfl
@[simp] theorem State.modRet_pending (s : State) (f : Retained → Retained) : (s.modRet f).pending = s.pending := rfl
@[simp] theorem State.modRet_out (s : State) (f : Retained → Retained) : (s.modRet f).out = s.out := rfl
@[simp] theorem State.modRet_freeCtr (s : State) (f : Retained → Retained) : (s.modRet f).freeCtr = s.freeCtr := rfl
@[simp] theorem State.modRet_ports (s : State) (f : Retained → Retained) : (s.modRet f).ports = s.ports := rfl
@[simp] theorem State.modRet_halls (s : State) (f : Retained → Retained) : (s.modRet f).halls = s.halls := rfl
@[simp] theorem State.modRet_mirror (s : State) (f : Retained → Retained) : (s.modRet f).mirror = s.mirror := rfl
@[simp] theorem State.modRet_trs (s : State) (f : Retained → Retained) : (s.modRet f).trs = s.trs := rfl
@[simp] theorem State.modRet_encs (s : State) (f : Retained → Retained) : (s.modRet f).encs = s.encs := rfl
@[simp] theorem State.modRet_hdrs (s : State) (f : Retained → Retained) : (s.modRet f).hdrs = s.hdrs := rfl
@[simp] theorem State.modRet_portErr (s : State) (f : Retained → Retained) : (s.modRet f).portErr = s.portErr := rfl
@[simp] theorem State.modRet_sel (s : State) (f : Retained → Retained) : (s.modRet f).sel = s.sel := rfl
@[simp] theorem State.modRet_latch (s : State) (f : Retained → Retained) : (s.modRet f).latch = s.latch := rfl
@[simp] theorem State.modRet_root (s : State) (f : Retained → Retained) : (s.modRet f).root = s.root := rfl
@[simp] theorem State.modRet_modState (s : State) (f : Retained → Retained) : (s.modRet f).modState = s.modState := rfl
@[simp] theorem State.modRet_prevState (s : State) (f : Retained → Retained) : (s.modRet f).prevState = s.prevState := rfl
@[simp] theorem State.modRet_loftAt (s : State) (f : Retained → Retained) : (s.modRet f).loftAt = s.loftAt := rfl
@[simp] theorem State.modRet_ledger (s : State) (f : Retained → Retained) : (s.modRet f).ledger = s.ledger := rfl
@[simp] theorem State.modRet_ledgerNo (s : State) (f : Retained → Retained) : (s.modRet f).ledgerNo = s.ledgerNo := rfl
@[simp] theorem State.modRet_ledgerFull (s : State) (f : Retained → Retained) : (s.modRet f).ledgerFull = s.ledgerFull := rfl
@[simp] theorem State.modRet_barnQ (s : State) (f : Retained → Retained) : (s.modRet f).barnQ = s.barnQ := rfl
@[simp] theorem State.modRet_sealUsed (s : State) (f : Retained → Retained) : (s.modRet f).sealUsed = s.sealUsed := rfl
@[simp] theorem State.modRet_excLog (s : State) (f : Retained → Retained) : (s.modRet f).excLog = s.excLog := rfl
@[simp] theorem State.modRet_ledgerKey (s : State) (f : Retained → Retained) : (s.modRet f).ledgerKey = s.ledgerKey := rfl
@[simp] theorem State.modRet_copies (s : State) (f : Retained → Retained) : (s.modRet f).copies = s.copies := rfl
@[simp] theorem State.modRet_images (s : State) (f : Retained → Retained) : (s.modRet f).images = s.images := rfl
@[simp] theorem State.modRet_pkeQ (s : State) (f : Retained → Retained) : (s.modRet f).pkeQ = s.pkeQ := rfl
@[simp] theorem State.modRet_sheafDocs (s : State) (f : Retained → Retained) : (s.modRet f).sheafDocs = s.sheafDocs := rfl
@[simp] theorem State.modRet_sheafMs (s : State) (f : Retained → Retained) : (s.modRet f).sheafMs = s.sheafMs := rfl
@[simp] theorem State.modRet_signCnt (s : State) (f : Retained → Retained) : (s.modRet f).signCnt = s.signCnt := rfl
@[simp] theorem State.modRet_dropSheaf (s : State) (f : Retained → Retained) : (s.modRet f).dropSheaf = s.dropSheaf := rfl
@[simp] theorem State.modRet_dropImage (s : State) (f : Retained → Retained) : (s.modRet f).dropImage = s.dropImage := rfl
@[simp] theorem State.modRet_areaHigh (s : State) (f : Retained → Retained) : (s.modRet f).areaHigh = s.areaHigh := rfl
@[simp] theorem State.modRet_lpRefused (s : State) (f : Retained → Retained) : (s.modRet f).lpRefused = s.lpRefused := rfl
@[simp] theorem State.modRet_lpLate (s : State) (f : Retained → Retained) : (s.modRet f).lpLate = s.lpLate := rfl
@[simp] theorem State.modRet_lpForced (s : State) (f : Retained → Retained) : (s.modRet f).lpForced = s.lpForced := rfl
@[simp] theorem State.modRet_healCopies (s : State) (f : Retained → Retained) : (s.modRet f).healCopies = s.healCopies := rfl
@[simp] theorem State.modRet_engines (s : State) (f : Retained → Retained) : (s.modRet f).engines = s.engines := rfl
@[simp] theorem State.modRet_descs (s : State) (f : Retained → Retained) : (s.modRet f).descs = s.descs := rfl
@[simp] theorem State.modRet_outBlocks (s : State) (f : Retained → Retained) : (s.modRet f).outBlocks = s.outBlocks := rfl
@[simp] theorem State.modRet_gran (s : State) (f : Retained → Retained) : (s.modRet f).gran = s.gran := rfl
@[simp] theorem State.modRet_kjournal (s : State) (f : Retained → Retained) : (s.modRet f).kjournal = s.kjournal := rfl
@[simp] theorem State.modRet_kRecNo (s : State) (f : Retained → Retained) : (s.modRet f).kRecNo = s.kRecNo := rfl
@[simp] theorem State.modRet_kstore (s : State) (f : Retained → Retained) : (s.modRet f).kstore = s.kstore := rfl
@[simp] theorem State.modRet_kOpen (s : State) (f : Retained → Retained) : (s.modRet f).kOpen = s.kOpen := rfl
@[simp] theorem State.modRet_enrols (s : State) (f : Retained → Retained) : (s.modRet f).enrols = s.enrols := rfl
@[simp] theorem State.modRet_certs (s : State) (f : Retained → Retained) : (s.modRet f).certs = s.certs := rfl
@[simp] theorem State.modRet_att (s : State) (f : Retained → Retained) : (s.modRet f).att = s.att := rfl
@[simp] theorem State.modRet_puf (s : State) (f : Retained → Retained) : (s.modRet f).puf = s.puf := rfl
@[simp] theorem State.modRet_otp (s : State) (f : Retained → Retained) : (s.modRet f).otp = s.otp := rfl
@[simp] theorem State.modRet_stageEn (s : State) (f : Retained → Retained) : (s.modRet f).stageEn = s.stageEn := rfl
@[simp] theorem State.modRet_diffCopy (s : State) (f : Retained → Retained) : (s.modRet f).diffCopy = s.diffCopy := rfl
@[simp] theorem State.modRet_defConf (s : State) (f : Retained → Retained) : (s.modRet f).defConf = s.defConf := rfl
@[simp] theorem State.modRet_brnReady (s : State) (f : Retained → Retained) : (s.modRet f).brnReady = s.brnReady := rfl
@[simp] theorem State.modRet_maxPe (s : State) (f : Retained → Retained) : (s.modRet f).maxPe = s.maxPe := rfl
@[simp] theorem State.modRet_badBlocks (s : State) (f : Retained → Retained) : (s.modRet f).badBlocks = s.badBlocks := rfl
@[simp] theorem State.modRet_manSlots (s : State) (f : Retained → Retained) : (s.modRet f).manSlots = s.manSlots := rfl
@[simp] theorem State.modRet_kept (s : State) (f : Retained → Retained) : (s.modRet f).kept = s.kept := rfl
@[simp] theorem State.modRet_keptNo (s : State) (f : Retained → Retained) : (s.modRet f).keptNo = s.keptNo := rfl
@[simp] theorem State.modRet_ulog (s : State) (f : Retained → Retained) : (s.modRet f).ulog = s.ulog := rfl
@[simp] theorem State.modRet_uRecNo (s : State) (f : Retained → Retained) : (s.modRet f).uRecNo = s.uRecNo := rfl
@[simp] theorem State.modRet_act (s : State) (f : Retained → Retained) : (s.modRet f).act = s.act := rfl
@[simp] theorem State.modRet_wdnMan (s : State) (f : Retained → Retained) : (s.modRet f).wdnMan = s.wdnMan := rfl
@[simp] theorem State.modRet_revCopies (s : State) (f : Retained → Retained) : (s.modRet f).revCopies = s.revCopies := rfl
@[simp] theorem State.modRet_wslots (s : State) (f : Retained → Retained) : (s.modRet f).wslots = s.wslots := rfl
@[simp] theorem State.modRet_depRecs (s : State) (f : Retained → Retained) : (s.modRet f).depRecs = s.depRecs := rfl
@[simp] theorem State.modRet_depAsked (s : State) (f : Retained → Retained) : (s.modRet f).depAsked = s.depAsked := rfl
@[simp] theorem State.modRet_depSent (s : State) (f : Retained → Retained) : (s.modRet f).depSent = s.depSent := rfl
@[simp] theorem State.modRet_retained (s : State) (f : Retained → Retained) : (s.modRet f).retained = f s.retained := rfl
@[simp] theorem State.modRet_loft (s : State) (f : Retained → Retained) : (s.modRet f).loft = s.loft := rfl
@[simp] theorem State.modRet_wwd (s : State) (f : Retained → Retained) : (s.modRet f).wwd = s.wwd := rfl
@[simp] theorem State.modRet_lwd (s : State) (f : Retained → Retained) : (s.modRet f).lwd = s.lwd := rfl
@[simp] theorem State.modRet_sessions (s : State) (f : Retained → Retained) : (s.modRet f).sessions = s.sessions := rfl
@[simp] theorem State.modRet_xng (s : State) (f : Retained → Retained) : (s.modRet f).xng = s.xng := rfl
@[simp] theorem State.modRet_svc (s : State) (f : Retained → Retained) : (s.modRet f).svc = s.svc := rfl
@[simp] theorem State.modRet_pwr (s : State) (f : Retained → Retained) : (s.modRet f).pwr = s.pwr := rfl
@[simp] theorem State.modRet_env (s : State) (f : Retained → Retained) : (s.modRet f).env = s.env := rfl
@[simp] theorem State.modRet_shutter (s : State) (f : Retained → Retained) : (s.modRet f).shutter = s.shutter := rfl
@[simp] theorem State.modRet_lpStage (s : State) (f : Retained → Retained) : (s.modRet f).lpStage = s.lpStage := rfl
@[simp] theorem State.modRet_lpResult (s : State) (f : Retained → Retained) : (s.modRet f).lpResult = s.lpResult := rfl

/-! ### modEng -/

@[simp] theorem State.modEng_time (s : State) (e : Nat) (f : Engine → Engine) : (s.modEng e f).time = s.time := rfl
@[simp] theorem State.modEng_pending (s : State) (e : Nat) (f : Engine → Engine) : (s.modEng e f).pending = s.pending := rfl
@[simp] theorem State.modEng_out (s : State) (e : Nat) (f : Engine → Engine) : (s.modEng e f).out = s.out := rfl
@[simp] theorem State.modEng_freeCtr (s : State) (e : Nat) (f : Engine → Engine) : (s.modEng e f).freeCtr = s.freeCtr := rfl
@[simp] theorem State.modEng_ports (s : State) (e : Nat) (f : Engine → Engine) : (s.modEng e f).ports = s.ports := rfl
@[simp] theorem State.modEng_halls (s : State) (e : Nat) (f : Engine → Engine) : (s.modEng e f).halls = s.halls := rfl
@[simp] theorem State.modEng_mirror (s : State) (e : Nat) (f : Engine → Engine) : (s.modEng e f).mirror = s.mirror := rfl
@[simp] theorem State.modEng_trs (s : State) (e : Nat) (f : Engine → Engine) : (s.modEng e f).trs = s.trs := rfl
@[simp] theorem State.modEng_encs (s : State) (e : Nat) (f : Engine → Engine) : (s.modEng e f).encs = s.encs := rfl
@[simp] theorem State.modEng_hdrs (s : State) (e : Nat) (f : Engine → Engine) : (s.modEng e f).hdrs = s.hdrs := rfl
@[simp] theorem State.modEng_portErr (s : State) (e : Nat) (f : Engine → Engine) : (s.modEng e f).portErr = s.portErr := rfl
@[simp] theorem State.modEng_sel (s : State) (e : Nat) (f : Engine → Engine) : (s.modEng e f).sel = s.sel := rfl
@[simp] theorem State.modEng_latch (s : State) (e : Nat) (f : Engine → Engine) : (s.modEng e f).latch = s.latch := rfl
@[simp] theorem State.modEng_root (s : State) (e : Nat) (f : Engine → Engine) : (s.modEng e f).root = s.root := rfl
@[simp] theorem State.modEng_modState (s : State) (e : Nat) (f : Engine → Engine) : (s.modEng e f).modState = s.modState := rfl
@[simp] theorem State.modEng_prevState (s : State) (e : Nat) (f : Engine → Engine) : (s.modEng e f).prevState = s.prevState := rfl
@[simp] theorem State.modEng_loftAt (s : State) (e : Nat) (f : Engine → Engine) : (s.modEng e f).loftAt = s.loftAt := rfl
@[simp] theorem State.modEng_ledger (s : State) (e : Nat) (f : Engine → Engine) : (s.modEng e f).ledger = s.ledger := rfl
@[simp] theorem State.modEng_ledgerNo (s : State) (e : Nat) (f : Engine → Engine) : (s.modEng e f).ledgerNo = s.ledgerNo := rfl
@[simp] theorem State.modEng_ledgerFull (s : State) (e : Nat) (f : Engine → Engine) : (s.modEng e f).ledgerFull = s.ledgerFull := rfl
@[simp] theorem State.modEng_barnQ (s : State) (e : Nat) (f : Engine → Engine) : (s.modEng e f).barnQ = s.barnQ := rfl
@[simp] theorem State.modEng_sealUsed (s : State) (e : Nat) (f : Engine → Engine) : (s.modEng e f).sealUsed = s.sealUsed := rfl
@[simp] theorem State.modEng_excLog (s : State) (e : Nat) (f : Engine → Engine) : (s.modEng e f).excLog = s.excLog := rfl
@[simp] theorem State.modEng_ledgerKey (s : State) (e : Nat) (f : Engine → Engine) : (s.modEng e f).ledgerKey = s.ledgerKey := rfl
@[simp] theorem State.modEng_copies (s : State) (e : Nat) (f : Engine → Engine) : (s.modEng e f).copies = s.copies := rfl
@[simp] theorem State.modEng_images (s : State) (e : Nat) (f : Engine → Engine) : (s.modEng e f).images = s.images := rfl
@[simp] theorem State.modEng_pkeQ (s : State) (e : Nat) (f : Engine → Engine) : (s.modEng e f).pkeQ = s.pkeQ := rfl
@[simp] theorem State.modEng_sheafDocs (s : State) (e : Nat) (f : Engine → Engine) : (s.modEng e f).sheafDocs = s.sheafDocs := rfl
@[simp] theorem State.modEng_sheafMs (s : State) (e : Nat) (f : Engine → Engine) : (s.modEng e f).sheafMs = s.sheafMs := rfl
@[simp] theorem State.modEng_signCnt (s : State) (e : Nat) (f : Engine → Engine) : (s.modEng e f).signCnt = s.signCnt := rfl
@[simp] theorem State.modEng_dropSheaf (s : State) (e : Nat) (f : Engine → Engine) : (s.modEng e f).dropSheaf = s.dropSheaf := rfl
@[simp] theorem State.modEng_dropImage (s : State) (e : Nat) (f : Engine → Engine) : (s.modEng e f).dropImage = s.dropImage := rfl
@[simp] theorem State.modEng_areaHigh (s : State) (e : Nat) (f : Engine → Engine) : (s.modEng e f).areaHigh = s.areaHigh := rfl
@[simp] theorem State.modEng_lpRefused (s : State) (e : Nat) (f : Engine → Engine) : (s.modEng e f).lpRefused = s.lpRefused := rfl
@[simp] theorem State.modEng_lpLate (s : State) (e : Nat) (f : Engine → Engine) : (s.modEng e f).lpLate = s.lpLate := rfl
@[simp] theorem State.modEng_lpForced (s : State) (e : Nat) (f : Engine → Engine) : (s.modEng e f).lpForced = s.lpForced := rfl
@[simp] theorem State.modEng_healCopies (s : State) (e : Nat) (f : Engine → Engine) : (s.modEng e f).healCopies = s.healCopies := rfl
@[simp] theorem State.modEng_engines (s : State) (e : Nat) (f : Engine → Engine) : (s.modEng e f).engines = tabSet s.engines e (f (s.eng e)) := rfl
@[simp] theorem State.modEng_descs (s : State) (e : Nat) (f : Engine → Engine) : (s.modEng e f).descs = s.descs := rfl
@[simp] theorem State.modEng_outBlocks (s : State) (e : Nat) (f : Engine → Engine) : (s.modEng e f).outBlocks = s.outBlocks := rfl
@[simp] theorem State.modEng_gran (s : State) (e : Nat) (f : Engine → Engine) : (s.modEng e f).gran = s.gran := rfl
@[simp] theorem State.modEng_kjournal (s : State) (e : Nat) (f : Engine → Engine) : (s.modEng e f).kjournal = s.kjournal := rfl
@[simp] theorem State.modEng_kRecNo (s : State) (e : Nat) (f : Engine → Engine) : (s.modEng e f).kRecNo = s.kRecNo := rfl
@[simp] theorem State.modEng_kstore (s : State) (e : Nat) (f : Engine → Engine) : (s.modEng e f).kstore = s.kstore := rfl
@[simp] theorem State.modEng_kOpen (s : State) (e : Nat) (f : Engine → Engine) : (s.modEng e f).kOpen = s.kOpen := rfl
@[simp] theorem State.modEng_enrols (s : State) (e : Nat) (f : Engine → Engine) : (s.modEng e f).enrols = s.enrols := rfl
@[simp] theorem State.modEng_certs (s : State) (e : Nat) (f : Engine → Engine) : (s.modEng e f).certs = s.certs := rfl
@[simp] theorem State.modEng_att (s : State) (e : Nat) (f : Engine → Engine) : (s.modEng e f).att = s.att := rfl
@[simp] theorem State.modEng_puf (s : State) (e : Nat) (f : Engine → Engine) : (s.modEng e f).puf = s.puf := rfl
@[simp] theorem State.modEng_otp (s : State) (e : Nat) (f : Engine → Engine) : (s.modEng e f).otp = s.otp := rfl
@[simp] theorem State.modEng_stageEn (s : State) (e : Nat) (f : Engine → Engine) : (s.modEng e f).stageEn = s.stageEn := rfl
@[simp] theorem State.modEng_diffCopy (s : State) (e : Nat) (f : Engine → Engine) : (s.modEng e f).diffCopy = s.diffCopy := rfl
@[simp] theorem State.modEng_defConf (s : State) (e : Nat) (f : Engine → Engine) : (s.modEng e f).defConf = s.defConf := rfl
@[simp] theorem State.modEng_brnReady (s : State) (e : Nat) (f : Engine → Engine) : (s.modEng e f).brnReady = s.brnReady := rfl
@[simp] theorem State.modEng_maxPe (s : State) (e : Nat) (f : Engine → Engine) : (s.modEng e f).maxPe = s.maxPe := rfl
@[simp] theorem State.modEng_badBlocks (s : State) (e : Nat) (f : Engine → Engine) : (s.modEng e f).badBlocks = s.badBlocks := rfl
@[simp] theorem State.modEng_manSlots (s : State) (e : Nat) (f : Engine → Engine) : (s.modEng e f).manSlots = s.manSlots := rfl
@[simp] theorem State.modEng_kept (s : State) (e : Nat) (f : Engine → Engine) : (s.modEng e f).kept = s.kept := rfl
@[simp] theorem State.modEng_keptNo (s : State) (e : Nat) (f : Engine → Engine) : (s.modEng e f).keptNo = s.keptNo := rfl
@[simp] theorem State.modEng_ulog (s : State) (e : Nat) (f : Engine → Engine) : (s.modEng e f).ulog = s.ulog := rfl
@[simp] theorem State.modEng_uRecNo (s : State) (e : Nat) (f : Engine → Engine) : (s.modEng e f).uRecNo = s.uRecNo := rfl
@[simp] theorem State.modEng_act (s : State) (e : Nat) (f : Engine → Engine) : (s.modEng e f).act = s.act := rfl
@[simp] theorem State.modEng_wdnMan (s : State) (e : Nat) (f : Engine → Engine) : (s.modEng e f).wdnMan = s.wdnMan := rfl
@[simp] theorem State.modEng_revCopies (s : State) (e : Nat) (f : Engine → Engine) : (s.modEng e f).revCopies = s.revCopies := rfl
@[simp] theorem State.modEng_wslots (s : State) (e : Nat) (f : Engine → Engine) : (s.modEng e f).wslots = s.wslots := rfl
@[simp] theorem State.modEng_depRecs (s : State) (e : Nat) (f : Engine → Engine) : (s.modEng e f).depRecs = s.depRecs := rfl
@[simp] theorem State.modEng_depAsked (s : State) (e : Nat) (f : Engine → Engine) : (s.modEng e f).depAsked = s.depAsked := rfl
@[simp] theorem State.modEng_depSent (s : State) (e : Nat) (f : Engine → Engine) : (s.modEng e f).depSent = s.depSent := rfl
@[simp] theorem State.modEng_retained (s : State) (e : Nat) (f : Engine → Engine) : (s.modEng e f).retained = s.retained := rfl
@[simp] theorem State.modEng_loft (s : State) (e : Nat) (f : Engine → Engine) : (s.modEng e f).loft = s.loft := rfl
@[simp] theorem State.modEng_wwd (s : State) (e : Nat) (f : Engine → Engine) : (s.modEng e f).wwd = s.wwd := rfl
@[simp] theorem State.modEng_lwd (s : State) (e : Nat) (f : Engine → Engine) : (s.modEng e f).lwd = s.lwd := rfl
@[simp] theorem State.modEng_sessions (s : State) (e : Nat) (f : Engine → Engine) : (s.modEng e f).sessions = s.sessions := rfl
@[simp] theorem State.modEng_xng (s : State) (e : Nat) (f : Engine → Engine) : (s.modEng e f).xng = s.xng := rfl
@[simp] theorem State.modEng_svc (s : State) (e : Nat) (f : Engine → Engine) : (s.modEng e f).svc = s.svc := rfl
@[simp] theorem State.modEng_pwr (s : State) (e : Nat) (f : Engine → Engine) : (s.modEng e f).pwr = s.pwr := rfl
@[simp] theorem State.modEng_env (s : State) (e : Nat) (f : Engine → Engine) : (s.modEng e f).env = s.env := rfl
@[simp] theorem State.modEng_shutter (s : State) (e : Nat) (f : Engine → Engine) : (s.modEng e f).shutter = s.shutter := rfl
@[simp] theorem State.modEng_lpStage (s : State) (e : Nat) (f : Engine → Engine) : (s.modEng e f).lpStage = s.lpStage := rfl
@[simp] theorem State.modEng_lpResult (s : State) (e : Nat) (f : Engine → Engine) : (s.modEng e f).lpResult = s.lpResult := rfl

/-! ### setSes -/

@[simp] theorem State.setSes_time (s : State) (x : Nat) (v : Ses) : (s.setSes x v).time = s.time := rfl
@[simp] theorem State.setSes_pending (s : State) (x : Nat) (v : Ses) : (s.setSes x v).pending = s.pending := rfl
@[simp] theorem State.setSes_out (s : State) (x : Nat) (v : Ses) : (s.setSes x v).out = s.out := rfl
@[simp] theorem State.setSes_freeCtr (s : State) (x : Nat) (v : Ses) : (s.setSes x v).freeCtr = s.freeCtr := rfl
@[simp] theorem State.setSes_ports (s : State) (x : Nat) (v : Ses) : (s.setSes x v).ports = s.ports := rfl
@[simp] theorem State.setSes_halls (s : State) (x : Nat) (v : Ses) : (s.setSes x v).halls = s.halls := rfl
@[simp] theorem State.setSes_mirror (s : State) (x : Nat) (v : Ses) : (s.setSes x v).mirror = s.mirror := rfl
@[simp] theorem State.setSes_trs (s : State) (x : Nat) (v : Ses) : (s.setSes x v).trs = s.trs := rfl
@[simp] theorem State.setSes_encs (s : State) (x : Nat) (v : Ses) : (s.setSes x v).encs = s.encs := rfl
@[simp] theorem State.setSes_hdrs (s : State) (x : Nat) (v : Ses) : (s.setSes x v).hdrs = s.hdrs := rfl
@[simp] theorem State.setSes_portErr (s : State) (x : Nat) (v : Ses) : (s.setSes x v).portErr = s.portErr := rfl
@[simp] theorem State.setSes_sel (s : State) (x : Nat) (v : Ses) : (s.setSes x v).sel = s.sel := rfl
@[simp] theorem State.setSes_latch (s : State) (x : Nat) (v : Ses) : (s.setSes x v).latch = s.latch := rfl
@[simp] theorem State.setSes_root (s : State) (x : Nat) (v : Ses) : (s.setSes x v).root = s.root := rfl
@[simp] theorem State.setSes_modState (s : State) (x : Nat) (v : Ses) : (s.setSes x v).modState = s.modState := rfl
@[simp] theorem State.setSes_prevState (s : State) (x : Nat) (v : Ses) : (s.setSes x v).prevState = s.prevState := rfl
@[simp] theorem State.setSes_loftAt (s : State) (x : Nat) (v : Ses) : (s.setSes x v).loftAt = s.loftAt := rfl
@[simp] theorem State.setSes_ledger (s : State) (x : Nat) (v : Ses) : (s.setSes x v).ledger = s.ledger := rfl
@[simp] theorem State.setSes_ledgerNo (s : State) (x : Nat) (v : Ses) : (s.setSes x v).ledgerNo = s.ledgerNo := rfl
@[simp] theorem State.setSes_ledgerFull (s : State) (x : Nat) (v : Ses) : (s.setSes x v).ledgerFull = s.ledgerFull := rfl
@[simp] theorem State.setSes_barnQ (s : State) (x : Nat) (v : Ses) : (s.setSes x v).barnQ = s.barnQ := rfl
@[simp] theorem State.setSes_sealUsed (s : State) (x : Nat) (v : Ses) : (s.setSes x v).sealUsed = s.sealUsed := rfl
@[simp] theorem State.setSes_excLog (s : State) (x : Nat) (v : Ses) : (s.setSes x v).excLog = s.excLog := rfl
@[simp] theorem State.setSes_ledgerKey (s : State) (x : Nat) (v : Ses) : (s.setSes x v).ledgerKey = s.ledgerKey := rfl
@[simp] theorem State.setSes_copies (s : State) (x : Nat) (v : Ses) : (s.setSes x v).copies = s.copies := rfl
@[simp] theorem State.setSes_images (s : State) (x : Nat) (v : Ses) : (s.setSes x v).images = s.images := rfl
@[simp] theorem State.setSes_pkeQ (s : State) (x : Nat) (v : Ses) : (s.setSes x v).pkeQ = s.pkeQ := rfl
@[simp] theorem State.setSes_sheafDocs (s : State) (x : Nat) (v : Ses) : (s.setSes x v).sheafDocs = s.sheafDocs := rfl
@[simp] theorem State.setSes_sheafMs (s : State) (x : Nat) (v : Ses) : (s.setSes x v).sheafMs = s.sheafMs := rfl
@[simp] theorem State.setSes_signCnt (s : State) (x : Nat) (v : Ses) : (s.setSes x v).signCnt = s.signCnt := rfl
@[simp] theorem State.setSes_dropSheaf (s : State) (x : Nat) (v : Ses) : (s.setSes x v).dropSheaf = s.dropSheaf := rfl
@[simp] theorem State.setSes_dropImage (s : State) (x : Nat) (v : Ses) : (s.setSes x v).dropImage = s.dropImage := rfl
@[simp] theorem State.setSes_areaHigh (s : State) (x : Nat) (v : Ses) : (s.setSes x v).areaHigh = s.areaHigh := rfl
@[simp] theorem State.setSes_lpRefused (s : State) (x : Nat) (v : Ses) : (s.setSes x v).lpRefused = s.lpRefused := rfl
@[simp] theorem State.setSes_lpLate (s : State) (x : Nat) (v : Ses) : (s.setSes x v).lpLate = s.lpLate := rfl
@[simp] theorem State.setSes_lpForced (s : State) (x : Nat) (v : Ses) : (s.setSes x v).lpForced = s.lpForced := rfl
@[simp] theorem State.setSes_healCopies (s : State) (x : Nat) (v : Ses) : (s.setSes x v).healCopies = s.healCopies := rfl
@[simp] theorem State.setSes_engines (s : State) (x : Nat) (v : Ses) : (s.setSes x v).engines = s.engines := rfl
@[simp] theorem State.setSes_descs (s : State) (x : Nat) (v : Ses) : (s.setSes x v).descs = s.descs := rfl
@[simp] theorem State.setSes_outBlocks (s : State) (x : Nat) (v : Ses) : (s.setSes x v).outBlocks = s.outBlocks := rfl
@[simp] theorem State.setSes_gran (s : State) (x : Nat) (v : Ses) : (s.setSes x v).gran = s.gran := rfl
@[simp] theorem State.setSes_kjournal (s : State) (x : Nat) (v : Ses) : (s.setSes x v).kjournal = s.kjournal := rfl
@[simp] theorem State.setSes_kRecNo (s : State) (x : Nat) (v : Ses) : (s.setSes x v).kRecNo = s.kRecNo := rfl
@[simp] theorem State.setSes_kstore (s : State) (x : Nat) (v : Ses) : (s.setSes x v).kstore = s.kstore := rfl
@[simp] theorem State.setSes_kOpen (s : State) (x : Nat) (v : Ses) : (s.setSes x v).kOpen = s.kOpen := rfl
@[simp] theorem State.setSes_enrols (s : State) (x : Nat) (v : Ses) : (s.setSes x v).enrols = s.enrols := rfl
@[simp] theorem State.setSes_certs (s : State) (x : Nat) (v : Ses) : (s.setSes x v).certs = s.certs := rfl
@[simp] theorem State.setSes_att (s : State) (x : Nat) (v : Ses) : (s.setSes x v).att = s.att := rfl
@[simp] theorem State.setSes_puf (s : State) (x : Nat) (v : Ses) : (s.setSes x v).puf = s.puf := rfl
@[simp] theorem State.setSes_otp (s : State) (x : Nat) (v : Ses) : (s.setSes x v).otp = s.otp := rfl
@[simp] theorem State.setSes_stageEn (s : State) (x : Nat) (v : Ses) : (s.setSes x v).stageEn = s.stageEn := rfl
@[simp] theorem State.setSes_diffCopy (s : State) (x : Nat) (v : Ses) : (s.setSes x v).diffCopy = s.diffCopy := rfl
@[simp] theorem State.setSes_defConf (s : State) (x : Nat) (v : Ses) : (s.setSes x v).defConf = s.defConf := rfl
@[simp] theorem State.setSes_brnReady (s : State) (x : Nat) (v : Ses) : (s.setSes x v).brnReady = s.brnReady := rfl
@[simp] theorem State.setSes_maxPe (s : State) (x : Nat) (v : Ses) : (s.setSes x v).maxPe = s.maxPe := rfl
@[simp] theorem State.setSes_badBlocks (s : State) (x : Nat) (v : Ses) : (s.setSes x v).badBlocks = s.badBlocks := rfl
@[simp] theorem State.setSes_manSlots (s : State) (x : Nat) (v : Ses) : (s.setSes x v).manSlots = s.manSlots := rfl
@[simp] theorem State.setSes_kept (s : State) (x : Nat) (v : Ses) : (s.setSes x v).kept = s.kept := rfl
@[simp] theorem State.setSes_keptNo (s : State) (x : Nat) (v : Ses) : (s.setSes x v).keptNo = s.keptNo := rfl
@[simp] theorem State.setSes_ulog (s : State) (x : Nat) (v : Ses) : (s.setSes x v).ulog = s.ulog := rfl
@[simp] theorem State.setSes_uRecNo (s : State) (x : Nat) (v : Ses) : (s.setSes x v).uRecNo = s.uRecNo := rfl
@[simp] theorem State.setSes_act (s : State) (x : Nat) (v : Ses) : (s.setSes x v).act = s.act := rfl
@[simp] theorem State.setSes_wdnMan (s : State) (x : Nat) (v : Ses) : (s.setSes x v).wdnMan = s.wdnMan := rfl
@[simp] theorem State.setSes_revCopies (s : State) (x : Nat) (v : Ses) : (s.setSes x v).revCopies = s.revCopies := rfl
@[simp] theorem State.setSes_wslots (s : State) (x : Nat) (v : Ses) : (s.setSes x v).wslots = s.wslots := rfl
@[simp] theorem State.setSes_depRecs (s : State) (x : Nat) (v : Ses) : (s.setSes x v).depRecs = s.depRecs := rfl
@[simp] theorem State.setSes_depAsked (s : State) (x : Nat) (v : Ses) : (s.setSes x v).depAsked = s.depAsked := rfl
@[simp] theorem State.setSes_depSent (s : State) (x : Nat) (v : Ses) : (s.setSes x v).depSent = s.depSent := rfl
@[simp] theorem State.setSes_retained (s : State) (x : Nat) (v : Ses) : (s.setSes x v).retained = s.retained := rfl
@[simp] theorem State.setSes_loft (s : State) (x : Nat) (v : Ses) : (s.setSes x v).loft = s.loft := rfl
@[simp] theorem State.setSes_wwd (s : State) (x : Nat) (v : Ses) : (s.setSes x v).wwd = s.wwd := rfl
@[simp] theorem State.setSes_lwd (s : State) (x : Nat) (v : Ses) : (s.setSes x v).lwd = s.lwd := rfl
@[simp] theorem State.setSes_sessions (s : State) (x : Nat) (v : Ses) : (s.setSes x v).sessions = tabSet s.sessions x v := rfl
@[simp] theorem State.setSes_xng (s : State) (x : Nat) (v : Ses) : (s.setSes x v).xng = s.xng := rfl
@[simp] theorem State.setSes_svc (s : State) (x : Nat) (v : Ses) : (s.setSes x v).svc = s.svc := rfl
@[simp] theorem State.setSes_pwr (s : State) (x : Nat) (v : Ses) : (s.setSes x v).pwr = s.pwr := rfl
@[simp] theorem State.setSes_env (s : State) (x : Nat) (v : Ses) : (s.setSes x v).env = s.env := rfl
@[simp] theorem State.setSes_shutter (s : State) (x : Nat) (v : Ses) : (s.setSes x v).shutter = s.shutter := rfl
@[simp] theorem State.setSes_lpStage (s : State) (x : Nat) (v : Ses) : (s.setSes x v).lpStage = s.lpStage := rfl
@[simp] theorem State.setSes_lpResult (s : State) (x : Nat) (v : Ses) : (s.setSes x v).lpResult = s.lpResult := rfl

/-! ### modSes -/

@[simp] theorem State.modSes_time (s : State) (x : Nat) (f : Ses → Ses) : (s.modSes x f).time = s.time := rfl
@[simp] theorem State.modSes_pending (s : State) (x : Nat) (f : Ses → Ses) : (s.modSes x f).pending = s.pending := rfl
@[simp] theorem State.modSes_out (s : State) (x : Nat) (f : Ses → Ses) : (s.modSes x f).out = s.out := rfl
@[simp] theorem State.modSes_freeCtr (s : State) (x : Nat) (f : Ses → Ses) : (s.modSes x f).freeCtr = s.freeCtr := rfl
@[simp] theorem State.modSes_ports (s : State) (x : Nat) (f : Ses → Ses) : (s.modSes x f).ports = s.ports := rfl
@[simp] theorem State.modSes_halls (s : State) (x : Nat) (f : Ses → Ses) : (s.modSes x f).halls = s.halls := rfl
@[simp] theorem State.modSes_mirror (s : State) (x : Nat) (f : Ses → Ses) : (s.modSes x f).mirror = s.mirror := rfl
@[simp] theorem State.modSes_trs (s : State) (x : Nat) (f : Ses → Ses) : (s.modSes x f).trs = s.trs := rfl
@[simp] theorem State.modSes_encs (s : State) (x : Nat) (f : Ses → Ses) : (s.modSes x f).encs = s.encs := rfl
@[simp] theorem State.modSes_hdrs (s : State) (x : Nat) (f : Ses → Ses) : (s.modSes x f).hdrs = s.hdrs := rfl
@[simp] theorem State.modSes_portErr (s : State) (x : Nat) (f : Ses → Ses) : (s.modSes x f).portErr = s.portErr := rfl
@[simp] theorem State.modSes_sel (s : State) (x : Nat) (f : Ses → Ses) : (s.modSes x f).sel = s.sel := rfl
@[simp] theorem State.modSes_latch (s : State) (x : Nat) (f : Ses → Ses) : (s.modSes x f).latch = s.latch := rfl
@[simp] theorem State.modSes_root (s : State) (x : Nat) (f : Ses → Ses) : (s.modSes x f).root = s.root := rfl
@[simp] theorem State.modSes_modState (s : State) (x : Nat) (f : Ses → Ses) : (s.modSes x f).modState = s.modState := rfl
@[simp] theorem State.modSes_prevState (s : State) (x : Nat) (f : Ses → Ses) : (s.modSes x f).prevState = s.prevState := rfl
@[simp] theorem State.modSes_loftAt (s : State) (x : Nat) (f : Ses → Ses) : (s.modSes x f).loftAt = s.loftAt := rfl
@[simp] theorem State.modSes_ledger (s : State) (x : Nat) (f : Ses → Ses) : (s.modSes x f).ledger = s.ledger := rfl
@[simp] theorem State.modSes_ledgerNo (s : State) (x : Nat) (f : Ses → Ses) : (s.modSes x f).ledgerNo = s.ledgerNo := rfl
@[simp] theorem State.modSes_ledgerFull (s : State) (x : Nat) (f : Ses → Ses) : (s.modSes x f).ledgerFull = s.ledgerFull := rfl
@[simp] theorem State.modSes_barnQ (s : State) (x : Nat) (f : Ses → Ses) : (s.modSes x f).barnQ = s.barnQ := rfl
@[simp] theorem State.modSes_sealUsed (s : State) (x : Nat) (f : Ses → Ses) : (s.modSes x f).sealUsed = s.sealUsed := rfl
@[simp] theorem State.modSes_excLog (s : State) (x : Nat) (f : Ses → Ses) : (s.modSes x f).excLog = s.excLog := rfl
@[simp] theorem State.modSes_ledgerKey (s : State) (x : Nat) (f : Ses → Ses) : (s.modSes x f).ledgerKey = s.ledgerKey := rfl
@[simp] theorem State.modSes_copies (s : State) (x : Nat) (f : Ses → Ses) : (s.modSes x f).copies = s.copies := rfl
@[simp] theorem State.modSes_images (s : State) (x : Nat) (f : Ses → Ses) : (s.modSes x f).images = s.images := rfl
@[simp] theorem State.modSes_pkeQ (s : State) (x : Nat) (f : Ses → Ses) : (s.modSes x f).pkeQ = s.pkeQ := rfl
@[simp] theorem State.modSes_sheafDocs (s : State) (x : Nat) (f : Ses → Ses) : (s.modSes x f).sheafDocs = s.sheafDocs := rfl
@[simp] theorem State.modSes_sheafMs (s : State) (x : Nat) (f : Ses → Ses) : (s.modSes x f).sheafMs = s.sheafMs := rfl
@[simp] theorem State.modSes_signCnt (s : State) (x : Nat) (f : Ses → Ses) : (s.modSes x f).signCnt = s.signCnt := rfl
@[simp] theorem State.modSes_dropSheaf (s : State) (x : Nat) (f : Ses → Ses) : (s.modSes x f).dropSheaf = s.dropSheaf := rfl
@[simp] theorem State.modSes_dropImage (s : State) (x : Nat) (f : Ses → Ses) : (s.modSes x f).dropImage = s.dropImage := rfl
@[simp] theorem State.modSes_areaHigh (s : State) (x : Nat) (f : Ses → Ses) : (s.modSes x f).areaHigh = s.areaHigh := rfl
@[simp] theorem State.modSes_lpRefused (s : State) (x : Nat) (f : Ses → Ses) : (s.modSes x f).lpRefused = s.lpRefused := rfl
@[simp] theorem State.modSes_lpLate (s : State) (x : Nat) (f : Ses → Ses) : (s.modSes x f).lpLate = s.lpLate := rfl
@[simp] theorem State.modSes_lpForced (s : State) (x : Nat) (f : Ses → Ses) : (s.modSes x f).lpForced = s.lpForced := rfl
@[simp] theorem State.modSes_healCopies (s : State) (x : Nat) (f : Ses → Ses) : (s.modSes x f).healCopies = s.healCopies := rfl
@[simp] theorem State.modSes_engines (s : State) (x : Nat) (f : Ses → Ses) : (s.modSes x f).engines = s.engines := rfl
@[simp] theorem State.modSes_descs (s : State) (x : Nat) (f : Ses → Ses) : (s.modSes x f).descs = s.descs := rfl
@[simp] theorem State.modSes_outBlocks (s : State) (x : Nat) (f : Ses → Ses) : (s.modSes x f).outBlocks = s.outBlocks := rfl
@[simp] theorem State.modSes_gran (s : State) (x : Nat) (f : Ses → Ses) : (s.modSes x f).gran = s.gran := rfl
@[simp] theorem State.modSes_kjournal (s : State) (x : Nat) (f : Ses → Ses) : (s.modSes x f).kjournal = s.kjournal := rfl
@[simp] theorem State.modSes_kRecNo (s : State) (x : Nat) (f : Ses → Ses) : (s.modSes x f).kRecNo = s.kRecNo := rfl
@[simp] theorem State.modSes_kstore (s : State) (x : Nat) (f : Ses → Ses) : (s.modSes x f).kstore = s.kstore := rfl
@[simp] theorem State.modSes_kOpen (s : State) (x : Nat) (f : Ses → Ses) : (s.modSes x f).kOpen = s.kOpen := rfl
@[simp] theorem State.modSes_enrols (s : State) (x : Nat) (f : Ses → Ses) : (s.modSes x f).enrols = s.enrols := rfl
@[simp] theorem State.modSes_certs (s : State) (x : Nat) (f : Ses → Ses) : (s.modSes x f).certs = s.certs := rfl
@[simp] theorem State.modSes_att (s : State) (x : Nat) (f : Ses → Ses) : (s.modSes x f).att = s.att := rfl
@[simp] theorem State.modSes_puf (s : State) (x : Nat) (f : Ses → Ses) : (s.modSes x f).puf = s.puf := rfl
@[simp] theorem State.modSes_otp (s : State) (x : Nat) (f : Ses → Ses) : (s.modSes x f).otp = s.otp := rfl
@[simp] theorem State.modSes_stageEn (s : State) (x : Nat) (f : Ses → Ses) : (s.modSes x f).stageEn = s.stageEn := rfl
@[simp] theorem State.modSes_diffCopy (s : State) (x : Nat) (f : Ses → Ses) : (s.modSes x f).diffCopy = s.diffCopy := rfl
@[simp] theorem State.modSes_defConf (s : State) (x : Nat) (f : Ses → Ses) : (s.modSes x f).defConf = s.defConf := rfl
@[simp] theorem State.modSes_brnReady (s : State) (x : Nat) (f : Ses → Ses) : (s.modSes x f).brnReady = s.brnReady := rfl
@[simp] theorem State.modSes_maxPe (s : State) (x : Nat) (f : Ses → Ses) : (s.modSes x f).maxPe = s.maxPe := rfl
@[simp] theorem State.modSes_badBlocks (s : State) (x : Nat) (f : Ses → Ses) : (s.modSes x f).badBlocks = s.badBlocks := rfl
@[simp] theorem State.modSes_manSlots (s : State) (x : Nat) (f : Ses → Ses) : (s.modSes x f).manSlots = s.manSlots := rfl
@[simp] theorem State.modSes_kept (s : State) (x : Nat) (f : Ses → Ses) : (s.modSes x f).kept = s.kept := rfl
@[simp] theorem State.modSes_keptNo (s : State) (x : Nat) (f : Ses → Ses) : (s.modSes x f).keptNo = s.keptNo := rfl
@[simp] theorem State.modSes_ulog (s : State) (x : Nat) (f : Ses → Ses) : (s.modSes x f).ulog = s.ulog := rfl
@[simp] theorem State.modSes_uRecNo (s : State) (x : Nat) (f : Ses → Ses) : (s.modSes x f).uRecNo = s.uRecNo := rfl
@[simp] theorem State.modSes_act (s : State) (x : Nat) (f : Ses → Ses) : (s.modSes x f).act = s.act := rfl
@[simp] theorem State.modSes_wdnMan (s : State) (x : Nat) (f : Ses → Ses) : (s.modSes x f).wdnMan = s.wdnMan := rfl
@[simp] theorem State.modSes_revCopies (s : State) (x : Nat) (f : Ses → Ses) : (s.modSes x f).revCopies = s.revCopies := rfl
@[simp] theorem State.modSes_wslots (s : State) (x : Nat) (f : Ses → Ses) : (s.modSes x f).wslots = s.wslots := rfl
@[simp] theorem State.modSes_depRecs (s : State) (x : Nat) (f : Ses → Ses) : (s.modSes x f).depRecs = s.depRecs := rfl
@[simp] theorem State.modSes_depAsked (s : State) (x : Nat) (f : Ses → Ses) : (s.modSes x f).depAsked = s.depAsked := rfl
@[simp] theorem State.modSes_depSent (s : State) (x : Nat) (f : Ses → Ses) : (s.modSes x f).depSent = s.depSent := rfl
@[simp] theorem State.modSes_retained (s : State) (x : Nat) (f : Ses → Ses) : (s.modSes x f).retained = s.retained := rfl
@[simp] theorem State.modSes_loft (s : State) (x : Nat) (f : Ses → Ses) : (s.modSes x f).loft = s.loft := rfl
@[simp] theorem State.modSes_wwd (s : State) (x : Nat) (f : Ses → Ses) : (s.modSes x f).wwd = s.wwd := rfl
@[simp] theorem State.modSes_lwd (s : State) (x : Nat) (f : Ses → Ses) : (s.modSes x f).lwd = s.lwd := rfl
@[simp] theorem State.modSes_sessions (s : State) (x : Nat) (f : Ses → Ses) : (s.modSes x f).sessions = tabSet s.sessions x (f (s.ses x)) := rfl
@[simp] theorem State.modSes_xng (s : State) (x : Nat) (f : Ses → Ses) : (s.modSes x f).xng = s.xng := rfl
@[simp] theorem State.modSes_svc (s : State) (x : Nat) (f : Ses → Ses) : (s.modSes x f).svc = s.svc := rfl
@[simp] theorem State.modSes_pwr (s : State) (x : Nat) (f : Ses → Ses) : (s.modSes x f).pwr = s.pwr := rfl
@[simp] theorem State.modSes_env (s : State) (x : Nat) (f : Ses → Ses) : (s.modSes x f).env = s.env := rfl
@[simp] theorem State.modSes_shutter (s : State) (x : Nat) (f : Ses → Ses) : (s.modSes x f).shutter = s.shutter := rfl
@[simp] theorem State.modSes_lpStage (s : State) (x : Nat) (f : Ses → Ses) : (s.modSes x f).lpStage = s.lpStage := rfl
@[simp] theorem State.modSes_lpResult (s : State) (x : Nat) (f : Ses → Ses) : (s.modSes x f).lpResult = s.lpResult := rfl

/-! ### setSel -/

@[simp] theorem State.setSel_time (s : State) (page off : Nat) (r : Requester) (v : Nat) : (s.setSel page off r v).time = s.time := rfl
@[simp] theorem State.setSel_pending (s : State) (page off : Nat) (r : Requester) (v : Nat) : (s.setSel page off r v).pending = s.pending := rfl
@[simp] theorem State.setSel_out (s : State) (page off : Nat) (r : Requester) (v : Nat) : (s.setSel page off r v).out = s.out := rfl
@[simp] theorem State.setSel_freeCtr (s : State) (page off : Nat) (r : Requester) (v : Nat) : (s.setSel page off r v).freeCtr = s.freeCtr := rfl
@[simp] theorem State.setSel_ports (s : State) (page off : Nat) (r : Requester) (v : Nat) : (s.setSel page off r v).ports = s.ports := rfl
@[simp] theorem State.setSel_halls (s : State) (page off : Nat) (r : Requester) (v : Nat) : (s.setSel page off r v).halls = s.halls := rfl
@[simp] theorem State.setSel_mirror (s : State) (page off : Nat) (r : Requester) (v : Nat) : (s.setSel page off r v).mirror = s.mirror := rfl
@[simp] theorem State.setSel_trs (s : State) (page off : Nat) (r : Requester) (v : Nat) : (s.setSel page off r v).trs = s.trs := rfl
@[simp] theorem State.setSel_encs (s : State) (page off : Nat) (r : Requester) (v : Nat) : (s.setSel page off r v).encs = s.encs := rfl
@[simp] theorem State.setSel_hdrs (s : State) (page off : Nat) (r : Requester) (v : Nat) : (s.setSel page off r v).hdrs = s.hdrs := rfl
@[simp] theorem State.setSel_portErr (s : State) (page off : Nat) (r : Requester) (v : Nat) : (s.setSel page off r v).portErr = s.portErr := rfl
@[simp] theorem State.setSel_sel (s : State) (page off : Nat) (r : Requester) (v : Nat) : (s.setSel page off r v).sel = tabSet s.sel (selKey page off (reqNum r)) v := rfl
@[simp] theorem State.setSel_latch (s : State) (page off : Nat) (r : Requester) (v : Nat) : (s.setSel page off r v).latch = s.latch := rfl
@[simp] theorem State.setSel_root (s : State) (page off : Nat) (r : Requester) (v : Nat) : (s.setSel page off r v).root = s.root := rfl
@[simp] theorem State.setSel_modState (s : State) (page off : Nat) (r : Requester) (v : Nat) : (s.setSel page off r v).modState = s.modState := rfl
@[simp] theorem State.setSel_prevState (s : State) (page off : Nat) (r : Requester) (v : Nat) : (s.setSel page off r v).prevState = s.prevState := rfl
@[simp] theorem State.setSel_loftAt (s : State) (page off : Nat) (r : Requester) (v : Nat) : (s.setSel page off r v).loftAt = s.loftAt := rfl
@[simp] theorem State.setSel_ledger (s : State) (page off : Nat) (r : Requester) (v : Nat) : (s.setSel page off r v).ledger = s.ledger := rfl
@[simp] theorem State.setSel_ledgerNo (s : State) (page off : Nat) (r : Requester) (v : Nat) : (s.setSel page off r v).ledgerNo = s.ledgerNo := rfl
@[simp] theorem State.setSel_ledgerFull (s : State) (page off : Nat) (r : Requester) (v : Nat) : (s.setSel page off r v).ledgerFull = s.ledgerFull := rfl
@[simp] theorem State.setSel_barnQ (s : State) (page off : Nat) (r : Requester) (v : Nat) : (s.setSel page off r v).barnQ = s.barnQ := rfl
@[simp] theorem State.setSel_sealUsed (s : State) (page off : Nat) (r : Requester) (v : Nat) : (s.setSel page off r v).sealUsed = s.sealUsed := rfl
@[simp] theorem State.setSel_excLog (s : State) (page off : Nat) (r : Requester) (v : Nat) : (s.setSel page off r v).excLog = s.excLog := rfl
@[simp] theorem State.setSel_ledgerKey (s : State) (page off : Nat) (r : Requester) (v : Nat) : (s.setSel page off r v).ledgerKey = s.ledgerKey := rfl
@[simp] theorem State.setSel_copies (s : State) (page off : Nat) (r : Requester) (v : Nat) : (s.setSel page off r v).copies = s.copies := rfl
@[simp] theorem State.setSel_images (s : State) (page off : Nat) (r : Requester) (v : Nat) : (s.setSel page off r v).images = s.images := rfl
@[simp] theorem State.setSel_pkeQ (s : State) (page off : Nat) (r : Requester) (v : Nat) : (s.setSel page off r v).pkeQ = s.pkeQ := rfl
@[simp] theorem State.setSel_sheafDocs (s : State) (page off : Nat) (r : Requester) (v : Nat) : (s.setSel page off r v).sheafDocs = s.sheafDocs := rfl
@[simp] theorem State.setSel_sheafMs (s : State) (page off : Nat) (r : Requester) (v : Nat) : (s.setSel page off r v).sheafMs = s.sheafMs := rfl
@[simp] theorem State.setSel_signCnt (s : State) (page off : Nat) (r : Requester) (v : Nat) : (s.setSel page off r v).signCnt = s.signCnt := rfl
@[simp] theorem State.setSel_dropSheaf (s : State) (page off : Nat) (r : Requester) (v : Nat) : (s.setSel page off r v).dropSheaf = s.dropSheaf := rfl
@[simp] theorem State.setSel_dropImage (s : State) (page off : Nat) (r : Requester) (v : Nat) : (s.setSel page off r v).dropImage = s.dropImage := rfl
@[simp] theorem State.setSel_areaHigh (s : State) (page off : Nat) (r : Requester) (v : Nat) : (s.setSel page off r v).areaHigh = s.areaHigh := rfl
@[simp] theorem State.setSel_lpRefused (s : State) (page off : Nat) (r : Requester) (v : Nat) : (s.setSel page off r v).lpRefused = s.lpRefused := rfl
@[simp] theorem State.setSel_lpLate (s : State) (page off : Nat) (r : Requester) (v : Nat) : (s.setSel page off r v).lpLate = s.lpLate := rfl
@[simp] theorem State.setSel_lpForced (s : State) (page off : Nat) (r : Requester) (v : Nat) : (s.setSel page off r v).lpForced = s.lpForced := rfl
@[simp] theorem State.setSel_healCopies (s : State) (page off : Nat) (r : Requester) (v : Nat) : (s.setSel page off r v).healCopies = s.healCopies := rfl
@[simp] theorem State.setSel_engines (s : State) (page off : Nat) (r : Requester) (v : Nat) : (s.setSel page off r v).engines = s.engines := rfl
@[simp] theorem State.setSel_descs (s : State) (page off : Nat) (r : Requester) (v : Nat) : (s.setSel page off r v).descs = s.descs := rfl
@[simp] theorem State.setSel_outBlocks (s : State) (page off : Nat) (r : Requester) (v : Nat) : (s.setSel page off r v).outBlocks = s.outBlocks := rfl
@[simp] theorem State.setSel_gran (s : State) (page off : Nat) (r : Requester) (v : Nat) : (s.setSel page off r v).gran = s.gran := rfl
@[simp] theorem State.setSel_kjournal (s : State) (page off : Nat) (r : Requester) (v : Nat) : (s.setSel page off r v).kjournal = s.kjournal := rfl
@[simp] theorem State.setSel_kRecNo (s : State) (page off : Nat) (r : Requester) (v : Nat) : (s.setSel page off r v).kRecNo = s.kRecNo := rfl
@[simp] theorem State.setSel_kstore (s : State) (page off : Nat) (r : Requester) (v : Nat) : (s.setSel page off r v).kstore = s.kstore := rfl
@[simp] theorem State.setSel_kOpen (s : State) (page off : Nat) (r : Requester) (v : Nat) : (s.setSel page off r v).kOpen = s.kOpen := rfl
@[simp] theorem State.setSel_enrols (s : State) (page off : Nat) (r : Requester) (v : Nat) : (s.setSel page off r v).enrols = s.enrols := rfl
@[simp] theorem State.setSel_certs (s : State) (page off : Nat) (r : Requester) (v : Nat) : (s.setSel page off r v).certs = s.certs := rfl
@[simp] theorem State.setSel_att (s : State) (page off : Nat) (r : Requester) (v : Nat) : (s.setSel page off r v).att = s.att := rfl
@[simp] theorem State.setSel_puf (s : State) (page off : Nat) (r : Requester) (v : Nat) : (s.setSel page off r v).puf = s.puf := rfl
@[simp] theorem State.setSel_otp (s : State) (page off : Nat) (r : Requester) (v : Nat) : (s.setSel page off r v).otp = s.otp := rfl
@[simp] theorem State.setSel_stageEn (s : State) (page off : Nat) (r : Requester) (v : Nat) : (s.setSel page off r v).stageEn = s.stageEn := rfl
@[simp] theorem State.setSel_diffCopy (s : State) (page off : Nat) (r : Requester) (v : Nat) : (s.setSel page off r v).diffCopy = s.diffCopy := rfl
@[simp] theorem State.setSel_defConf (s : State) (page off : Nat) (r : Requester) (v : Nat) : (s.setSel page off r v).defConf = s.defConf := rfl
@[simp] theorem State.setSel_brnReady (s : State) (page off : Nat) (r : Requester) (v : Nat) : (s.setSel page off r v).brnReady = s.brnReady := rfl
@[simp] theorem State.setSel_maxPe (s : State) (page off : Nat) (r : Requester) (v : Nat) : (s.setSel page off r v).maxPe = s.maxPe := rfl
@[simp] theorem State.setSel_badBlocks (s : State) (page off : Nat) (r : Requester) (v : Nat) : (s.setSel page off r v).badBlocks = s.badBlocks := rfl
@[simp] theorem State.setSel_manSlots (s : State) (page off : Nat) (r : Requester) (v : Nat) : (s.setSel page off r v).manSlots = s.manSlots := rfl
@[simp] theorem State.setSel_kept (s : State) (page off : Nat) (r : Requester) (v : Nat) : (s.setSel page off r v).kept = s.kept := rfl
@[simp] theorem State.setSel_keptNo (s : State) (page off : Nat) (r : Requester) (v : Nat) : (s.setSel page off r v).keptNo = s.keptNo := rfl
@[simp] theorem State.setSel_ulog (s : State) (page off : Nat) (r : Requester) (v : Nat) : (s.setSel page off r v).ulog = s.ulog := rfl
@[simp] theorem State.setSel_uRecNo (s : State) (page off : Nat) (r : Requester) (v : Nat) : (s.setSel page off r v).uRecNo = s.uRecNo := rfl
@[simp] theorem State.setSel_act (s : State) (page off : Nat) (r : Requester) (v : Nat) : (s.setSel page off r v).act = s.act := rfl
@[simp] theorem State.setSel_wdnMan (s : State) (page off : Nat) (r : Requester) (v : Nat) : (s.setSel page off r v).wdnMan = s.wdnMan := rfl
@[simp] theorem State.setSel_revCopies (s : State) (page off : Nat) (r : Requester) (v : Nat) : (s.setSel page off r v).revCopies = s.revCopies := rfl
@[simp] theorem State.setSel_wslots (s : State) (page off : Nat) (r : Requester) (v : Nat) : (s.setSel page off r v).wslots = s.wslots := rfl
@[simp] theorem State.setSel_depRecs (s : State) (page off : Nat) (r : Requester) (v : Nat) : (s.setSel page off r v).depRecs = s.depRecs := rfl
@[simp] theorem State.setSel_depAsked (s : State) (page off : Nat) (r : Requester) (v : Nat) : (s.setSel page off r v).depAsked = s.depAsked := rfl
@[simp] theorem State.setSel_depSent (s : State) (page off : Nat) (r : Requester) (v : Nat) : (s.setSel page off r v).depSent = s.depSent := rfl
@[simp] theorem State.setSel_retained (s : State) (page off : Nat) (r : Requester) (v : Nat) : (s.setSel page off r v).retained = s.retained := rfl
@[simp] theorem State.setSel_loft (s : State) (page off : Nat) (r : Requester) (v : Nat) : (s.setSel page off r v).loft = s.loft := rfl
@[simp] theorem State.setSel_wwd (s : State) (page off : Nat) (r : Requester) (v : Nat) : (s.setSel page off r v).wwd = s.wwd := rfl
@[simp] theorem State.setSel_lwd (s : State) (page off : Nat) (r : Requester) (v : Nat) : (s.setSel page off r v).lwd = s.lwd := rfl
@[simp] theorem State.setSel_sessions (s : State) (page off : Nat) (r : Requester) (v : Nat) : (s.setSel page off r v).sessions = s.sessions := rfl
@[simp] theorem State.setSel_xng (s : State) (page off : Nat) (r : Requester) (v : Nat) : (s.setSel page off r v).xng = s.xng := rfl
@[simp] theorem State.setSel_svc (s : State) (page off : Nat) (r : Requester) (v : Nat) : (s.setSel page off r v).svc = s.svc := rfl
@[simp] theorem State.setSel_pwr (s : State) (page off : Nat) (r : Requester) (v : Nat) : (s.setSel page off r v).pwr = s.pwr := rfl
@[simp] theorem State.setSel_env (s : State) (page off : Nat) (r : Requester) (v : Nat) : (s.setSel page off r v).env = s.env := rfl
@[simp] theorem State.setSel_shutter (s : State) (page off : Nat) (r : Requester) (v : Nat) : (s.setSel page off r v).shutter = s.shutter := rfl
@[simp] theorem State.setSel_lpStage (s : State) (page off : Nat) (r : Requester) (v : Nat) : (s.setSel page off r v).lpStage = s.lpStage := rfl
@[simp] theorem State.setSel_lpResult (s : State) (page off : Nat) (r : Requester) (v : Nat) : (s.setSel page off r v).lpResult = s.lpResult := rfl

/-! ### setLatch -/

@[simp] theorem State.setLatch_time (s : State) (page off : Nat) (r : Requester) (v : Nat) : (s.setLatch page off r v).time = s.time := rfl
@[simp] theorem State.setLatch_pending (s : State) (page off : Nat) (r : Requester) (v : Nat) : (s.setLatch page off r v).pending = s.pending := rfl
@[simp] theorem State.setLatch_out (s : State) (page off : Nat) (r : Requester) (v : Nat) : (s.setLatch page off r v).out = s.out := rfl
@[simp] theorem State.setLatch_freeCtr (s : State) (page off : Nat) (r : Requester) (v : Nat) : (s.setLatch page off r v).freeCtr = s.freeCtr := rfl
@[simp] theorem State.setLatch_ports (s : State) (page off : Nat) (r : Requester) (v : Nat) : (s.setLatch page off r v).ports = s.ports := rfl
@[simp] theorem State.setLatch_halls (s : State) (page off : Nat) (r : Requester) (v : Nat) : (s.setLatch page off r v).halls = s.halls := rfl
@[simp] theorem State.setLatch_mirror (s : State) (page off : Nat) (r : Requester) (v : Nat) : (s.setLatch page off r v).mirror = s.mirror := rfl
@[simp] theorem State.setLatch_trs (s : State) (page off : Nat) (r : Requester) (v : Nat) : (s.setLatch page off r v).trs = s.trs := rfl
@[simp] theorem State.setLatch_encs (s : State) (page off : Nat) (r : Requester) (v : Nat) : (s.setLatch page off r v).encs = s.encs := rfl
@[simp] theorem State.setLatch_hdrs (s : State) (page off : Nat) (r : Requester) (v : Nat) : (s.setLatch page off r v).hdrs = s.hdrs := rfl
@[simp] theorem State.setLatch_portErr (s : State) (page off : Nat) (r : Requester) (v : Nat) : (s.setLatch page off r v).portErr = s.portErr := rfl
@[simp] theorem State.setLatch_sel (s : State) (page off : Nat) (r : Requester) (v : Nat) : (s.setLatch page off r v).sel = s.sel := rfl
@[simp] theorem State.setLatch_latch (s : State) (page off : Nat) (r : Requester) (v : Nat) : (s.setLatch page off r v).latch = tabSet s.latch (selKey page off (reqNum r)) v := rfl
@[simp] theorem State.setLatch_root (s : State) (page off : Nat) (r : Requester) (v : Nat) : (s.setLatch page off r v).root = s.root := rfl
@[simp] theorem State.setLatch_modState (s : State) (page off : Nat) (r : Requester) (v : Nat) : (s.setLatch page off r v).modState = s.modState := rfl
@[simp] theorem State.setLatch_prevState (s : State) (page off : Nat) (r : Requester) (v : Nat) : (s.setLatch page off r v).prevState = s.prevState := rfl
@[simp] theorem State.setLatch_loftAt (s : State) (page off : Nat) (r : Requester) (v : Nat) : (s.setLatch page off r v).loftAt = s.loftAt := rfl
@[simp] theorem State.setLatch_ledger (s : State) (page off : Nat) (r : Requester) (v : Nat) : (s.setLatch page off r v).ledger = s.ledger := rfl
@[simp] theorem State.setLatch_ledgerNo (s : State) (page off : Nat) (r : Requester) (v : Nat) : (s.setLatch page off r v).ledgerNo = s.ledgerNo := rfl
@[simp] theorem State.setLatch_ledgerFull (s : State) (page off : Nat) (r : Requester) (v : Nat) : (s.setLatch page off r v).ledgerFull = s.ledgerFull := rfl
@[simp] theorem State.setLatch_barnQ (s : State) (page off : Nat) (r : Requester) (v : Nat) : (s.setLatch page off r v).barnQ = s.barnQ := rfl
@[simp] theorem State.setLatch_sealUsed (s : State) (page off : Nat) (r : Requester) (v : Nat) : (s.setLatch page off r v).sealUsed = s.sealUsed := rfl
@[simp] theorem State.setLatch_excLog (s : State) (page off : Nat) (r : Requester) (v : Nat) : (s.setLatch page off r v).excLog = s.excLog := rfl
@[simp] theorem State.setLatch_ledgerKey (s : State) (page off : Nat) (r : Requester) (v : Nat) : (s.setLatch page off r v).ledgerKey = s.ledgerKey := rfl
@[simp] theorem State.setLatch_copies (s : State) (page off : Nat) (r : Requester) (v : Nat) : (s.setLatch page off r v).copies = s.copies := rfl
@[simp] theorem State.setLatch_images (s : State) (page off : Nat) (r : Requester) (v : Nat) : (s.setLatch page off r v).images = s.images := rfl
@[simp] theorem State.setLatch_pkeQ (s : State) (page off : Nat) (r : Requester) (v : Nat) : (s.setLatch page off r v).pkeQ = s.pkeQ := rfl
@[simp] theorem State.setLatch_sheafDocs (s : State) (page off : Nat) (r : Requester) (v : Nat) : (s.setLatch page off r v).sheafDocs = s.sheafDocs := rfl
@[simp] theorem State.setLatch_sheafMs (s : State) (page off : Nat) (r : Requester) (v : Nat) : (s.setLatch page off r v).sheafMs = s.sheafMs := rfl
@[simp] theorem State.setLatch_signCnt (s : State) (page off : Nat) (r : Requester) (v : Nat) : (s.setLatch page off r v).signCnt = s.signCnt := rfl
@[simp] theorem State.setLatch_dropSheaf (s : State) (page off : Nat) (r : Requester) (v : Nat) : (s.setLatch page off r v).dropSheaf = s.dropSheaf := rfl
@[simp] theorem State.setLatch_dropImage (s : State) (page off : Nat) (r : Requester) (v : Nat) : (s.setLatch page off r v).dropImage = s.dropImage := rfl
@[simp] theorem State.setLatch_areaHigh (s : State) (page off : Nat) (r : Requester) (v : Nat) : (s.setLatch page off r v).areaHigh = s.areaHigh := rfl
@[simp] theorem State.setLatch_lpRefused (s : State) (page off : Nat) (r : Requester) (v : Nat) : (s.setLatch page off r v).lpRefused = s.lpRefused := rfl
@[simp] theorem State.setLatch_lpLate (s : State) (page off : Nat) (r : Requester) (v : Nat) : (s.setLatch page off r v).lpLate = s.lpLate := rfl
@[simp] theorem State.setLatch_lpForced (s : State) (page off : Nat) (r : Requester) (v : Nat) : (s.setLatch page off r v).lpForced = s.lpForced := rfl
@[simp] theorem State.setLatch_healCopies (s : State) (page off : Nat) (r : Requester) (v : Nat) : (s.setLatch page off r v).healCopies = s.healCopies := rfl
@[simp] theorem State.setLatch_engines (s : State) (page off : Nat) (r : Requester) (v : Nat) : (s.setLatch page off r v).engines = s.engines := rfl
@[simp] theorem State.setLatch_descs (s : State) (page off : Nat) (r : Requester) (v : Nat) : (s.setLatch page off r v).descs = s.descs := rfl
@[simp] theorem State.setLatch_outBlocks (s : State) (page off : Nat) (r : Requester) (v : Nat) : (s.setLatch page off r v).outBlocks = s.outBlocks := rfl
@[simp] theorem State.setLatch_gran (s : State) (page off : Nat) (r : Requester) (v : Nat) : (s.setLatch page off r v).gran = s.gran := rfl
@[simp] theorem State.setLatch_kjournal (s : State) (page off : Nat) (r : Requester) (v : Nat) : (s.setLatch page off r v).kjournal = s.kjournal := rfl
@[simp] theorem State.setLatch_kRecNo (s : State) (page off : Nat) (r : Requester) (v : Nat) : (s.setLatch page off r v).kRecNo = s.kRecNo := rfl
@[simp] theorem State.setLatch_kstore (s : State) (page off : Nat) (r : Requester) (v : Nat) : (s.setLatch page off r v).kstore = s.kstore := rfl
@[simp] theorem State.setLatch_kOpen (s : State) (page off : Nat) (r : Requester) (v : Nat) : (s.setLatch page off r v).kOpen = s.kOpen := rfl
@[simp] theorem State.setLatch_enrols (s : State) (page off : Nat) (r : Requester) (v : Nat) : (s.setLatch page off r v).enrols = s.enrols := rfl
@[simp] theorem State.setLatch_certs (s : State) (page off : Nat) (r : Requester) (v : Nat) : (s.setLatch page off r v).certs = s.certs := rfl
@[simp] theorem State.setLatch_att (s : State) (page off : Nat) (r : Requester) (v : Nat) : (s.setLatch page off r v).att = s.att := rfl
@[simp] theorem State.setLatch_puf (s : State) (page off : Nat) (r : Requester) (v : Nat) : (s.setLatch page off r v).puf = s.puf := rfl
@[simp] theorem State.setLatch_otp (s : State) (page off : Nat) (r : Requester) (v : Nat) : (s.setLatch page off r v).otp = s.otp := rfl
@[simp] theorem State.setLatch_stageEn (s : State) (page off : Nat) (r : Requester) (v : Nat) : (s.setLatch page off r v).stageEn = s.stageEn := rfl
@[simp] theorem State.setLatch_diffCopy (s : State) (page off : Nat) (r : Requester) (v : Nat) : (s.setLatch page off r v).diffCopy = s.diffCopy := rfl
@[simp] theorem State.setLatch_defConf (s : State) (page off : Nat) (r : Requester) (v : Nat) : (s.setLatch page off r v).defConf = s.defConf := rfl
@[simp] theorem State.setLatch_brnReady (s : State) (page off : Nat) (r : Requester) (v : Nat) : (s.setLatch page off r v).brnReady = s.brnReady := rfl
@[simp] theorem State.setLatch_maxPe (s : State) (page off : Nat) (r : Requester) (v : Nat) : (s.setLatch page off r v).maxPe = s.maxPe := rfl
@[simp] theorem State.setLatch_badBlocks (s : State) (page off : Nat) (r : Requester) (v : Nat) : (s.setLatch page off r v).badBlocks = s.badBlocks := rfl
@[simp] theorem State.setLatch_manSlots (s : State) (page off : Nat) (r : Requester) (v : Nat) : (s.setLatch page off r v).manSlots = s.manSlots := rfl
@[simp] theorem State.setLatch_kept (s : State) (page off : Nat) (r : Requester) (v : Nat) : (s.setLatch page off r v).kept = s.kept := rfl
@[simp] theorem State.setLatch_keptNo (s : State) (page off : Nat) (r : Requester) (v : Nat) : (s.setLatch page off r v).keptNo = s.keptNo := rfl
@[simp] theorem State.setLatch_ulog (s : State) (page off : Nat) (r : Requester) (v : Nat) : (s.setLatch page off r v).ulog = s.ulog := rfl
@[simp] theorem State.setLatch_uRecNo (s : State) (page off : Nat) (r : Requester) (v : Nat) : (s.setLatch page off r v).uRecNo = s.uRecNo := rfl
@[simp] theorem State.setLatch_act (s : State) (page off : Nat) (r : Requester) (v : Nat) : (s.setLatch page off r v).act = s.act := rfl
@[simp] theorem State.setLatch_wdnMan (s : State) (page off : Nat) (r : Requester) (v : Nat) : (s.setLatch page off r v).wdnMan = s.wdnMan := rfl
@[simp] theorem State.setLatch_revCopies (s : State) (page off : Nat) (r : Requester) (v : Nat) : (s.setLatch page off r v).revCopies = s.revCopies := rfl
@[simp] theorem State.setLatch_wslots (s : State) (page off : Nat) (r : Requester) (v : Nat) : (s.setLatch page off r v).wslots = s.wslots := rfl
@[simp] theorem State.setLatch_depRecs (s : State) (page off : Nat) (r : Requester) (v : Nat) : (s.setLatch page off r v).depRecs = s.depRecs := rfl
@[simp] theorem State.setLatch_depAsked (s : State) (page off : Nat) (r : Requester) (v : Nat) : (s.setLatch page off r v).depAsked = s.depAsked := rfl
@[simp] theorem State.setLatch_depSent (s : State) (page off : Nat) (r : Requester) (v : Nat) : (s.setLatch page off r v).depSent = s.depSent := rfl
@[simp] theorem State.setLatch_retained (s : State) (page off : Nat) (r : Requester) (v : Nat) : (s.setLatch page off r v).retained = s.retained := rfl
@[simp] theorem State.setLatch_loft (s : State) (page off : Nat) (r : Requester) (v : Nat) : (s.setLatch page off r v).loft = s.loft := rfl
@[simp] theorem State.setLatch_wwd (s : State) (page off : Nat) (r : Requester) (v : Nat) : (s.setLatch page off r v).wwd = s.wwd := rfl
@[simp] theorem State.setLatch_lwd (s : State) (page off : Nat) (r : Requester) (v : Nat) : (s.setLatch page off r v).lwd = s.lwd := rfl
@[simp] theorem State.setLatch_sessions (s : State) (page off : Nat) (r : Requester) (v : Nat) : (s.setLatch page off r v).sessions = s.sessions := rfl
@[simp] theorem State.setLatch_xng (s : State) (page off : Nat) (r : Requester) (v : Nat) : (s.setLatch page off r v).xng = s.xng := rfl
@[simp] theorem State.setLatch_svc (s : State) (page off : Nat) (r : Requester) (v : Nat) : (s.setLatch page off r v).svc = s.svc := rfl
@[simp] theorem State.setLatch_pwr (s : State) (page off : Nat) (r : Requester) (v : Nat) : (s.setLatch page off r v).pwr = s.pwr := rfl
@[simp] theorem State.setLatch_env (s : State) (page off : Nat) (r : Requester) (v : Nat) : (s.setLatch page off r v).env = s.env := rfl
@[simp] theorem State.setLatch_shutter (s : State) (page off : Nat) (r : Requester) (v : Nat) : (s.setLatch page off r v).shutter = s.shutter := rfl
@[simp] theorem State.setLatch_lpStage (s : State) (page off : Nat) (r : Requester) (v : Nat) : (s.setLatch page off r v).lpStage = s.lpStage := rfl
@[simp] theorem State.setLatch_lpResult (s : State) (page off : Nat) (r : Requester) (v : Nat) : (s.setLatch page off r v).lpResult = s.lpResult := rfl

/-! ### toHall -/

@[simp] theorem State.toHall_time (s : State) (c : Nat) : (s.toHall c).time = max s.time (3 * c) := rfl
@[simp] theorem State.toHall_pending (s : State) (c : Nat) : (s.toHall c).pending = s.pending := rfl
@[simp] theorem State.toHall_out (s : State) (c : Nat) : (s.toHall c).out = s.out := rfl
@[simp] theorem State.toHall_freeCtr (s : State) (c : Nat) : (s.toHall c).freeCtr = s.freeCtr := rfl
@[simp] theorem State.toHall_ports (s : State) (c : Nat) : (s.toHall c).ports = s.ports := rfl
@[simp] theorem State.toHall_halls (s : State) (c : Nat) : (s.toHall c).halls = s.halls := rfl
@[simp] theorem State.toHall_mirror (s : State) (c : Nat) : (s.toHall c).mirror = s.mirror := rfl
@[simp] theorem State.toHall_trs (s : State) (c : Nat) : (s.toHall c).trs = s.trs := rfl
@[simp] theorem State.toHall_encs (s : State) (c : Nat) : (s.toHall c).encs = s.encs := rfl
@[simp] theorem State.toHall_hdrs (s : State) (c : Nat) : (s.toHall c).hdrs = s.hdrs := rfl
@[simp] theorem State.toHall_portErr (s : State) (c : Nat) : (s.toHall c).portErr = s.portErr := rfl
@[simp] theorem State.toHall_sel (s : State) (c : Nat) : (s.toHall c).sel = s.sel := rfl
@[simp] theorem State.toHall_latch (s : State) (c : Nat) : (s.toHall c).latch = s.latch := rfl
@[simp] theorem State.toHall_root (s : State) (c : Nat) : (s.toHall c).root = s.root := rfl
@[simp] theorem State.toHall_modState (s : State) (c : Nat) : (s.toHall c).modState = s.modState := rfl
@[simp] theorem State.toHall_prevState (s : State) (c : Nat) : (s.toHall c).prevState = s.prevState := rfl
@[simp] theorem State.toHall_loftAt (s : State) (c : Nat) : (s.toHall c).loftAt = s.loftAt := rfl
@[simp] theorem State.toHall_ledger (s : State) (c : Nat) : (s.toHall c).ledger = s.ledger := rfl
@[simp] theorem State.toHall_ledgerNo (s : State) (c : Nat) : (s.toHall c).ledgerNo = s.ledgerNo := rfl
@[simp] theorem State.toHall_ledgerFull (s : State) (c : Nat) : (s.toHall c).ledgerFull = s.ledgerFull := rfl
@[simp] theorem State.toHall_barnQ (s : State) (c : Nat) : (s.toHall c).barnQ = s.barnQ := rfl
@[simp] theorem State.toHall_sealUsed (s : State) (c : Nat) : (s.toHall c).sealUsed = s.sealUsed := rfl
@[simp] theorem State.toHall_excLog (s : State) (c : Nat) : (s.toHall c).excLog = s.excLog := rfl
@[simp] theorem State.toHall_ledgerKey (s : State) (c : Nat) : (s.toHall c).ledgerKey = s.ledgerKey := rfl
@[simp] theorem State.toHall_copies (s : State) (c : Nat) : (s.toHall c).copies = s.copies := rfl
@[simp] theorem State.toHall_images (s : State) (c : Nat) : (s.toHall c).images = s.images := rfl
@[simp] theorem State.toHall_pkeQ (s : State) (c : Nat) : (s.toHall c).pkeQ = s.pkeQ := rfl
@[simp] theorem State.toHall_sheafDocs (s : State) (c : Nat) : (s.toHall c).sheafDocs = s.sheafDocs := rfl
@[simp] theorem State.toHall_sheafMs (s : State) (c : Nat) : (s.toHall c).sheafMs = s.sheafMs := rfl
@[simp] theorem State.toHall_signCnt (s : State) (c : Nat) : (s.toHall c).signCnt = s.signCnt := rfl
@[simp] theorem State.toHall_dropSheaf (s : State) (c : Nat) : (s.toHall c).dropSheaf = s.dropSheaf := rfl
@[simp] theorem State.toHall_dropImage (s : State) (c : Nat) : (s.toHall c).dropImage = s.dropImage := rfl
@[simp] theorem State.toHall_areaHigh (s : State) (c : Nat) : (s.toHall c).areaHigh = s.areaHigh := rfl
@[simp] theorem State.toHall_lpRefused (s : State) (c : Nat) : (s.toHall c).lpRefused = s.lpRefused := rfl
@[simp] theorem State.toHall_lpLate (s : State) (c : Nat) : (s.toHall c).lpLate = s.lpLate := rfl
@[simp] theorem State.toHall_lpForced (s : State) (c : Nat) : (s.toHall c).lpForced = s.lpForced := rfl
@[simp] theorem State.toHall_healCopies (s : State) (c : Nat) : (s.toHall c).healCopies = s.healCopies := rfl
@[simp] theorem State.toHall_engines (s : State) (c : Nat) : (s.toHall c).engines = s.engines := rfl
@[simp] theorem State.toHall_descs (s : State) (c : Nat) : (s.toHall c).descs = s.descs := rfl
@[simp] theorem State.toHall_outBlocks (s : State) (c : Nat) : (s.toHall c).outBlocks = s.outBlocks := rfl
@[simp] theorem State.toHall_gran (s : State) (c : Nat) : (s.toHall c).gran = s.gran := rfl
@[simp] theorem State.toHall_kjournal (s : State) (c : Nat) : (s.toHall c).kjournal = s.kjournal := rfl
@[simp] theorem State.toHall_kRecNo (s : State) (c : Nat) : (s.toHall c).kRecNo = s.kRecNo := rfl
@[simp] theorem State.toHall_kstore (s : State) (c : Nat) : (s.toHall c).kstore = s.kstore := rfl
@[simp] theorem State.toHall_kOpen (s : State) (c : Nat) : (s.toHall c).kOpen = s.kOpen := rfl
@[simp] theorem State.toHall_enrols (s : State) (c : Nat) : (s.toHall c).enrols = s.enrols := rfl
@[simp] theorem State.toHall_certs (s : State) (c : Nat) : (s.toHall c).certs = s.certs := rfl
@[simp] theorem State.toHall_att (s : State) (c : Nat) : (s.toHall c).att = s.att := rfl
@[simp] theorem State.toHall_puf (s : State) (c : Nat) : (s.toHall c).puf = s.puf := rfl
@[simp] theorem State.toHall_otp (s : State) (c : Nat) : (s.toHall c).otp = s.otp := rfl
@[simp] theorem State.toHall_stageEn (s : State) (c : Nat) : (s.toHall c).stageEn = s.stageEn := rfl
@[simp] theorem State.toHall_diffCopy (s : State) (c : Nat) : (s.toHall c).diffCopy = s.diffCopy := rfl
@[simp] theorem State.toHall_defConf (s : State) (c : Nat) : (s.toHall c).defConf = s.defConf := rfl
@[simp] theorem State.toHall_brnReady (s : State) (c : Nat) : (s.toHall c).brnReady = s.brnReady := rfl
@[simp] theorem State.toHall_maxPe (s : State) (c : Nat) : (s.toHall c).maxPe = s.maxPe := rfl
@[simp] theorem State.toHall_badBlocks (s : State) (c : Nat) : (s.toHall c).badBlocks = s.badBlocks := rfl
@[simp] theorem State.toHall_manSlots (s : State) (c : Nat) : (s.toHall c).manSlots = s.manSlots := rfl
@[simp] theorem State.toHall_kept (s : State) (c : Nat) : (s.toHall c).kept = s.kept := rfl
@[simp] theorem State.toHall_keptNo (s : State) (c : Nat) : (s.toHall c).keptNo = s.keptNo := rfl
@[simp] theorem State.toHall_ulog (s : State) (c : Nat) : (s.toHall c).ulog = s.ulog := rfl
@[simp] theorem State.toHall_uRecNo (s : State) (c : Nat) : (s.toHall c).uRecNo = s.uRecNo := rfl
@[simp] theorem State.toHall_act (s : State) (c : Nat) : (s.toHall c).act = s.act := rfl
@[simp] theorem State.toHall_wdnMan (s : State) (c : Nat) : (s.toHall c).wdnMan = s.wdnMan := rfl
@[simp] theorem State.toHall_revCopies (s : State) (c : Nat) : (s.toHall c).revCopies = s.revCopies := rfl
@[simp] theorem State.toHall_wslots (s : State) (c : Nat) : (s.toHall c).wslots = s.wslots := rfl
@[simp] theorem State.toHall_depRecs (s : State) (c : Nat) : (s.toHall c).depRecs = s.depRecs := rfl
@[simp] theorem State.toHall_depAsked (s : State) (c : Nat) : (s.toHall c).depAsked = s.depAsked := rfl
@[simp] theorem State.toHall_depSent (s : State) (c : Nat) : (s.toHall c).depSent = s.depSent := rfl
@[simp] theorem State.toHall_retained (s : State) (c : Nat) : (s.toHall c).retained = s.retained := rfl
@[simp] theorem State.toHall_loft (s : State) (c : Nat) : (s.toHall c).loft = s.loft := rfl
@[simp] theorem State.toHall_wwd (s : State) (c : Nat) : (s.toHall c).wwd = s.wwd := rfl
@[simp] theorem State.toHall_lwd (s : State) (c : Nat) : (s.toHall c).lwd = s.lwd := rfl
@[simp] theorem State.toHall_sessions (s : State) (c : Nat) : (s.toHall c).sessions = s.sessions := rfl
@[simp] theorem State.toHall_xng (s : State) (c : Nat) : (s.toHall c).xng = s.xng := rfl
@[simp] theorem State.toHall_svc (s : State) (c : Nat) : (s.toHall c).svc = s.svc := rfl
@[simp] theorem State.toHall_pwr (s : State) (c : Nat) : (s.toHall c).pwr = s.pwr := rfl
@[simp] theorem State.toHall_env (s : State) (c : Nat) : (s.toHall c).env = s.env := rfl
@[simp] theorem State.toHall_shutter (s : State) (c : Nat) : (s.toHall c).shutter = s.shutter := rfl
@[simp] theorem State.toHall_lpStage (s : State) (c : Nat) : (s.toHall c).lpStage = s.lpStage := rfl
@[simp] theorem State.toHall_lpResult (s : State) (c : Nat) : (s.toHall c).lpResult = s.lpResult := rfl

/-! ### toLoft -/

@[simp] theorem State.toLoft_time (s : State) (c : Nat) : (s.toLoft c).time = max s.time (4 * c) := rfl
@[simp] theorem State.toLoft_pending (s : State) (c : Nat) : (s.toLoft c).pending = s.pending := rfl
@[simp] theorem State.toLoft_out (s : State) (c : Nat) : (s.toLoft c).out = s.out := rfl
@[simp] theorem State.toLoft_freeCtr (s : State) (c : Nat) : (s.toLoft c).freeCtr = s.freeCtr := rfl
@[simp] theorem State.toLoft_ports (s : State) (c : Nat) : (s.toLoft c).ports = s.ports := rfl
@[simp] theorem State.toLoft_halls (s : State) (c : Nat) : (s.toLoft c).halls = s.halls := rfl
@[simp] theorem State.toLoft_mirror (s : State) (c : Nat) : (s.toLoft c).mirror = s.mirror := rfl
@[simp] theorem State.toLoft_trs (s : State) (c : Nat) : (s.toLoft c).trs = s.trs := rfl
@[simp] theorem State.toLoft_encs (s : State) (c : Nat) : (s.toLoft c).encs = s.encs := rfl
@[simp] theorem State.toLoft_hdrs (s : State) (c : Nat) : (s.toLoft c).hdrs = s.hdrs := rfl
@[simp] theorem State.toLoft_portErr (s : State) (c : Nat) : (s.toLoft c).portErr = s.portErr := rfl
@[simp] theorem State.toLoft_sel (s : State) (c : Nat) : (s.toLoft c).sel = s.sel := rfl
@[simp] theorem State.toLoft_latch (s : State) (c : Nat) : (s.toLoft c).latch = s.latch := rfl
@[simp] theorem State.toLoft_root (s : State) (c : Nat) : (s.toLoft c).root = s.root := rfl
@[simp] theorem State.toLoft_modState (s : State) (c : Nat) : (s.toLoft c).modState = s.modState := rfl
@[simp] theorem State.toLoft_prevState (s : State) (c : Nat) : (s.toLoft c).prevState = s.prevState := rfl
@[simp] theorem State.toLoft_loftAt (s : State) (c : Nat) : (s.toLoft c).loftAt = s.loftAt := rfl
@[simp] theorem State.toLoft_ledger (s : State) (c : Nat) : (s.toLoft c).ledger = s.ledger := rfl
@[simp] theorem State.toLoft_ledgerNo (s : State) (c : Nat) : (s.toLoft c).ledgerNo = s.ledgerNo := rfl
@[simp] theorem State.toLoft_ledgerFull (s : State) (c : Nat) : (s.toLoft c).ledgerFull = s.ledgerFull := rfl
@[simp] theorem State.toLoft_barnQ (s : State) (c : Nat) : (s.toLoft c).barnQ = s.barnQ := rfl
@[simp] theorem State.toLoft_sealUsed (s : State) (c : Nat) : (s.toLoft c).sealUsed = s.sealUsed := rfl
@[simp] theorem State.toLoft_excLog (s : State) (c : Nat) : (s.toLoft c).excLog = s.excLog := rfl
@[simp] theorem State.toLoft_ledgerKey (s : State) (c : Nat) : (s.toLoft c).ledgerKey = s.ledgerKey := rfl
@[simp] theorem State.toLoft_copies (s : State) (c : Nat) : (s.toLoft c).copies = s.copies := rfl
@[simp] theorem State.toLoft_images (s : State) (c : Nat) : (s.toLoft c).images = s.images := rfl
@[simp] theorem State.toLoft_pkeQ (s : State) (c : Nat) : (s.toLoft c).pkeQ = s.pkeQ := rfl
@[simp] theorem State.toLoft_sheafDocs (s : State) (c : Nat) : (s.toLoft c).sheafDocs = s.sheafDocs := rfl
@[simp] theorem State.toLoft_sheafMs (s : State) (c : Nat) : (s.toLoft c).sheafMs = s.sheafMs := rfl
@[simp] theorem State.toLoft_signCnt (s : State) (c : Nat) : (s.toLoft c).signCnt = s.signCnt := rfl
@[simp] theorem State.toLoft_dropSheaf (s : State) (c : Nat) : (s.toLoft c).dropSheaf = s.dropSheaf := rfl
@[simp] theorem State.toLoft_dropImage (s : State) (c : Nat) : (s.toLoft c).dropImage = s.dropImage := rfl
@[simp] theorem State.toLoft_areaHigh (s : State) (c : Nat) : (s.toLoft c).areaHigh = s.areaHigh := rfl
@[simp] theorem State.toLoft_lpRefused (s : State) (c : Nat) : (s.toLoft c).lpRefused = s.lpRefused := rfl
@[simp] theorem State.toLoft_lpLate (s : State) (c : Nat) : (s.toLoft c).lpLate = s.lpLate := rfl
@[simp] theorem State.toLoft_lpForced (s : State) (c : Nat) : (s.toLoft c).lpForced = s.lpForced := rfl
@[simp] theorem State.toLoft_healCopies (s : State) (c : Nat) : (s.toLoft c).healCopies = s.healCopies := rfl
@[simp] theorem State.toLoft_engines (s : State) (c : Nat) : (s.toLoft c).engines = s.engines := rfl
@[simp] theorem State.toLoft_descs (s : State) (c : Nat) : (s.toLoft c).descs = s.descs := rfl
@[simp] theorem State.toLoft_outBlocks (s : State) (c : Nat) : (s.toLoft c).outBlocks = s.outBlocks := rfl
@[simp] theorem State.toLoft_gran (s : State) (c : Nat) : (s.toLoft c).gran = s.gran := rfl
@[simp] theorem State.toLoft_kjournal (s : State) (c : Nat) : (s.toLoft c).kjournal = s.kjournal := rfl
@[simp] theorem State.toLoft_kRecNo (s : State) (c : Nat) : (s.toLoft c).kRecNo = s.kRecNo := rfl
@[simp] theorem State.toLoft_kstore (s : State) (c : Nat) : (s.toLoft c).kstore = s.kstore := rfl
@[simp] theorem State.toLoft_kOpen (s : State) (c : Nat) : (s.toLoft c).kOpen = s.kOpen := rfl
@[simp] theorem State.toLoft_enrols (s : State) (c : Nat) : (s.toLoft c).enrols = s.enrols := rfl
@[simp] theorem State.toLoft_certs (s : State) (c : Nat) : (s.toLoft c).certs = s.certs := rfl
@[simp] theorem State.toLoft_att (s : State) (c : Nat) : (s.toLoft c).att = s.att := rfl
@[simp] theorem State.toLoft_puf (s : State) (c : Nat) : (s.toLoft c).puf = s.puf := rfl
@[simp] theorem State.toLoft_otp (s : State) (c : Nat) : (s.toLoft c).otp = s.otp := rfl
@[simp] theorem State.toLoft_stageEn (s : State) (c : Nat) : (s.toLoft c).stageEn = s.stageEn := rfl
@[simp] theorem State.toLoft_diffCopy (s : State) (c : Nat) : (s.toLoft c).diffCopy = s.diffCopy := rfl
@[simp] theorem State.toLoft_defConf (s : State) (c : Nat) : (s.toLoft c).defConf = s.defConf := rfl
@[simp] theorem State.toLoft_brnReady (s : State) (c : Nat) : (s.toLoft c).brnReady = s.brnReady := rfl
@[simp] theorem State.toLoft_maxPe (s : State) (c : Nat) : (s.toLoft c).maxPe = s.maxPe := rfl
@[simp] theorem State.toLoft_badBlocks (s : State) (c : Nat) : (s.toLoft c).badBlocks = s.badBlocks := rfl
@[simp] theorem State.toLoft_manSlots (s : State) (c : Nat) : (s.toLoft c).manSlots = s.manSlots := rfl
@[simp] theorem State.toLoft_kept (s : State) (c : Nat) : (s.toLoft c).kept = s.kept := rfl
@[simp] theorem State.toLoft_keptNo (s : State) (c : Nat) : (s.toLoft c).keptNo = s.keptNo := rfl
@[simp] theorem State.toLoft_ulog (s : State) (c : Nat) : (s.toLoft c).ulog = s.ulog := rfl
@[simp] theorem State.toLoft_uRecNo (s : State) (c : Nat) : (s.toLoft c).uRecNo = s.uRecNo := rfl
@[simp] theorem State.toLoft_act (s : State) (c : Nat) : (s.toLoft c).act = s.act := rfl
@[simp] theorem State.toLoft_wdnMan (s : State) (c : Nat) : (s.toLoft c).wdnMan = s.wdnMan := rfl
@[simp] theorem State.toLoft_revCopies (s : State) (c : Nat) : (s.toLoft c).revCopies = s.revCopies := rfl
@[simp] theorem State.toLoft_wslots (s : State) (c : Nat) : (s.toLoft c).wslots = s.wslots := rfl
@[simp] theorem State.toLoft_depRecs (s : State) (c : Nat) : (s.toLoft c).depRecs = s.depRecs := rfl
@[simp] theorem State.toLoft_depAsked (s : State) (c : Nat) : (s.toLoft c).depAsked = s.depAsked := rfl
@[simp] theorem State.toLoft_depSent (s : State) (c : Nat) : (s.toLoft c).depSent = s.depSent := rfl
@[simp] theorem State.toLoft_retained (s : State) (c : Nat) : (s.toLoft c).retained = s.retained := rfl
@[simp] theorem State.toLoft_loft (s : State) (c : Nat) : (s.toLoft c).loft = s.loft := rfl
@[simp] theorem State.toLoft_wwd (s : State) (c : Nat) : (s.toLoft c).wwd = s.wwd := rfl
@[simp] theorem State.toLoft_lwd (s : State) (c : Nat) : (s.toLoft c).lwd = s.lwd := rfl
@[simp] theorem State.toLoft_sessions (s : State) (c : Nat) : (s.toLoft c).sessions = s.sessions := rfl
@[simp] theorem State.toLoft_xng (s : State) (c : Nat) : (s.toLoft c).xng = s.xng := rfl
@[simp] theorem State.toLoft_svc (s : State) (c : Nat) : (s.toLoft c).svc = s.svc := rfl
@[simp] theorem State.toLoft_pwr (s : State) (c : Nat) : (s.toLoft c).pwr = s.pwr := rfl
@[simp] theorem State.toLoft_env (s : State) (c : Nat) : (s.toLoft c).env = s.env := rfl
@[simp] theorem State.toLoft_shutter (s : State) (c : Nat) : (s.toLoft c).shutter = s.shutter := rfl
@[simp] theorem State.toLoft_lpStage (s : State) (c : Nat) : (s.toLoft c).lpStage = s.lpStage := rfl
@[simp] theorem State.toLoft_lpResult (s : State) (c : Nat) : (s.toLoft c).lpResult = s.lpResult := rfl

/-! ### latchCollectors -/

@[simp] theorem State.latchCollectors_time (s : State) : s.latchCollectors.time = s.time := rfl
@[simp] theorem State.latchCollectors_pending (s : State) : s.latchCollectors.pending = s.pending := rfl
@[simp] theorem State.latchCollectors_out (s : State) : s.latchCollectors.out = s.out := rfl
@[simp] theorem State.latchCollectors_freeCtr (s : State) : s.latchCollectors.freeCtr = s.freeCtr := rfl
@[simp] theorem State.latchCollectors_ports (s : State) : s.latchCollectors.ports = s.ports := rfl
@[simp] theorem State.latchCollectors_halls (s : State) : s.latchCollectors.halls = s.halls := rfl
@[simp] theorem State.latchCollectors_mirror (s : State) : s.latchCollectors.mirror = s.mirror := rfl
@[simp] theorem State.latchCollectors_trs (s : State) : s.latchCollectors.trs = s.trs := rfl
@[simp] theorem State.latchCollectors_encs (s : State) : s.latchCollectors.encs = s.encs := rfl
@[simp] theorem State.latchCollectors_hdrs (s : State) : s.latchCollectors.hdrs = s.hdrs := rfl
@[simp] theorem State.latchCollectors_portErr (s : State) : s.latchCollectors.portErr = s.portErr := rfl
@[simp] theorem State.latchCollectors_sel (s : State) : s.latchCollectors.sel = s.sel := rfl
@[simp] theorem State.latchCollectors_latch (s : State) : s.latchCollectors.latch = s.latch := rfl
@[simp] theorem State.latchCollectors_root (s : State) : s.latchCollectors.root = latchRoot s.hdrs s.portErr s.root := rfl
@[simp] theorem State.latchCollectors_modState (s : State) : s.latchCollectors.modState = s.modState := rfl
@[simp] theorem State.latchCollectors_prevState (s : State) : s.latchCollectors.prevState = s.prevState := rfl
@[simp] theorem State.latchCollectors_loftAt (s : State) : s.latchCollectors.loftAt = s.loftAt := rfl
@[simp] theorem State.latchCollectors_ledger (s : State) : s.latchCollectors.ledger = s.ledger := rfl
@[simp] theorem State.latchCollectors_ledgerNo (s : State) : s.latchCollectors.ledgerNo = s.ledgerNo := rfl
@[simp] theorem State.latchCollectors_ledgerFull (s : State) : s.latchCollectors.ledgerFull = s.ledgerFull := rfl
@[simp] theorem State.latchCollectors_barnQ (s : State) : s.latchCollectors.barnQ = s.barnQ := rfl
@[simp] theorem State.latchCollectors_sealUsed (s : State) : s.latchCollectors.sealUsed = s.sealUsed := rfl
@[simp] theorem State.latchCollectors_excLog (s : State) : s.latchCollectors.excLog = s.excLog := rfl
@[simp] theorem State.latchCollectors_ledgerKey (s : State) : s.latchCollectors.ledgerKey = s.ledgerKey := rfl
@[simp] theorem State.latchCollectors_copies (s : State) : s.latchCollectors.copies = s.copies := rfl
@[simp] theorem State.latchCollectors_images (s : State) : s.latchCollectors.images = s.images := rfl
@[simp] theorem State.latchCollectors_pkeQ (s : State) : s.latchCollectors.pkeQ = s.pkeQ := rfl
@[simp] theorem State.latchCollectors_sheafDocs (s : State) : s.latchCollectors.sheafDocs = s.sheafDocs := rfl
@[simp] theorem State.latchCollectors_sheafMs (s : State) : s.latchCollectors.sheafMs = s.sheafMs := rfl
@[simp] theorem State.latchCollectors_signCnt (s : State) : s.latchCollectors.signCnt = s.signCnt := rfl
@[simp] theorem State.latchCollectors_dropSheaf (s : State) : s.latchCollectors.dropSheaf = s.dropSheaf := rfl
@[simp] theorem State.latchCollectors_dropImage (s : State) : s.latchCollectors.dropImage = s.dropImage := rfl
@[simp] theorem State.latchCollectors_areaHigh (s : State) : s.latchCollectors.areaHigh = s.areaHigh := rfl
@[simp] theorem State.latchCollectors_lpRefused (s : State) : s.latchCollectors.lpRefused = s.lpRefused := rfl
@[simp] theorem State.latchCollectors_lpLate (s : State) : s.latchCollectors.lpLate = s.lpLate := rfl
@[simp] theorem State.latchCollectors_lpForced (s : State) : s.latchCollectors.lpForced = s.lpForced := rfl
@[simp] theorem State.latchCollectors_healCopies (s : State) : s.latchCollectors.healCopies = s.healCopies := rfl
@[simp] theorem State.latchCollectors_engines (s : State) : s.latchCollectors.engines = s.engines := rfl
@[simp] theorem State.latchCollectors_descs (s : State) : s.latchCollectors.descs = s.descs := rfl
@[simp] theorem State.latchCollectors_outBlocks (s : State) : s.latchCollectors.outBlocks = s.outBlocks := rfl
@[simp] theorem State.latchCollectors_gran (s : State) : s.latchCollectors.gran = s.gran := rfl
@[simp] theorem State.latchCollectors_kjournal (s : State) : s.latchCollectors.kjournal = s.kjournal := rfl
@[simp] theorem State.latchCollectors_kRecNo (s : State) : s.latchCollectors.kRecNo = s.kRecNo := rfl
@[simp] theorem State.latchCollectors_kstore (s : State) : s.latchCollectors.kstore = s.kstore := rfl
@[simp] theorem State.latchCollectors_kOpen (s : State) : s.latchCollectors.kOpen = s.kOpen := rfl
@[simp] theorem State.latchCollectors_enrols (s : State) : s.latchCollectors.enrols = s.enrols := rfl
@[simp] theorem State.latchCollectors_certs (s : State) : s.latchCollectors.certs = s.certs := rfl
@[simp] theorem State.latchCollectors_att (s : State) : s.latchCollectors.att = s.att := rfl
@[simp] theorem State.latchCollectors_puf (s : State) : s.latchCollectors.puf = s.puf := rfl
@[simp] theorem State.latchCollectors_otp (s : State) : s.latchCollectors.otp = s.otp := rfl
@[simp] theorem State.latchCollectors_stageEn (s : State) : s.latchCollectors.stageEn = s.stageEn := rfl
@[simp] theorem State.latchCollectors_diffCopy (s : State) : s.latchCollectors.diffCopy = s.diffCopy := rfl
@[simp] theorem State.latchCollectors_defConf (s : State) : s.latchCollectors.defConf = s.defConf := rfl
@[simp] theorem State.latchCollectors_brnReady (s : State) : s.latchCollectors.brnReady = s.brnReady := rfl
@[simp] theorem State.latchCollectors_maxPe (s : State) : s.latchCollectors.maxPe = s.maxPe := rfl
@[simp] theorem State.latchCollectors_badBlocks (s : State) : s.latchCollectors.badBlocks = s.badBlocks := rfl
@[simp] theorem State.latchCollectors_manSlots (s : State) : s.latchCollectors.manSlots = s.manSlots := rfl
@[simp] theorem State.latchCollectors_kept (s : State) : s.latchCollectors.kept = s.kept := rfl
@[simp] theorem State.latchCollectors_keptNo (s : State) : s.latchCollectors.keptNo = s.keptNo := rfl
@[simp] theorem State.latchCollectors_ulog (s : State) : s.latchCollectors.ulog = s.ulog := rfl
@[simp] theorem State.latchCollectors_uRecNo (s : State) : s.latchCollectors.uRecNo = s.uRecNo := rfl
@[simp] theorem State.latchCollectors_act (s : State) : s.latchCollectors.act = s.act := rfl
@[simp] theorem State.latchCollectors_wdnMan (s : State) : s.latchCollectors.wdnMan = s.wdnMan := rfl
@[simp] theorem State.latchCollectors_revCopies (s : State) : s.latchCollectors.revCopies = s.revCopies := rfl
@[simp] theorem State.latchCollectors_wslots (s : State) : s.latchCollectors.wslots = s.wslots := rfl
@[simp] theorem State.latchCollectors_depRecs (s : State) : s.latchCollectors.depRecs = s.depRecs := rfl
@[simp] theorem State.latchCollectors_depAsked (s : State) : s.latchCollectors.depAsked = s.depAsked := rfl
@[simp] theorem State.latchCollectors_depSent (s : State) : s.latchCollectors.depSent = s.depSent := rfl
@[simp] theorem State.latchCollectors_retained (s : State) : s.latchCollectors.retained = s.retained := rfl
@[simp] theorem State.latchCollectors_loft (s : State) : s.latchCollectors.loft = s.loft := rfl
@[simp] theorem State.latchCollectors_wwd (s : State) : s.latchCollectors.wwd = s.wwd := rfl
@[simp] theorem State.latchCollectors_lwd (s : State) : s.latchCollectors.lwd = s.lwd := rfl
@[simp] theorem State.latchCollectors_sessions (s : State) : s.latchCollectors.sessions = s.sessions := rfl
@[simp] theorem State.latchCollectors_xng (s : State) : s.latchCollectors.xng = s.xng := rfl
@[simp] theorem State.latchCollectors_svc (s : State) : s.latchCollectors.svc = s.svc := rfl
@[simp] theorem State.latchCollectors_pwr (s : State) : s.latchCollectors.pwr = s.pwr := rfl
@[simp] theorem State.latchCollectors_env (s : State) : s.latchCollectors.env = s.env := rfl
@[simp] theorem State.latchCollectors_shutter (s : State) : s.latchCollectors.shutter = s.shutter := rfl
@[simp] theorem State.latchCollectors_lpStage (s : State) : s.latchCollectors.lpStage = s.lpStage := rfl
@[simp] theorem State.latchCollectors_lpResult (s : State) : s.latchCollectors.lpResult = s.lpResult := rfl

end Sys2Proof.Machine
end

