-- ==== Sys2Proof/Machine/Connectors.lean ====
section
/-! DEFINITION. Which connector, link and pins carry a port, an encoder input or a host session, and the cable band of a channel
(16 R466 to R468, R472, R475, R477). These are fixed maps: no state stands behind them. -/

namespace Sys2Proof.Machine

/-! ### Field connectors -/

/-- The field connector of a port and its link there (R467). -/
def fieldConn (p : Nat) : Nat := p / 16
def fieldLink (p : Nat) : Nat := p % 16

/-- The row of a field connector counted from the top, and its place in the row from the left, as seen from the rear (R466). -/
def fieldRow (c : Nat) : Nat := c / 16
def fieldPlace (c : Nat) : Nat := c % 16

/-- The pins of link k: TXP, TXN, GND, RXP, RXN (Table 16.2). -/
def fieldPins (k : Nat) : List Nat := (List.range 5).map (fun i => 5 * k + 1 + i)

/-! ### The cable band of a channel (R472) -/

/-- The equivalent length of a channel in 0.1 mm: its own, or its one-way delay divided by 4.6 ns/m where that is longer; length in mm,
delay in ps. -/
def eqLength (mm ps : Nat) : Nat := max (10 * mm) (ceilDiv (ps * 100) 46)

/-- CABLE_BAND of an equivalent length in 0.1 mm (03 Table 3.13); none beyond 30 m. -/
def bandOf (len : Nat) : Option Nat :=
  if len ≤ 50000 then some 0 else if len ≤ 200000 then some 1 else if len ≤ 300000 then some 2 else none

/-! ### Encoder and host connectors -/

/-- The encoder connector of hard input n, its place there, and its pins A+, A-, B+, B-, INDEX+, INDEX-, DP+, DP-, COM (R475). -/
def encConn (n : Nat) : Nat := n / 4
def encPins (n : Nat) : List Nat := (List.range 9).map (fun i => 9 * (n % 4) + 1 + i)

/-- A host connector (Table 16.8). -/
inductive HostConn where
  | rj45
  | usbB
  | terminal4
  | de9
  deriving DecidableEq, Repr

/-- The connector of host port x. -/
def hostConn (x : Nat) : HostConn :=
  if x ≤ 1 then .rj45 else if x ≤ 3 then .usbB else if x = 4 then .terminal4 else .de9

end Sys2Proof.Machine
end

