-- ==== Sys2Proof/WellFormed.lean ====
section
/-! DEFINITION. Which commands are well formed: every operand has the size that its frame, message, register or table gives it. A
field that is a bit vector or a bounded number needs no check. -/

namespace Sys2Proof

/-- The body of a host record: at most 4,608 bytes (14 R417, Table 14.3). -/
def bodyOk (b : Bytes) : Bool := b.length ≤ 4608

/-- The payload of a frame: one receive buffer of 256 bytes (02 R55). -/
def payloadOk (b : Bytes) : Bool := b.length ≤ 256

/-- A page index that the warden can address (17 R481). -/
def pageOk (p : BitVec 9) : Bool := p.toNat < 256

/-- Credit counts are one byte each (02 Table 2.4). -/
def Credits.wf (c : Credits) : Bool := c.c0 < 256 && c.c1 < 256 && c.c2 < 256 && c.c3 < 256 && c.c4 < 256

/-- The supply readings are fields of 16 bits (17 Table 17.14). -/
def SupplyReading.wf (m : SupplyReading) : Bool :=
  m.vrms < 65536 && m.freq < 65536 && m.bulk < 65536 && m.inputW < 65536 && m.bankMv < 65536 && m.energy < 65536

/-- The PUF takes 1,536 bytes of SRAM (09 R276). -/
def PufObs.wf (o : PufObs) : Bool := o.sram.length == 1536

/-- A host's TAP_PROMOTE carries a body. -/
def PromoteSrc.wf : PromoteSrc → Bool
  | .host _ b => bodyOk b
  | .loft _ => true

/-- A failed bit is one of the 40 bits of a row (11 R332). -/
def OtpOutcome.wf (o : OtpOutcome) : Bool :=
  match o.failedBit with
  | some k => k < 40
  | none => true

/-- A JEDEC identification fits the identity buffer's 16 bytes (03 R97, Table 3.4). -/
def DeviceRead.wf (d : DeviceRead) : Bool := d.jedec.length ≤ 16

/-- The checks of a command. -/
def Instr.wf : Instr → Bool
  | .tapDetect _ => true
  | .linkTrained _ => true
  | .trainingWindowExpiry _ => true
  | .trainRetryTimer _ => true
  | .lossOfSync _ _ => true
  | .linkIdleEnd _ => true
  | .creditWindowExpiry _ _ => true
  | .replayWindowExpiry _ => true
  | .nakRepeatTimer _ => true
  | .frameCrcError _ => true
  | .frameProtocolError _ _ => true
  | .frameOutOfSequence _ _ => true
  | .ack _ _ _ _ _ => true
  | .helloFrame _ _ => true
  | .pairResp _ rt ct => rt.length == 16 && ct.length == 16
  | .pairDone _ => true
  | .pairFail _ _ => true
  | .pairingWindowExpiry _ => true
  | .creditInit _ c => c.wf
  | .credit _ c => c.wf
  | .linkDownFrame _ => true
  | .rdReq _ _ _ _ _ => true
  | .rdStop _ _ n => n < 2 ^ 32
  | .wrCmd _ c => c.count ≤ 512
  | .wrData _ _ b => payloadOk b
  | .admissionResume _ => true
  | .flDataIn _ _ b => payloadOk b
  | .flDone _ _ _ _ us => us < 2 ^ 32
  | .sbMsg _ b => payloadOk b
  | .positionReport _ b => payloadOk b
  | .imageReport _ b => payloadOk b
  | .confirmation _ b => payloadOk b
  | .pwdService _ b => payloadOk b
  | .attnDone _ _ => true
  | .tapEvent _ _ _ => true
  | .ctrlAck _ _ _ => true
  | .lines _ _ => true
  | .attnClrTimer _ => true
  | .attentionWindowExpiry _ => true
  | .refillStart _ => true
  | .mirIdxDataWrite _ _ _ _ => true
  | .validate _ _ _ => true
  | .arm _ _ => true
  | .disarm _ _ => true
  | .mirPortCfgWrite _ _ _ _ => true
  | .commitStart _ => true
  | .allow _ _ n => n < 65536
  | .refuse _ _ n => n < 65536
  | .authWindowExpiry _ => true
  | .journalCheckpointTimer _ => true
  | .readbackStart _ => true
  | .patrolScrubRead _ u _ => u < 2 ^ 29
  | .ringQuery _ b => bodyOk b
  | .ringDetail _ b => bodyOk b
  | .ringDecide _ b => bodyOk b
  | .ringSummary _ b => bodyOk b
  | .gleanerReadStart _ => true
  | .gleanerCycleDeadline _ => true
  | .healJobStart _ => true
  | .run _ _ => true
  | .mainsStable m => m.wf
  | .loftResetRelease o => o.puf.wf
  | .pufRetryTimer o => o.wf
  | .wardenStart => true
  | .dramTrainingDone _ _ _ => true
  | .barnReplayDone _ => true
  | .tapPhyGalleryPowerOn => true
  | .bringupWindowExpiry => true
  | .flightDecision _ => true
  | .groupWaitExpiry _ _ => true
  | .hallGroupReport _ _ => true
  | .bootWindowExpiry _ => true
  | .rateSampleTick => true
  | .release _ _ => true
  | .reset _ _ => true
  | .reverify _ _ => true
  | .departPortStart _ => true
  | .powerFailWarning => true
  | .shutterHallHandoff => true
  | .shutterDomainsOff => true
  | .shutterEnd => true
  | .encoderCount _ _ => true
  | .indexEdge _ => true
  | .lineFault _ => true
  | .rateMeasureTick _ => true
  | .transportIdleTimeout _ => true
  | .idleGapTimer _ => true
  | .idleGapExpiry _ => true
  | .gapWindowExpiry _ => true
  | .gapGuaranteeEnd _ => true
  | .gapOpenNotice _ => true
  | .gapCloseNotice _ => true
  | .deferWindowExpiry _ => true
  | .hallChangeReport _ => true
  | .sheafTimer _ => true
  | .sealRecovery _ => true
  | .sealFlush _ t => t.toNat ≤ 256
  | .sealStatus _ b => bodyOk b
  | .sealRecords _ b => bodyOk b
  | .sealSheaf _ b => bodyOk b
  | .sealFlushReq _ b => bodyOk b
  | .lpTrSelWrite _ _ => true
  | .commit _ => true
  | .faultClr _ => true
  | .reload _ => true
  | .lpTieDataWrite _ _ => true
  | .tieWriteArrival _ => true
  | .stageOpen _ b => bodyOk b
  | .stageBlock _ b => bodyOk b
  | .stageStatus _ b => bodyOk b
  | .stageClose _ b => bodyOk b
  | .stageTreeComputed _ => true
  | .barnWriteDurable => true
  | .stageDiscard _ b => bodyOk b
  | .stageList _ b => bodyOk b
  | .manifestLoad _ b => bodyOk b
  | .manifestCheck _ b => bodyOk b
  | .manifestActivate _ b => bodyOk b
  | .manifestStatus _ b => bodyOk b
  | .manifestCancel _ b => bodyOk b
  | .manifestHistory _ b => bodyOk b
  | .manifestDiscard _ b => bodyOk b
  | .actDrainDone => true
  | .actCopy => true
  | .confirmWindowExpiry _ => true
  | .wdnSlotWritten _ => true
  | .loadStandby _ _ => true
  | .ready _ _ => true
  | .standbyReadyTimeout => true
  | .handOver _ _ => true
  | .confirm _ _ => true
  | .handBack _ _ => true
  | .trialWindowExpiry => true
  | .set _ b => bodyOk b
  | .clear _ b => bodyOk b
  | .epochRoll _ b => bodyOk b
  | .epochBurnDone _ => true
  | .tapSet _ b => bodyOk b
  | .tapPromote src => src.wf
  | .tapClear _ b => bodyOk b
  | .attest _ b => bodyOk b
  | .quote _ b => bodyOk b
  | .keyPublic _ b => bodyOk b
  | .grnClear _ => true
  | .invalidate _ => true
  | .derive _ _ => true
  | .grnLimitWrite _ _ => true
  | .submit _ _ _ d => d.desc.length == 64 && d.block.length ≤ 32768
  | .abort _ _ => true
  | .pkeGrant _ => true
  | .pkeJobDone _ _ => true
  | .pkeAbortZeroed _ => true
  | .pkeStallTimeout _ => true
  | .katRun _ _ => true
  | .pkeEnableWrite _ _ _ => true
  | .program _ _ => true
  | .programTwin _ _ => true
  | .lock _ _ _ => true
  | .repulse _ _ => true
  | .marginRead _ _ => true
  | .otpCommandDone o => o.wf
  | .wwdKick _ _ => true
  | .wwdExpiry => true
  | .lwdKick _ _ => true
  | .lwdExpiry => true
  | .clockMonitorTrip => true
  | .loftWdResetFlushed => true
  | .pwdExpiry _ => true
  | .clearCount _ _ => true
  | .lockstepMismatch _ => true
  | .historyPass => true
  | .shadowEnd _ => true
  | .alarmPulseEnd => true
  | .alarmContactFault => true
  | .linkReset _ _ _ => true
  | .hallReset _ _ _ => true
  | .hallResetAckTimeout _ => true
  | .hallResetRelease _ => true
  | .modresetCountClear => true
  | .errInjWrite _ p _ => pageOk p
  | .reactSelWrite _ p _ => pageOk p
  | .test _ => true
  | .stairCrcError _ => true
  | .partner x o => if 4 ≤ x.val then o.raw.length ≤ 4658 else o.raw.isEmpty
  | .gwStatus _ => true
  | .gwSilentTimeout => true
  | .crossingFrameDrop _ b => b.length ≤ 65547
  | .hello _ b => bodyOk b
  | .proof _ b => bodyOk b
  | .proofWindowExpiry _ => true
  | .portBlockExpiry _ => true
  | .sealedRequestFail _ _ => true
  | .close _ b => bodyOk b
  | .ping _ b => bodyOk b
  | .sessionInfo _ b => bodyOk b
  | .pageRead _ b => bodyOk b
  | .pageWrite _ b => bodyOk b
  | .pageModify _ b => bodyOk b
  | .pageRights _ b => bodyOk b
  | .eventFilter _ b => bodyOk b
  | .eventFetch _ b => bodyOk b
  | .eventStatus _ b => bodyOk b
  | .sessionRecordTaken _ => true
  | .drainTimeout _ => true
  | .sessionIdleTimeout _ => true
  | .portStatus _ b => bodyOk b
  | .portEnrol _ b d => bodyOk b && d.wf
  | .portRetire _ b => bodyOk b
  | .enter _ b => bodyOk b
  | .enterDiscard _ b => bodyOk b
  | .quarantineRelease _ b => bodyOk b
  | .departRequest _ b => bodyOk b
  | .departCancel _ b => bodyOk b
  | .portInfo _ b => bodyOk b
  | .svcStatus _ b => bodyOk b
  | .svcChallenge _ b => bodyOk b
  | .svcChallengeExpiry => true
  | .svcReopen _ b => bodyOk b
  | .svcClose _ b => bodyOk b
  | .sesClose _ _ _ => true
  | .gwConfigSend => true
  | .mainsOutOfLimits => true
  | .bulkBelow380 => true
  | .mainsReturn => true
  | .chargerRestart => true
  | .reserveReadyTimeout => true
  | .reserveTestStart => true
  | .reserveTestEnd a b c => a < 65536 && b < 65536 && c < 65536
  | .domainTrip _ => true
  | .domainRetryTimer _ => true
  | .sensorSample m => m.temps.length == 8
  | .on _ => true
  | .off _ => true
  | .pwrResTest _ => true
  | .cntClear _ p => pageOk p
  | .cfgLock _ p => pageOk p
  | .errLock _ p => pageOk p
  | .loRegisterRead _ p o => pageOk p && o.toNat % 4 == 0
  | .pwStateRead _ _ => true
  | .registerWrite p o _ => pageOk p && o.toNat % 4 == 0
  | .symbolLock _ => true
  | .trainingSequenceReceived _ => true
  | .dpInputChange _ _ => true
  | .sheafLate _ => true
  | .reserveReady => true
  | .pkeKatDone _ _ => true
  | .hshTestDone _ _ => true
  | .retainedStoreRefresh => true

end Sys2Proof
end

