-- ==== Sys2Proof/Tests/Slice0.lean ====
section
/-! SUPPORT. The author's tests: a state for each hypothesis of each statement (test_hyps_*), ill-formed commands refused by each check
of WellFormed, and values that the spec or its standards state. -/

open Sys2Proof Sys2Proof.Machine

namespace Sys2Proof.Tests

-- One test at a time: their kernel evaluations would otherwise wait for each other, each on a thread of its own.
set_option Elab.async false

/-- A serving module: port 0 held with its link up, every hall running, session 0 the Owner's, the warden on landing A. -/
def W : State :=
  { time := 2400000, modState := .serving,
    ports := [(0, { st := .held, link := { phase := .trained, up := true } })],
    halls := [0, 1, 2, 3].map (fun h => (h, { phase := .run, serveEn := true, admitEn := true, commitEn := true, galOn := 4 })),
    sessions := [(0, { st := 2, role := 1 })],
    gran := { slots := [(16, { alg := 1 }), (17, { alg := 1 })], ready := true },
    loft := { landA := 1 }, otp := { scanned := true }, pwr := { mainsOk := true, ready := true } }

/-- W with the encoders' supply domains on. -/
def Wenc : State :=
  { W with pwr := { mainsOk := true, ready := true, doms := (List.range 32).map (fun n => (1058 + n, { on := true })) } }

/-- A descriptor of an ECDSA P-256 verification. -/
def DESC : Bytes :=
  [2, 4, 0, 0, 0xFF, 0xFF, 0, 1, 5, 0, 0, 0, 0, 0, 0, 0, 8, 0, 8, 0, 8, 0, 16, 0, 128, 0] ++ zeros 38

/-- A device as read at enrolment. -/
def DEV : DeviceRead :=
  ⟨[0xEF, 0x40, 0x20], false, 7, 400, 3000, 45, 120, 150, 700, 30, 3, 80000, 256, 3, 2, 32, 82, 216, 0, 3, 0, 50⟩

/-- A manifest of one part that lists port 0. -/
def MAN : Bytes :=
  ascii "MLBR" ++ [1, 0, 1, 0] ++ le 4 648 ++ zeros 12 ++ List.replicate 16 0xFF ++ zeros 112 ++
  ([1, 0] ++ zeros 22 ++ [1] ++ zeros 51 ++ [1] ++ zeros 323) ++ zeros 96

/-- W with a live session and that manifest in slot 0, its signer held in OTP. -/
def Wman : State :=
  { W with manSlots := [(0, { bytes := MAN, complete := true })],
           otp := { scanned := true, shadow := (List.range 12).map (fun i => (76 + i, { cls := 1, val := num (sha384 (zeros 97)) (4 * i) 4 })) } }

/-- The generator of P-384 as a public key: the public key of the scalar 1. -/
def WPUB : Bytes := p384.encode p384.gen

/-- The signed 184 bytes of a warden image's header, for a code of one byte 0 (08 Table 8.7). -/
def WHDR : Bytes := ascii "WDN1" ++ le 4 1 ++ zeros 24 ++ sha384 [0] ++ WPUB ++ zeros 7

/-- Their ECDSA signature by the scalar 1 with nonce 1: r is the generator's x and s = e + r. -/
def WSIG : Bytes := beBytes 48 p384.gx ++ beBytes 48 ((beNat (sha384 WHDR) + p384.gx) % p384.n)

/-- W with a warden image in slot 0, its signer held in OTP (08 R264). -/
def Wwdn : State :=
  { W with wslots := [(0, WHDR ++ WSIG ++ List.replicate 3816 0xFF ++ [0])],
           otp := { scanned := true, shadow := (List.range 12).map (fun i => (32 + i, { cls := 1, val := num (sha384 WPUB) (4 * i) 4 })) } }

/-- A manifest of one port part that lists no port (08 Table 8.5). -/
def MAN4 : Bytes :=
  ascii "MLBR" ++ [1, 0, 1, 0] ++ le 4 648 ++ zeros 4 ++ le 4 1 ++ zeros 4 ++ List.replicate 16 0xFF ++ zeros 112 ++
  ([1, 0] ++ zeros 18 ++ le 4 1 ++ [1] ++ zeros 375) ++ zeros 96

/-- A manifest of the warden part. -/
def MANW : Bytes :=
  ascii "MLBR" ++ [1, 0, 1, 0] ++ le 4 648 ++ zeros 4 ++ le 4 1 ++ zeros 4 ++ List.replicate 16 0xFF ++ zeros 112 ++
  ([2, 0] ++ zeros 18 ++ le 4 4096 ++ zeros 376) ++ zeros 96

/-- A manifest whose warden part is the image of one byte 7. -/
def MANW7 : Bytes := zeros 152 ++ [2, 0] ++ zeros 18 ++ le 4 1 ++ zeros 4 ++ imageRoot [7] ++ zeros 324

/-- A frame of channel 0 with type 2, which no tap sends (02 Table 2.3). -/
def BADTYPE : Bytes := [0x10, 0, 0, 0, 0, 0, 0, 0] ++ le 4 (crc32c [0x10, 0, 0, 0, 0, 0, 0, 0]).toNat

/-- An Ed25519 verification of the empty message: R and the key are the identity and S is 0, so it holds. -/
def EDJ : PkeJob :=
  { cls := 3, tag := .warden 0, at_ := 0, cmd := 2, alg := 7, words := [8, 8, 8, 8, 128], ins := [[], 1 :: zeros 31, [], 1 :: zeros 31] }

/-- A change report. -/
def REP : HReport := ⟨0, .held, .held, false, 0, false, none, 0, false⟩

/-- W with a challenge of session 0, in the service role, open, and a service key. -/
def Wsvc : State :=
  { W with sessions := [(0, { st := 2, role := 3 })], svc := { chal := some (0, 1, [], ⟨0, 1000000⟩) }, otp := {},
           gran := { slots := [(8, { alg := 2, key := [1] }), (16, { alg := 1 }), (17, { alg := 1 })], ready := true } }

/-- States and operands that meet the hypotheses of LinkTrainingRuns. -/
theorem test_hyps_LinkTrainingRuns :
    (∃ (s : State) (p : PortId), s.alive ∧ (s.port p).st = .absent ∧ (s.port p).link.phase = .off ∧ (s.port p).link.idleEnd = none ∧ s.domOn p ∧ (s.port p).rls.departed = false) ∧
    (∃ (s : State) (p : PortId), s.training p) ∧
    (∃ (s : State) (p : PortId), s.training p ∧ (s.port p).link.phase = .ts1) ∧
    (∃ (s : State) (p : PortId), s.training p ∧ (s.port p).st = .linking) ∧
    (∃ (s : State) (p : PortId) (w : Window), s.alive ∧ (s.port p).mayTrain ∧ (s.port p).link.trainWin = some w) ∧
    (∃ (s : State) (p : PortId) (e : Nat), s.alive ∧ (s.port p).mayTrain ∧ (s.port p).link.retryEnd = some e) :=
  ⟨⟨{ W with ports := [], pwr := { doms := [(0, { on := true })] } }, 0, by decide, by decide, by decide, by decide, by decide, by decide⟩,
   ⟨W.modPort 0 (fun v => { v with st := .linking, link := { phase := .detected, trainWin := some ⟨0, 1000000⟩ } }), 0, by decide⟩,
   ⟨W.modPort 0 (fun v => { v with st := .linking, link := { phase := .ts1, trainWin := some ⟨0, 1000000⟩ } }), 0, by decide, by decide⟩,
   ⟨W.modPort 0 (fun v => { v with st := .linking, link := { phase := .ts2, trainWin := some ⟨0, 1000000⟩ } }), 0, by decide, by decide⟩,
   ⟨W.modPort 0 (fun v => { v with st := .linking, link := { phase := .ts1, trainWin := some ⟨0, 1000000⟩ } }), 0, _, by decide, by decide, rfl⟩,
   ⟨W.modPort 0 (fun v => { v with st := .linking, link := { retryEnd := some 5 } }), 0, _, by decide, by decide, rfl⟩⟩

/-- States and operands that meet the hypotheses of LinkLossRuns. -/
theorem test_hyps_LinkLossRuns :
    (∃ (s : State) (p : PortId), s.trained p) ∧
    (∃ (s : State) (p : PortId) (e : Nat), (s.port p).link.idleEnd = some e) ∧
    (∃ (s : State) (p : PortId) (v : Vc) (x : Window × Nat), s.linkUp p ∧ tabFind (s.port p).link.stalls (vcNum v) = some x ∧ ¬ x.2 + 1 ≥ 16) ∧
    (∃ (s : State) (p : PortId), s.trained p ∧ s.clean p) :=
  ⟨⟨W, 0, by decide⟩,
   ⟨W.modLink 0 (fun l => { l with idleEnd := some 5 }), 0, _, rfl⟩,
   ⟨W.modLink 0 (fun l => { l with stalls := [(0, (⟨0, 5⟩, 0))] }), 0, .vc0, _, by decide, rfl, by decide⟩,
   ⟨W, 0, by decide, by decide⟩⟩

/-- States and operands that meet the hypotheses of SequencedDeliveryRuns. -/
theorem test_hyps_SequencedDeliveryRuns_1 :
    (∃ (s : State) (p : PortId) (w : Window), s.linkUp p ∧ (s.port p).link.replay ≠ [] ∧ (s.port p).link.replayWin = some w) ∧
    (∃ (s : State) (p : PortId) (e : Nat), s.linkUp p ∧ (s.port p).link.nakEnd = some e) ∧
    (∃ (s : State) (p : PortId) (raw : Bytes), rxCheck raw = .crcError ∧ (s.port p).link.lateBy s.hnow = false ∧ s.trained p ∧ (s.port p).link.nakEnd = none) ∧
    (∃ (s : State) (p : PortId) (raw : Bytes) (h : Header) (v : Vc), s.hears p ∧ rxCheck raw = .protocolError h ∧ vcOf h.vc = some v ∧ h.seq = (s.port p).link.rxExp) ∧
    (∃ (s : State) (p : PortId) (raw : Bytes) (h : Header), s.trained p ∧ (s.port p).link.up = false ∧ s.clean p ∧ rxCheck raw = .protocolError h) ∧
    (∃ (s : State) (p : PortId) (q : BitVec 8), s.hears p ∧ (s.port p).link.rxExp - q ≠ 0#8 ∧ ((s.port p).link.rxExp - q).toNat ≤ 128) :=
  ⟨⟨W.modLink 0 (fun l => { l with replay := [{ vc := none, type := 0 }], replayWin := some ⟨0, 5⟩ }), 0, _, by decide, by decide, rfl⟩,
   ⟨W.modLink 0 (fun l => { l with nakEnd := some 5 }), 0, _, by decide, rfl⟩,
   ⟨W, 0, [], by decide +kernel, by decide, by decide, by decide⟩,
   ⟨W, 0, BADTYPE, Header.ofWord 16, .vc0, by decide, by decide +kernel, by decide +kernel, by decide⟩,
   ⟨W.modLink 0 (fun l => { l with up := false }), 0, BADTYPE, Header.ofWord 16, by decide, by decide, by decide, by decide +kernel⟩,
   ⟨W.modLink 0 (fun l => { l with rxExp := 1 }), 0, 0, by decide, by decide, by decide⟩⟩

/-- States and operands that meet the hypotheses of SequencedDeliveryRuns. -/
theorem test_hyps_SequencedDeliveryRuns_2 :
    (∃ (s : State) (p : PortId), s.hears p) :=
  ⟨W, 0, by decide⟩

/-- States and operands that meet the hypotheses of PairingRuns. -/
theorem test_hyps_PairingRuns :
    (∃ (s : State) (p : PortId) (h : TapHello), s.trained p ∧ (s.port p).link.pair = .hello ∧ h.version = 1 ∧ s.clean p) ∧
    (∃ (s : State) (p : PortId) (rt : Bytes) (k : Bytes) (pend : Bool), s.trained p ∧ (s.port p).link.pair = .resp ∧ s.pairWinOpen p ∧ (s.port p).matchRt p rt = some (k, pend) ∧ s.clean p) ∧
    (∃ (s : State) (p : PortId), s.trained p ∧ (s.port p).link.pair = .done ∧ s.pairWinOpen p ∧ s.clean p) ∧
    (∃ (s : State) (p : PortId), s.trained p ∧ (s.port p).link.pair = .creditInit ∧ s.clean p) ∧
    (∃ (s : State) (p : PortId), s.trained p ∧ (s.port p).link.pair = .resp ∧ s.clean p) ∧
    (∃ (s : State) (p : PortId) (w : Window), s.trained p ∧ (s.port p).link.pairWin = some w) :=
  ⟨⟨W.modLink 0 (fun l => { l with pair := .hello }), 0, ⟨1, 0, 0, 0, false, 0⟩, by decide, by decide, by decide, by decide⟩,
   ⟨W.modPort 0 (fun v => { v with link := { v.link with pair := .resp, pairWin := some ⟨0, 1000000⟩ }, key := { pksCur := some [] } }), 0, pairRt [] [] 0 0, [], false, by decide, by decide, by decide, by simp [Port.matchRt, W, State.modPort, State.setPort, State.port, tabSet, tabGet], by decide⟩,
   ⟨W.modLink 0 (fun l => { l with pair := .done, pairWin := some ⟨0, 1000000⟩ }), 0, by decide, by decide, by decide, by decide⟩,
   ⟨W.modLink 0 (fun l => { l with pair := .creditInit }), 0, by decide, by decide, by decide⟩,
   ⟨W.modLink 0 (fun l => { l with pair := .resp }), 0, by decide, by decide, by decide⟩,
   ⟨W.modLink 0 (fun l => { l with pairWin := some ⟨0, 5⟩ }), 0, _, by decide, rfl⟩⟩

/-- States and operands that meet the hypotheses of ReadTrafficRuns. -/
theorem test_hyps_ReadTrafficRuns :
    (∃ (s : State) (p : PortId) (cs : BitVec 16) (op : Byte) (mode : Byte) (t : State), s.hears p ∧ t = ((s.accept p .vc0 1).firstFrame p cs).endStream p ∧ (t.port p).served = false ∧ listedMode op.toNat mode.toNat = true) ∧
    (∃ (s : State) (p : PortId) (cs : BitVec 16) (op : Byte) (mode : Byte) (t : State), s.hears p ∧ t = ((s.accept p .vc0 1).firstFrame p cs).endStream p ∧ (t.port p).served = true ∧ (t.hall (hallOf p)).serveEn = true ∧ listedMode op.toNat mode.toNat = true ∧ t.injection (pgMir (hallOf p)) 2 (some p.val) = 0 ∧ (t.hall (hallOf p)).dramBad = [] ∧ (t.hall (hallOf p)).dramWeak = []) ∧
    (∃ (s : State) (p : PortId), s.hears p) ∧
    (∃ (s : State) (p : PortId) (op : BitVec 16) (result : Byte) (j : VcJob), s.hears p ∧ ((s.accept p .vc2 0).port p).jobOf op = some j ∧ result.toNat = 0 ∧ j.got.length = j.req.inCnt ∧ j.todo = []) ∧
    (∃ (s : State) (p : PortId) (i : Nat), s.alive ∧ s.flAllowed p ∧ (s.port p).st = .held ∧ (s.port p).ring.readbackPending = false ∧ (s.port p).ring.jobs = [] ∧ (s.port p).mir.refill.find? (fun i => !(s.port p).ring.entries.any (fun e => e.state == .committing && e.overlaps (i * 4096) 4096)) = some i) :=
  ⟨⟨W, 0, 0, 0x0B, 0, _, by decide, rfl, by decide, by decide⟩,
   ⟨W.modPort 0 (fun v => { v with st := .released }), 0, 0, 0x0B, 0, _, by decide, rfl, by decide, by decide, by decide, by decide, by decide, by decide⟩,
   ⟨W, 0, by decide⟩,
   ⟨W.modRing 0 (fun r => { r with jobs := [{ kind := .refill 0, op := 0, req := { opcode := 0, addr := 0 } }] }), 0, 0, 0, _, by decide, rfl, by decide, by decide, by decide⟩,
   ⟨W.modMir 0 (fun m => { m with refill := [3] }), 0, _, by decide, by decide, by decide, by decide, by decide, rfl⟩⟩

/-- States and operands that meet the hypotheses of PlatformCommandsRun. -/
theorem test_hyps_PlatformCommandsRun :
    (∃ (s : State) (p : PortId) (c : WrCmd), s.hears p ∧ cmdUnknown c = false ∧ c.cls = 4) ∧
    (∃ (s : State) (p : PortId) (c : WrCmd) (t : State), s.hears p ∧ t = ((s.accept p .vc1 1).firstFrame p c.cs).modMir p (fun m => { m with wr := none }) ∧ cmdUnknown c = false ∧ cmdWrites c = true ∧ ¬ c.count = 0) ∧
    (∃ (s : State) (p : PortId) (cs : BitVec 16) (data : Bytes) (t : State) (w : WrPend), s.hears p ∧ t = (s.accept p .vc1 1).csFrame p cs ∧ (t.port p).mir.wr = some w ∧ w.cmd.cs = cs ∧ w.cmd.count ≤ w.data.length + data.length) ∧
    (∃ (s : State), s.alive) ∧
    (∃ (s : State) (p : PortId) (c : WrCmd), s.hears p ∧ cmdUnknown c = false ∧ c.cls = 9) :=
  ⟨⟨W, 0, { cs := 0, opcode := 6, cls := 4, mode := 0, overlong := false, partialByte := false, wel := false, addr := 0, count := 0 }, by decide, by decide, by decide⟩,
   ⟨W, 0, { cs := 0, opcode := 2, cls := 6, mode := 0, overlong := false, partialByte := false, wel := true, addr := 0, count := 4 }, _, by decide, rfl, by decide, by decide, by decide⟩,
   ⟨W.modMir 0 (fun m => { m with wr := some { cmd := { cs := 0, opcode := 2, cls := 6, mode := 0, overlong := false, partialByte := false, wel := true, addr := 0, count := 0 }, bank := false } }), 0, 0, [], _, _, by decide, rfl, rfl, by decide, by decide⟩,
   ⟨W, by decide⟩,
   ⟨W, 0, { cs := 0, opcode := 0x66, cls := 9, mode := 0, overlong := false, partialByte := false, wel := false, addr := 0, count := 0 }, by decide, by decide, by decide⟩⟩

/-- States and operands that meet the hypotheses of AttentionControlRuns. -/
theorem test_hyps_AttentionControlRuns :
    (∃ (s : State) (p : PortId), s.hears p) ∧
    (∃ (s : State) (p : PortId) (e : Nat), s.linkUp p ∧ (s.port p).link.attnClr = some e) ∧
    (∃ (s : State) (p : PortId) (a : Attn) (w : Window) (q : Bool), s.alive ∧ (s.port p).link.attns.find? (fun a => a.win.isSome && a.react.isSome) = some a ∧ a.win = some w ∧ a.react = some q) :=
  ⟨⟨W, 0, by decide⟩,
   ⟨W.modLink 0 (fun l => { l with attnClr := some 5 }), 0, _, by decide, rfl⟩,
   ⟨W.modLink 0 (fun l => { l with attns := [{ id := 0, cause := 0, react := some false, win := some ⟨0, 5⟩ }] }), 0, _, _, _, by decide, rfl, rfl, rfl⟩⟩

/-- States and operands that meet the hypotheses of PolicyIndexRuns. -/
theorem test_hyps_PolicyIndexRuns_1 :
    (∃ (s : State) (h : HallId) (r : Requester) (hi : Bool), (s.reaches (pgMir h) (if hi then 0x060 else 0x05C) r) ∧ s.getSel (pgMir h) 0x058 r % 64 > 32) ∧
    (∃ (s : State) (h : HallId) (r : Requester) (p : Nat) (e : Nat) (b : Bool), s.reaches (pgMir h) 0x05C r ∧ p = s.selPort h (pgMir h) 0x048 r ∧ e = s.getSel (pgMir h) 0x058 r % 64 ∧ b = bit (s.getSel (pgMir h) 0x058 r) 8 ∧ e ≤ 32 ∧ (s.port p).mir.bankBusy b = false) ∧
    (∃ (s : State) (h : HallId) (r : Requester) (b : Bool) (p : Nat) (c : Nat × Nat), s.reaches (pgMir h) 0x064 r ∧ p = s.selPort h (pgMir h) 0x048 r ∧ c = validateBank ((s.port p).mir.bank b) (s.port p).mir.enrLen ∧ c.1 = 0) ∧
    (∃ (s : State) (h : HallId) (r : Requester), s.reaches (pgMir h) 0x064 r ∧ (s.port (s.selPort h (pgMir h) 0x048 r)).mir.armed = true) ∧
    (∃ (s : State) (h : HallId) (r : Requester) (p : Nat), s.reaches (pgMir h) 0x064 r ∧ p = s.selPort h (pgMir h) 0x048 r ∧ (s.port p).mir.armed = false ∧ ((s.port p).mir.bank (!(s.port p).mir.active)).valid = true ∧ (s.port p).tie = none) ∧
    (∃ (s : State) (h : HallId) (r : Requester) (p : Nat), s.reaches (pgMir h) 0x064 r ∧ p = s.selPort h (pgMir h) 0x048 r) :=
  ⟨⟨W.setSel (pgMir 0) 0x058 .warden 40, 0, .warden, false, by decide, by decide⟩,
   ⟨W.setSel (pgMir 0) 0x058 .warden 256, 0, .warden, _, _, _, by decide, rfl, rfl, rfl, by decide, by decide⟩,
   ⟨W, 0, .warden, false, _, _, by decide, rfl, rfl, by decide⟩,
   ⟨W.modMir 0 (fun m => { m with armed := true }), 0, .warden, by decide, by decide⟩,
   ⟨W.modMir 0 (fun m => { m with bank1 := { valid := true } }), 0, .warden, _, by decide, rfl, by decide, by decide, by decide⟩,
   ⟨W, 0, .warden, _, by decide, rfl⟩⟩

/-- States and operands that meet the hypotheses of PolicyIndexRuns. -/
theorem test_hyps_PolicyIndexRuns_2 :
    (∃ (s : State) (h : HallId) (r : Requester) (v : Word) (p : Nat), s.reaches (pgMir h) 0x04C r ∧ s.frozen (pgMir h) 0x04C v.toNat = false ∧ p = s.selPort h (pgMir h) 0x048 r ∧ cfgState (s.port p).st = true ∧ bits v.toNat 10 0 ≤ 1024) ∧
    (∃ (s : State) (h : HallId) (r : Requester) (v : Word) (p : Nat), s.reaches (pgMir h) 0x050 r ∧ s.frozen (pgMir h) 0x050 v.toNat = false ∧ p = s.selPort h (pgMir h) 0x048 r ∧ cfgState (s.port p).st = false) :=
  ⟨⟨W, 0, .warden, 0, _, by decide, by decide, rfl, by decide, by decide⟩,
   ⟨W.modPort 0 (fun v => { v with st := .released }), 0, .warden, 0, _, by decide, by decide, rfl, by decide⟩⟩

/-- States and operands that meet the hypotheses of RingCommitRuns. -/
theorem test_hyps_RingCommitRuns :
    (∃ (s : State) (p : PortId) (e : Entry), (s.port p).ring.head = some e ∧ s.commitReady p ∧ s.injection (pgRng (hallOf p)) 0 (some p.val) = 0 ∧ (s.hall (hallOf p)).dramBad = [] ∧ s.ledgerRoom) ∧
    (∃ (s : State) (p : PortId), s.alive ∧ s.flAllowed p ∧ (s.port p).st = .held ∧ (s.port p).ring.readbackPending ∧ (s.port p).ring.jobs = []) ∧
    (∃ (s : State) (p : PortId) (d : Nat) (qs : List Nat), (s.port p).ring.nextExpiry = some d ∧ s.alive ∧ (s.port p).st ≠ .quarantined ∧ qs = ((s.toHall (d + 1)).port p).ring.seqs (fun e => e.state == .held && e.win.map (·.dl) == some d)) ∧
    (∃ (s : State) (h : HallId) (t : State), s.alive ∧ (s.hall h).phase = .run ∧ t = (s.toHall ((s.hall h).ckptAt + 8000000000)).modHall h (fun x => { x with ckptAt := (s.toHall ((s.hall h).ckptAt + 8000000000)).hnow })) :=
  ⟨⟨W.modRing 0 (fun r => { r with entries := [{ seq := 1, state := .accepted, kind := .program, policy := 0, off := 0 }] }), 0, _, rfl, by decide, by decide, by decide, by decide⟩,
   ⟨W.modRing 0 (fun r => { r with entries := [{ seq := 1, state := .committing, kind := .program, policy := 0, off := 0, readback := true }] }), 0, by decide, by decide, by decide, by decide, by decide⟩,
   ⟨W.modRing 0 (fun r => { r with entries := [{ seq := 1, state := .held, kind := .program, policy := 0, off := 0, win := some ⟨0, 5⟩ }] }), 0, _, _, rfl, by decide, by decide, rfl⟩,
   ⟨W, 0, _, by decide, by decide, rfl⟩⟩

/-- States and operands that meet the hypotheses of RingDecisionRuns. -/
theorem test_hyps_RingDecisionRuns_1 :
    (∃ (s : State) (h : HallId) (r : Requester) (n : Nat) (p : Nat) (d : State × Nat × Nat), s.reaches (pgRng h) 0x078 r ∧ p = s.selPort h (pgRng h) 0x04C r ∧ d = s.decide p true (s.hall h).decFirst (n % 65536) 0 0xFF) ∧
    (∃ (s : State) (h : HallId) (r : Requester) (n : Nat) (p : Nat) (d : State × Nat × Nat), s.reaches (pgRng h) 0x078 r ∧ p = s.selPort h (pgRng h) 0x04C r ∧ d = s.decide p false (s.hall h).decFirst (n % 65536) 0 0xFF) ∧
    (∃ (s : State) (x : SessId) (b : Bytes) (d : State × Nat × Nat), s.opens x ∧ ((s.ses x).eff != 4) = true ∧ b.length = 11 ∧ portOk b ∧ (s.taken x 0x2A).hallRuns (num b 0 2) = true ∧ num b 10 1 = 1 ∧ d = (s.taken x 0x2A).decide (num b 0 2) true (num b 2 6) (num b 8 2) (deciderOf ((s.taken x 0x2A).ses x).eff) x) ∧
    (∃ (s : State) (x : SessId) (b : Bytes), s.opens x ∧ ((s.ses x).eff != 4) = true ∧ b.length = 11 ∧ portOk b ∧ (s.taken x 0x2A).hallRuns (num b 0 2) = false) ∧
    (∃ (s : State) (x : SessId) (b : Bytes), s.opens x ∧ b.length = 10 ∧ portOk b ∧ 1 ≤ num b 8 2 ∧ num b 8 2 ≤ 64 ∧ (s.taken x 0x28).hallRuns (num b 0 2) = true) ∧
    (∃ (s : State) (x : SessId) (b : Bytes), s.opens x ∧ b.length = 8 ∧ portOk b ∧ (s.taken x 0x29).hallRuns (num b 0 2) = true) :=
  ⟨⟨W, 0, .warden, 0, _, _, by decide, rfl, rfl⟩,
   ⟨W, 0, .warden, 0, _, _, by decide, rfl, rfl⟩,
   ⟨W, 0, [0, 0, 1, 0, 0, 0, 0, 0, 1, 0, 1], _, by decide, by decide, by decide, by decide, by decide, by decide, rfl⟩,
   ⟨{ W with halls := [] }, 0, [0, 0, 1, 0, 0, 0, 0, 0, 1, 0, 1], by decide, by decide, by decide, by decide, by decide⟩,
   ⟨W, 0, [0, 0, 1, 0, 0, 0, 0, 0, 64, 0], by decide, by decide, by decide, by decide, by decide, by decide⟩,
   ⟨W, 0, zeros 8, by decide, by decide, by decide, by decide⟩⟩

/-- States and operands that meet the hypotheses of RingDecisionRuns. -/
theorem test_hyps_RingDecisionRuns_2 :
    (∃ (s : State) (x : SessId) (b : Bytes), s.opens x ∧ b.length = 2 ∧ portOk b ∧ (s.taken x 0x2B).hallRuns (num b 0 2) = true) :=
  ⟨W, 0, [0xFF, 3], by decide, by decide, by decide, by decide⟩

/-- States and operands that meet the hypotheses of GleanScrubRuns. -/
theorem test_hyps_GleanScrubRuns_1 :
    (∃ (s : State), s.alive) ∧
    (∃ (s : State) (p : PortId) (t0 : Nat) (t : State), s.alive ∧ (s.port p).gln.t0 = some t0 ∧ (s.port p).leafCount ≤ (s.port p).gln.read ∧ t = s.toHall (t0 + (s.hall (hallOf p)).cycleS * 800000000)) ∧
    (∃ (s : State) (p : PortId) (t0 : Nat), s.alive ∧ (s.port p).gln.t0 = some t0 ∧ (s.port p).gln.read < (s.port p).leafCount ∧ (s.port p).gln.late = false) ∧
    (∃ (s : State) (p : PortId) (h : Heal), (s.port p).gln.heal = some h ∧ s.alive ∧ h.durable ∧ h.running = false ∧ h.abandoned = false ∧ s.flAllowed p ∧ s.kindAllowed p .healWrite ∧ (s.port p).ring.readbackPending = false ∧ (s.port p).ring.entries = [] ∧ s.ledgerRoom) ∧
    (∃ (s : State) (h : HallId) (r : Requester), s.reaches (pgHsh h) 0x048 r ∧ s.modState = .serving) ∧
    (∃ (s : State) (h : HallId) (failed : BitVec 8), s.alive ∧ (s.hall h).testing ∧ failed.toNat &&& (s.hall h).laneEn = 0 ∧ (s.hall h).laneFail % 256 ≠ 255) :=
  ⟨⟨W, by decide⟩,
   ⟨W.modGln 0 (fun g => { g with t0 := some 0 }), 0, _, _, by decide, rfl, by decide, rfl⟩,
   ⟨(W.modGln 0 (fun g => { g with t0 := some 0 })).modMir 0 (fun m => { m with enrLen := 1 }), 0, _, by decide, rfl, by decide, by decide⟩,
   ⟨W.modGln 0 (fun g => { g with heal := some { first := 0, count := 1, content := [], durable := true } }), 0, _, rfl, by decide, by decide, by decide, by decide, by decide, by decide, by decide, by decide, by decide⟩,
   ⟨W, 0, .warden, by decide, by decide⟩,
   ⟨W.modHall 0 (fun h => { h with testing := true }), 0, 0, by decide, by decide, by decide, by decide⟩⟩

/-- States and operands that meet the hypotheses of GleanScrubRuns. -/
theorem test_hyps_GleanScrubRuns_2 :
    (∃ (s : State) (h : HallId), s.alive ∧ (s.hall h).phase = .run ∧ (s.hall h).scrubEn ∧ s.injection (pgDrc h) 0 none = 0) :=
  ⟨W, 0, by decide, by decide, by decide, by decide⟩

/-- States and operands that meet the hypotheses of StartUpRuns. -/
theorem test_hyps_StartUpRuns :
    (∃ (s : State) (m : SupplyReading), 800 ≤ m.vrms ∧ m.vrms ≤ 3000 ∧ s.modState = .cold ∧ s.pwr.mainsOk = false) ∧
    (∃ (s : State), s.modState = .cold ∧ s.pwr.mainsOk ∧ s.loft.resetting = none ∧ s.loft.thermalHold = false ∧ s.loft.relAt = 0) ∧
    (∃ (s : State) (t : State), s.modState = .cold ∧ s.pwr.mainsOk ∧ s.loft.resetting = none ∧ s.loft.thermalHold = false ∧ s.loft.relAt ≠ 0 ∧ t = s.toLoft s.loft.relAt) ∧
    (∃ (s : State) (t : Nat), s.puf.retryAt = some t ∧ s.alive ∧ s.modState = .loftBoot ∧ s.loft.halted = false) ∧
    (∃ (s : State), s.alive ∧ s.loft.halted = false ∧ s.modState = .loftBoot ∧ s.loft.restart = false ∧ s.loft.bootOk) :=
  ⟨⟨State.reset, ⟨800, 0, 0, 0, 0, 0⟩, by decide, by decide, by decide, by decide⟩,
   ⟨{ State.reset with pwr := { mainsOk := true } }, by decide, by decide, by decide, by decide, by decide⟩,
   ⟨{ State.reset with pwr := { mainsOk := true }, loft := { relAt := 300000000 } }, _, by decide, by decide, by decide, by decide, by decide, rfl⟩,
   ⟨{ State.reset with modState := .loftBoot, puf := { retryAt := some 5 } }, _, rfl, by decide, by decide, by decide⟩,
   ⟨{ State.reset with modState := .loftBoot, loft := { bootOk := true } }, by decide, by decide, by decide, by decide, by decide⟩⟩

/-- States and operands that meet the hypotheses of BringupRuns. -/
theorem test_hyps_BringupRuns :
    (∃ (s : State) (h : HallId), s.alive ∧ (s.hall h).phase = .training ∧ (s.hall h).trained = false) ∧
    (∃ (s : State) (h : HallId) (lf : BitVec 8) (t : State), s.alive ∧ (s.hall h).phase = .training ∧ (s.hall h).trained = false ∧ t = s.modHall h (fun y => { y with trained := true, pksFilled := true, testDone := true, testPass := lf.toNat == 0 })) ∧
    (∃ (s : State) (h : HallId) (t : State), s.alive ∧ (s.hall h).phase = .training ∧ (s.hall h).replayed = false ∧ t = ((s.hallReplay h).modHall h (fun y => { y with replayed := true })).hallUp h) ∧
    (∃ (s : State) (t : State), s.alive ∧ s.modState ≠ .loftBoot ∧ s.modState ≠ .shutter ∧ [0, 1, 2, 3].any (fun h => (s.hall h).phase == .run && (s.hall h).galOn != 4) = true ∧ t = each [0, 1, 2, 3] (fun h t => t.nextGallery h) (s.toLoft s.loft.phyAt)) ∧
    (∃ (s : State) (w : Window) (t : State), s.loft.bringWin = some w ∧ t = (s.toLoft (w.dl + 1)).modLoft (fun l => { l with bringWin := none }) ∧ s.alive ∧ s.modState = .hallBringup) ∧
    (∃ (s : State) (p : PortId) (w : Window), (s.port p).rls.bootWin = some w) :=
  ⟨⟨W.modHall 0 (fun h => { h with phase := .training }), 0, by decide, by decide, by decide⟩,
   ⟨W.modHall 0 (fun h => { h with phase := .training }), 0, 0, _, by decide, by decide, by decide, rfl⟩,
   ⟨W.modHall 0 (fun h => { h with phase := .training }), 0, _, by decide, by decide, by decide, rfl⟩,
   ⟨W.modHall 0 (fun h => { h with galOn := 0 }), _, by decide, by decide, by decide, by decide, rfl⟩,
   ⟨{ W with modState := .hallBringup, loft := { bringWin := some ⟨0, 5⟩ } }, _, _, rfl, rfl, by decide, by decide⟩,
   ⟨W.modRls 0 (fun r => { r with bootWin := some ⟨0, 5⟩ }), 0, _, rfl⟩⟩

/-- States and operands that meet the hypotheses of FlightRuns. -/
theorem test_hyps_FlightRuns_1 :
    (∃ (s : State), s.alive) ∧
    (∃ (s : State) (g : BitVec 8) (v : Nat) (v2 : Nat), s.groupAll g.toNat = [v, v2] ∧ (s.port v).ready = true ∧ (s.port v2).ready = false ∧ (s.port v).rls.verified = true ∧ (s.port v2).rls.verified = false ∧ s.alive ∧ g.toNat ≠ 0) ∧
    (∃ (s : State) (h : HallId) (g : BitVec 8), s.alive ∧ (s.hall h).outq.head? = some (.group g.toNat)) ∧
    (∃ (s : State) (t : State), s.alive ∧ t = s.toHall ((s.hnow / 80000000 + 1) * 80000000)) ∧
    (∃ (s : State) (h : HallId) (r : Requester) (p : Nat), s.reaches (pgRls h) 0x064 r ∧ p = s.selPort h (pgRls h) 0x054 r ∧ s.modState ≠ .departing ∧ (s.port p).st = .held ∧ (s.port p).rls.hold = true ∧ (s.port p).rls.verified = true) ∧
    (∃ (s : State) (h : HallId) (r : Requester), s.reaches (pgRls h) 0x064 r ∧ s.modState = .departing) :=
  ⟨⟨W, by decide⟩,
   ⟨{ W with ports := [(0, { st := .held, mir := { bank0 := { valid := true } }, rls := { group := 1, verified := true } }), (1, { st := .held, rls := { group := 1 } })] }, 1, 0, 1, by decide, by decide, by decide, by decide, by decide, by decide, by decide⟩,
   ⟨W.modHall 0 (fun h => { h with outq := [.group 1] }), 0, 1, by decide, by decide⟩,
   ⟨W, _, by decide, rfl⟩,
   ⟨W.modRls 0 (fun r => { r with hold := true, verified := true }), 0, .warden, _, by decide, rfl, by decide, by decide, by decide, by decide⟩,
   ⟨{ W with modState := .departing }, 0, .warden, by decide, by decide⟩⟩

/-- States and operands that meet the hypotheses of FlightRuns. -/
theorem test_hyps_FlightRuns_2 :
    (∃ (s : State) (h : HallId) (r : Requester) (p : Nat), s.reaches (pgRls h) 0x064 r ∧ p = s.selPort h (pgRls h) 0x054 r ∧ (s.port p).st = .released) ∧
    (∃ (s : State) (h : HallId) (r : Requester) (p : Nat), s.reaches (pgRls h) 0x064 r ∧ p = s.selPort h (pgRls h) 0x054 r ∧ s.modState ≠ .departing ∧ (s.port p).st = .held) :=
  ⟨⟨W.modPort 0 (fun v => { v with st := .released }), 0, .warden, _, by decide, rfl, by decide⟩,
   ⟨W, 0, .warden, _, by decide, rfl, by decide, by decide⟩⟩

/-- States and operands that meet the hypotheses of DepartureShutterRuns. -/
theorem test_hyps_DepartureShutterRuns :
    (∃ (s : State) (p : PortId), s.alive ∧ s.depTurn p) ∧
    (∃ (s : State), s.alive) ∧
    (∃ (s : State) (x : Shutter), s.shutter = some x ∧ x.step = 0) ∧
    (∃ (s : State) (x : Shutter), s.shutterHandoff.shutter = some x ∧ x.step = 1) ∧
    (∃ (s : State) (x : Shutter), s.shutter = some x ∧ x.step = 2 ∧ x.thermal = false) :=
  ⟨⟨{ W with modState := .departing }, 0, by decide, by decide⟩,
   ⟨W, by decide⟩,
   ⟨{ W with shutter := some {} }, _, rfl, by decide⟩,
   ⟨{ W with shutter := some {} }, _, rfl, by decide⟩,
   ⟨{ W with shutter := some { step := 2 } }, _, rfl, by decide, by decide⟩⟩

/-- States and operands that meet the hypotheses of EncoderInputsRun. -/
theorem test_hyps_EncoderInputsRun_1 :
    (∃ (s : State) (n : InputId), s.encOn n) ∧
    (∃ (s : State) (n : InputId) (t : State), s.encOn n ∧ (s.enc n).dirInv = false ∧ t = s.modEnc n (fun e => { e with backward := false, rateCnt := e.rateCnt + 1, fwd := e.fwd + 1, cand := e.cand.map (fun c => (c.1, c.2.1, c.2.2 + 1)) })) ∧
    (∃ (s : State) (n : InputId) (t : State), s.encOn n ∧ (s.enc n).dirInv = false ∧ t = s.modEnc n (fun e => { e with backward := true, rateCnt := e.rateCnt + 1 })) ∧
    (∃ (s : State) (n : InputId), s.encOn n ∧ (s.enc n).indexEn ∧ (s.enc n).idxSeen ∧ (s.enc n).fwd ≤ (s.enc n).period ∧ ((s.enc n).period != 0) = true ∧ (s.enc n).tol < (s.enc n).period - (s.enc n).fwd) ∧
    (∃ (s : State) (n : InputId), s.encOn n ∧ (s.enc n).indexEn = false) ∧
    (∃ (s : State) (n : InputId), s.encOn n ∧ (s.tr n).blk.enabled ∧ (s.tr n).blk.maxRate < (s.enc n).rateCnt * 1000) :=
  ⟨⟨Wenc, 0, by decide⟩,
   ⟨Wenc, 0, _, by decide, by decide, rfl⟩,
   ⟨Wenc, 0, _, by decide, by decide, rfl⟩,
   ⟨Wenc.modEnc 0 (fun x => { x with indexEn := true, idxSeen := true, period := 100, fwd := 95 }), 0, by decide, by decide, by decide, by decide, by decide, by decide⟩,
   ⟨Wenc, 0, by decide, by decide⟩,
   ⟨(Wenc.modEnc 0 (fun x => { x with rateCnt := 1 })).modTr 0 (fun x => { x with blk := { enabled := true } }), 0, by decide, by decide, by decide⟩⟩

/-- States and operands that meet the hypotheses of EncoderInputsRun. -/
theorem test_hyps_EncoderInputsRun_2 :
    (∃ (s : State) (n : InputId) (level : Bool), s.encOn n ∧ level ≠ (s.enc n).raw ∧ (s.enc n).backward = false ∧ (level != (s.enc n).dpInv) = (s.enc n).dp) ∧
    (∃ (s : State) (n : InputId) (level : Bool), s.encOn n ∧ level ≠ (s.enc n).raw ∧ (s.enc n).backward = false ∧ (level != (s.enc n).dpInv) ≠ (s.enc n).dp ∧ (s.enc n).candIs (level != (s.enc n).dpInv) = false) ∧
    (∃ (s : State) (n : InputId) (level : Bool), s.encOn n ∧ level ≠ (s.enc n).raw ∧ (s.enc n).backward) :=
  ⟨⟨Wenc.modEnc 0 (fun x => { x with dp := true }), 0, true, by decide, by decide, by decide, by decide⟩,
   ⟨Wenc, 0, true, by decide, by decide, by decide, by decide, by decide⟩,
   ⟨Wenc.modEnc 0 (fun x => { x with backward := true }), 0, true, by decide, by decide, by decide⟩⟩

/-- States and operands that meet the hypotheses of GapWindowsRun. -/
theorem test_hyps_GapWindowsRun :
    (∃ (s : State) (t : TransId), s.alive ∧ (s.tr t).st = .moving) ∧
    (∃ (s : State) (t : TransId) (c : Nat) (u : State), s.alive ∧ (s.tr t).st = .idle ∧ (s.tr t).idleNext = some c ∧ u = ((s.toLoft c).closeGap t 0 true).modTr t (fun x => { x with idleNext := some (max s.lnow c + 60000000) })) ∧
    (∃ (s : State) (t : TransId) (g : Gap), s.alive ∧ (s.tr t).idleGap = some g) ∧
    (∃ (s : State) (t : TransId) (g : Gap), s.alive ∧ t.val < 16 ∧ (s.tr t).gap = some g ∧ posAfter (s.tr t).pos g.dlPos) ∧
    (∃ (s : State) (t : TransId) (g : Gap), s.alive ∧ t.val < 16 ∧ (s.tr t).gap = some g ∧ posAfter (s.tr t).pos g.dlPos = false) ∧
    (∃ (s : State) (t : TransId) (g : Gap), s.alive ∧ 16 ≤ t.val ∧ (s.tr t).gap = some g ∧ g.said) :=
  ⟨⟨W.modTr 0 (fun x => { x with st := .moving }), 0, by decide, by decide⟩,
   ⟨W.modTr 0 (fun x => { x with st := .idle, idleNext := some 5 }), 0, _, _, by decide, by decide, rfl, rfl⟩,
   ⟨W.modTr 0 (fun x => { x with idleGap := some { no := 0, idle := true, opn := 0, said := true } }), 0, _, by decide, rfl⟩,
   ⟨W.modTr 0 (fun x => { x with pos := 11, gap := some { no := 0, idle := false, opn := 0, dlPos := 10, said := true } }), 0, _, by decide, by decide, rfl, by decide⟩,
   ⟨W.modTr 0 (fun x => { x with pos := 10, gap := some { no := 0, idle := false, opn := 0, dlPos := 10, said := true } }), 0, _, by decide, by decide, rfl, by decide⟩,
   ⟨W.modTr 16 (fun x => { x with gap := some { no := 0, idle := false, opn := 0, said := true } }), 16, _, by decide, by decide, rfl, by decide⟩⟩

/-- States and operands that meet the hypotheses of ScheduledChangesRun. -/
theorem test_hyps_ScheduledChangesRun :
    (∃ (s : State) (h : HallId) (n : GapNote) (l : List StairIn), s.alive ∧ (s.hall h).inq = .opened n :: l) ∧
    (∃ (s : State) (h : HallId) (n : GapEnd) (l : List StairIn), s.alive ∧ (s.hall h).inq = .closed n :: l) ∧
    (∃ (s : State) (p : PortId) (b : Bound) (dl : Nat) (t : State), s.alive ∧ firstDefer (s.port p).bounds = some (b, dl) ∧ t = (s.toHall (dl + 1)).modPort p (fun v => { v with bounds := v.bounds.erase b }) ∧ t.changeApplies p b.kind = true) ∧
    (∃ (s : State) (p : PortId) (b : Bound) (dl : Nat) (t : State), s.alive ∧ firstDefer (s.port p).bounds = some (b, dl) ∧ t = (s.toHall (dl + 1)).modPort p (fun v => { v with bounds := v.bounds.erase b }) ∧ t.changeApplies p b.kind = false) ∧
    (∃ (s : State) (h : HallId) (n : HReport) (l : List StairOut), s.alive ∧ (s.hall h).outq = .change n :: l) :=
  ⟨⟨W.modHall 0 (fun h => { h with inq := [.opened ⟨0, 0, true, 0, 0, 0⟩] }), 0, _, _, by decide, rfl⟩,
   ⟨W.modHall 0 (fun h => { h with inq := [.closed ⟨0, 0, 0⟩] }), 0, _, _, by decide, rfl⟩,
   ⟨W.modPort 0 (fun v => { v with bounds := [{ kind := .quarantine 16 false, win := some ⟨0, 5⟩ }] }), 0, { kind := .quarantine 16 false, win := some ⟨0, 5⟩ }, 5, _, by decide, by decide, rfl, by decide⟩,
   ⟨W.modPort 0 (fun v => { v with bounds := [{ kind := .reset 0, win := some ⟨0, 5⟩ }] }), 0, { kind := .reset 0, win := some ⟨0, 5⟩ }, 5, _, by decide, by decide, rfl, by decide⟩,
   ⟨W.modHall 0 (fun h => { h with outq := [.change REP] }), 0, _, _, by decide, rfl⟩⟩

/-- States and operands that meet the hypotheses of TransportSetupRuns. -/
theorem test_hyps_TransportSetupRuns_1 :
    (∃ (s : State) (r : Requester), s.reaches pgLp 0x044 r) ∧
    (∃ (s : State) (r : Requester), s.reaches pgLp 0x060 r ∧ s.commitCode (selTr s r) (tabGet [0, 0, 0, 0, 0, 0] s.lpStage (reqNum r)) ≠ 0) ∧
    (∃ (s : State) (r : Requester) (t : Nat) (w : List Nat), s.reaches pgLp 0x060 r ∧ t = selTr s r ∧ w = tabGet [0, 0, 0, 0, 0, 0] s.lpStage (reqNum r) ∧ s.commitCode t w = 0 ∧ (s.tr t).blk.enabled = (blockOf w).enabled) ∧
    (∃ (s : State) (r : Requester), s.reaches pgLp 0x060 r ∧ (s.tr (selTr s r)).st ≠ .faulted) ∧
    (∃ (s : State) (r : Requester) (t : Nat), s.reaches pgLp 0x060 r ∧ t = selTr s r ∧ (s.tr t).st = .faulted ∧ s.faultStays t = none) ∧
    (∃ (s : State) (r : Requester), s.reaches pgLp 0x060 r) :=
  ⟨⟨W, .warden, by decide⟩,
   ⟨W, .warden, by decide, by decide⟩,
   ⟨{ W with lpStage := [(0, [0, 0, 1, 1, 0, 100])] }, .warden, _, _, by decide, rfl, rfl, by decide, by decide⟩,
   ⟨W, .warden, by decide, by decide⟩,
   ⟨Wenc.modTr 0 (fun x => { x with st := .faulted }), .warden, _, by decide, rfl, by decide, by decide⟩,
   ⟨W, .warden, by decide⟩⟩

/-- States and operands that meet the hypotheses of TransportSetupRuns. -/
theorem test_hyps_TransportSetupRuns_2 :
    (∃ (s : State) (r : Requester) (v : Word), s.reaches pgLp 0x07C r ∧ v.toNat % 512 > 0x100) ∧
    (∃ (s : State) (r : Requester) (v : Word) (p : Nat), s.reaches pgLp 0x07C r ∧ p = s.getSel pgLp 0x078 r % 1024 ∧ bits (v.toNat % 65536) 15 10 = 0 ∧ v.toNat % 512 = 0x100) ∧
    (∃ (s : State) (h : HallId) (w : TieWrite) (l : List StairIn), s.alive ∧ (s.hall h).inq = .tie w :: l ∧ (s.port w.port).st ∉ tieStates) ∧
    (∃ (s : State) (h : HallId) (w : TieWrite) (l : List StairIn), s.alive ∧ (s.hall h).inq = .tie w :: l ∧ (s.port w.port).st ∈ tieStates ∧ w.entry % 512 < 256) :=
  ⟨⟨W, .warden, 0x1FF, by decide, by decide⟩,
   ⟨W, .warden, 0x100, _, by decide, rfl, by decide, by decide⟩,
   ⟨(W.modHall 0 (fun h => { h with inq := [.tie ⟨0, 0, 5⟩] })).modPort 0 (fun v => { v with st := .released }), 0, _, _, by decide, rfl, by decide⟩,
   ⟨W.modHall 0 (fun h => { h with inq := [.tie ⟨0, 0, 255⟩] }), 0, _, _, by decide, rfl, by decide, by decide⟩⟩

/-- States and operands that meet the hypotheses of SheafRuns. -/
theorem test_hyps_SheafRuns :
    (∃ (s : State) (t : TransId) (a : Nat), s.alive ∧ (s.tr t).firstAt = some a) ∧
    (∃ (s : State) (t : TransId), s.alive ∧ (s.tr t).job ∧ (s.tr t).jobLate = false ∧ s.pkeQ.any (fun j => j.tag == .sheaf t.val) = true) ∧
    (∃ (s : State) (t : TransId), s.alive ∧ s.gran.ready ∧ (s.tr t).opened = false ∧ (s.tr t).job = false ∧ s.modState ≠ .loftBoot ∧ s.modState ≠ .shutter ∧ (s.tr t).needsRec) ∧
    (∃ (s : State) (t : TransId), s.alive ∧ s.gran.ready ∧ (s.tr t).opened = false ∧ (s.tr t).job = false ∧ s.modState ≠ .loftBoot ∧ s.modState ≠ .shutter ∧ (s.tr t).needsRec = false ∧ (s.tr t).blk.enabled) ∧
    (∃ (s : State) (r : Requester) (t : BitVec 9), s.reaches 0x1F 0x060 r ∧ t.toNat < 256) ∧
    (∃ (s : State) (r : Requester), s.reaches 0x1F 0x060 r) :=
  ⟨⟨W.modTr 0 (fun x => { x with firstAt := some 5 }), 0, _, by decide, rfl⟩,
   ⟨{ W.modTr 0 (fun x => { x with job := true }) with pkeQ := [{ cls := 1, tag := .sheaf 0, at_ := 0 }] }, 0, by decide, by decide, by decide, by decide⟩,
   ⟨W.modTr 0 (fun x => { x with recNo := 3, recLast := 2 }), 0, by decide, by decide, by decide, by decide, by decide, by decide, by decide⟩,
   ⟨W.modTr 0 (fun x => { x with blk := { enabled := true } }), 0, by decide, by decide, by decide, by decide, by decide, by decide, by decide, by decide⟩,
   ⟨W, .warden, 0, by decide, by decide⟩,
   ⟨W, .warden, by decide⟩⟩

/-- States and operands that meet the hypotheses of SealMessagesRun. -/
theorem test_hyps_SealMessagesRun :
    (∃ (s : State) (x : SessId) (b : Bytes), s.opens x ∧ b.length = 2 ∧ trOk b) ∧
    (∃ (s : State) (x : SessId) (b : Bytes), s.opens x ∧ b.length = 10 ∧ trOk b ∧ num b 2 1 < 2 ∧ 1 ≤ num b 9 1 ∧ num b 9 1 ≤ 64) ∧
    (∃ (s : State) (x : SessId) (b : Bytes), s.opens x ∧ b.length = 8 ∧ trOk b) ∧
    (∃ (s : State) (x : SessId) (b : Bytes) (t : State), s.opens x ∧ (s.ses x).eff = 1 ∧ b.length = 2 ∧ trOk b ∧ t = s.taken x 0x27 ∧ t.modState ≠ .shutter ∧ num b 0 2 ≠ 65535 ∧ (t.tr (num b 0 2)).st ≠ .off) ∧
    (∃ (s : State) (x : SessId) (b : Bytes) (t : State), s.opens x ∧ (s.ses x).eff = 1 ∧ b.length = 2 ∧ trOk b ∧ t = s.taken x 0x27 ∧ t.modState ≠ .shutter ∧ num b 0 2 ≠ 65535 ∧ (t.tr (num b 0 2)).st = .off) :=
  ⟨⟨W, 0, [255, 0], by decide, by decide, by decide⟩,
   ⟨W, 0, [0, 0, 1, 0, 0, 0, 0, 0, 0, 64], by decide, by decide, by decide, by decide, by decide, by decide⟩,
   ⟨W, 0, zeros 8, by decide, by decide, by decide⟩,
   ⟨W.modTr 0 (fun x => { x with st := .idle }), 0, [0, 0], _, by decide, by decide, by decide, by decide, rfl, by decide, by decide, by decide⟩,
   ⟨W, 0, [0, 0], _, by decide, by decide, by decide, by decide, rfl, by decide, by decide, by decide⟩⟩

/-- States and operands that meet the hypotheses of SidebandRuns. -/
theorem test_hyps_SidebandRuns_1 :
    (∃ (s : State) (p : PortId), s.hears p) ∧
    (∃ (s : State) (p : PortId) (data : Bytes) (t : State), s.hears p ∧ num data 0 1 = 0x50 ∧ t = s.accept p .vc3 1 ∧ (t.port p).served = false) ∧
    (∃ (s : State) (p : PortId) (data : Bytes) (t : State), s.hears p ∧ num data 0 1 = 0x50 ∧ t = s.accept p .vc3 1 ∧ (t.port p).served = true ∧ t.reportsFor p ≠ [] ∧ 1 ≤ num data 1 1 ∧ num data 1 1 ≤ 15 ∧ 4 + 16 * num data 1 1 ≤ data.length) ∧
    (∃ (s : State) (p : PortId) (data : Bytes) (t : State), s.hears p ∧ num data 0 1 = 0x52 ∧ t = s.accept p .vc3 1 ∧ (t.port p).tie = none) ∧
    (∃ (s : State) (p : PortId) (data : Bytes) (t : State) (k : Nat), s.hears p ∧ num data 0 1 = 0x52 ∧ t = s.accept p .vc3 1 ∧ (t.port p).tie = some k ∧ 64 ≤ data.length ∧ (t.tr k).opened ∧ 1 ≤ num data 2 6 ∧ num data 2 6 < (t.tr k).docNo ∧ (t.tr k).docNo ≤ num data 2 6 + 256) ∧
    (∃ (s : State) (p : PortId) (data : Bytes) (t : State), s.hears p ∧ num data 0 1 = 0x60 ∧ t = s.accept p .vc3 1) :=
  ⟨⟨W, 0, by decide⟩,
   ⟨W, 0, [0x50], _, by decide, by decide, rfl, by decide⟩,
   ⟨{ W with ports := [(0, { st := .released, link := { phase := .trained, up := true } })], trs := [(16, { blk := { enabled := true } })] }, 0, [0x50, 1] ++ zeros 18, _, by decide, by decide, rfl, by decide, by decide, by decide, by decide, by decide⟩,
   ⟨W, 0, [0x52], _, by decide, by decide, rfl, by decide⟩,
   ⟨(W.modPort 0 (fun v => { v with tie := some 1 })).modTr 1 (fun x => { x with opened := true, docNo := 257 }), 0, [0x52, 0, 1] ++ zeros 61, _, _, by decide, by decide, rfl, rfl, by decide, by decide, by decide, by decide, by decide⟩,
   ⟨W, 0, [0x60], _, by decide, by decide, rfl⟩⟩

/-- States and operands that meet the hypotheses of SidebandRuns. -/
theorem test_hyps_SidebandRuns_2 :
    (∃ (s : State) (p : PortId) (data : Bytes), s.hears p ∧ num data 0 1 = 0x70) :=
  ⟨W, 0, [0x70], by decide, by decide⟩

/-- States and operands that meet the hypotheses of StagingRuns. -/
theorem test_hyps_StagingRuns_1 :
    (∃ (s : State) (x : SessId) (b : Bytes), s.opens x ∧ s.ownerOrService x ∧ b.length = 24) ∧
    (∃ (s : State) (x : SessId) (b : Bytes) (t : State) (g : Image), s.opens x ∧ s.ownerOrService x ∧ 11 ≤ b.length ∧ b.length ≤ 4106 ∧ t = s.taken x 0x11 ∧ t.stagingBarred = false ∧ t.image (num b 0 2) = some g ∧ num b 2 4 < g.blockCount ∧ (b.drop 10).length = g.blockLen (num b 2 4) ∧ (crc32c (b.drop 10)).toNat = num b 6 4 ∧ tabFind g.blocks (num b 2 4) = none ∧ g.st = 1) ∧
    (∃ (s : State) (x : SessId) (b : Bytes) (t : State) (g : Image), s.opens x ∧ s.ownerOrService x ∧ 11 ≤ b.length ∧ b.length ≤ 4106 ∧ t = s.taken x 0x11 ∧ t.stagingBarred = false ∧ t.image (num b 0 2) = some g ∧ num b 2 4 < g.blockCount ∧ (b.drop 10).length = g.blockLen (num b 2 4) ∧ (crc32c (b.drop 10)).toNat ≠ num b 6 4) ∧
    (∃ (s : State) (x : SessId) (b : Bytes), s.opens x ∧ b.length = 2 ∧ (s.taken x 0x12).image (num b 0 2) = none) ∧
    (∃ (s : State) (x : SessId) (b : Bytes) (t : State) (g : Image), s.opens x ∧ b.length = 2 ∧ t = s.taken x 0x12 ∧ t.image (num b 0 2) = some g) ∧
    (∃ (s : State) (x : SessId) (b : Bytes) (t : State) (g : Image), s.opens x ∧ s.ownerOrService x ∧ b.length = 2 ∧ t = s.taken x 0x13 ∧ t.stagingBarred = false ∧ t.image (num b 0 2) = some g ∧ g.st = 1 ∧ g.closing = none ∧ t.missingBlock (num b 0 2) g = 0xFFFFFFFF) :=
  ⟨⟨W, 0, zeros 24, by decide, by decide, by decide⟩,
   ⟨{ W with images := [(0, { kind := 1, imageId := 0, version := 0, length := 1 })] }, 0, zeros 6 ++ le 4 (crc32c [7]).toNat ++ [7], _, _, by decide, by decide, by decide, by decide, rfl, by decide, rfl, by decide, by decide, by decide, by decide, by decide⟩,
   ⟨{ W with images := [(0, { kind := 1, imageId := 0, version := 0, length := 1 })] }, 0, zeros 10 ++ [7], _, _, by decide, by decide, by decide, by decide, rfl, by decide, rfl, by decide, by decide, by decide⟩,
   ⟨W, 0, [0, 1], by decide, by decide, by decide⟩,
   ⟨{ W with images := [(0, { kind := 1, imageId := 0, version := 0, length := 1 })] }, 0, [0, 0], _, _, by decide, by decide, rfl, rfl⟩,
   ⟨{ W with images := [(0, { kind := 1, imageId := 0, version := 0, length := 1, blocks := [(0, [7])] })] }, 0, [0, 0], _, _, by decide, by decide, by decide, rfl, by decide, rfl, by decide, by decide, by decide⟩⟩

/-- States and operands that meet the hypotheses of StagingRuns. -/
theorem test_hyps_StagingRuns_2 :
    (∃ (s : State) (k : Nat) (g : Image) (ls : Tab Bytes), s.alive ∧ s.image k = some g ∧ g.closing ≠ none ∧ g.leaves = [] ∧ ls = (List.range g.blockCount).map (fun i => (i, leafDigest i (g.leaf i)))) ∧
    (∃ (s : State) (x : SessId) (b : Bytes), s.opens x ∧ s.ownerOrService x ∧ b.length = 2 ∧ (s.taken x 0x14).image (num b 0 2) = none) ∧
    (∃ (s : State) (x : SessId) (b : Bytes) (t : State) (g : Image), s.opens x ∧ s.ownerOrService x ∧ b.length = 2 ∧ t = s.taken x 0x14 ∧ t.image (num b 0 2) = some g ∧ g.st ≠ 3 ∧ g.st ≠ 4 ∧ g.closing = none ∧ t.barnQ = []) ∧
    (∃ (s : State) (x : SessId) (b : Bytes), s.opens x ∧ b.length = 3 ∧ 1 ≤ num b 2 1 ∧ num b 2 1 ≤ 32) ∧
    (∃ (s : State) (l : List BarnWrite) (t : State), s.alive ∧ t = s.barnWear ∧ t.barnQ = .revertCopies :: l) :=
  ⟨⟨{ W with images := [(0, { kind := 1, imageId := 0, version := 0, length := 1, blocks := [(0, [7])], closing := some (0, 1) })] }, 0, _, _, by decide, rfl, by decide, by decide, rfl⟩,
   ⟨W, 0, [0, 0], by decide, by decide, by decide, by decide⟩,
   ⟨{ W with images := [(0, { kind := 1, imageId := 0, version := 0, length := 1 })] }, 0, [0, 0], _, _, by decide, by decide, by decide, rfl, rfl, by decide, by decide, by decide, by decide⟩,
   ⟨W, 0, [0, 0, 32], by decide, by decide, by decide, by decide⟩,
   ⟨{ W with barnQ := [.revertCopies] }, _, _, by decide, rfl, by simp [State.barnWear, State.when]; split <;> rfl⟩⟩

/-- States and operands that meet the hypotheses of ManifestRuns. -/
theorem test_hyps_ManifestRuns_1 :
    (∃ (s : State) (x : SessId) (b : Bytes) (t : State), s.opens x ∧ s.ownerOrService x ∧ 8 ≤ b.length ∧ b.length ≤ 4104 ∧ t = s.taken x 0x18 ∧ num b 0 1 < 4 ∧ t.slotBusy (num b 0 1) = false ∧ (t.manSlot (num b 0 1)).checking = [] ∧ num b 4 4 = 0) ∧
    (∃ (s : State) (x : SessId) (b : Bytes) (k : Nat) (t : State), s.opens x ∧ s.ownerOrService x ∧ b.length = 1 ∧ num b 0 1 < 4 ∧ k = num b 0 1 ∧ t = s.taken x 0x19 ∧ (t.manSlot k).checking = [] ∧ (t.manSlot k).complete = false) ∧
    (∃ (s : State) (x : SessId) (b : Bytes) (k : Nat) (t : State), s.opens x ∧ s.ownerOrService x ∧ b.length = 1 ∧ num b 0 1 < 4 ∧ k = num b 0 1 ∧ t = s.taken x 0x19 ∧ (t.manSlot k).checking = [] ∧ (t.manSlot k).complete ∧ t.checkEarly (t.manSlot k).bytes = 0) ∧
    (∃ (s : State) (x : SessId) (b : Bytes) (t : State), s.opens x ∧ ((s.ses x).eff == 1) = true ∧ b.length = 1 ∧ num b 0 1 < 4 ∧ t = s.taken x 0x1A ∧ (t.activateResult (num b 0 1)).1 ≠ 0) ∧
    (∃ (s : State) (x : SessId) (b : Bytes) (t : State) (u : State), s.opens x ∧ ((s.ses x).eff == 1) = true ∧ b.length = 1 ∧ num b 0 1 < 4 ∧ t = s.taken x 0x1A ∧ (t.activateResult (num b 0 1)).1 = 0 ∧ (mParts (t.manSlot (num b 0 1)).bytes).any (fun x => pKind x == 2) = false ∧ u = t.beginGuarded (num b 0 1) (t.manSlot (num b 0 1)).bytes) ∧
    (∃ (s : State) (x : SessId) (b : Bytes) (t : State) (u : State), s.opens x ∧ ((s.ses x).eff == 1) = true ∧ b.length = 1 ∧ num b 0 1 < 4 ∧ t = s.taken x 0x1A ∧ (t.activateResult (num b 0 1)).1 = 0 ∧ (mParts (t.manSlot (num b 0 1)).bytes).any (fun x => pKind x == 2) = true ∧ u = t.beginWarden (num b 0 1) (t.manSlot (num b 0 1)).bytes) :=
  ⟨⟨W, 0, zeros 8, _, by decide, by decide, by decide, by decide, rfl, by decide, by decide, by decide, by decide⟩,
   ⟨W, 0, [3], _, _, by decide, by decide, by decide, by decide, rfl, rfl, by decide, by decide⟩,
   ⟨Wman, 0, [0], _, _, by decide, by decide, by decide, by decide, rfl, rfl, by decide, by decide, by decide +kernel⟩,
   ⟨W, 0, [0], _, by decide, by decide, by decide, by decide, rfl, by decide⟩,
   ⟨{ W with manSlots := [(0, { bytes := MAN4, complete := true, checked := true })] }, 0, [0], _, _, by decide, by decide, by decide, by decide, rfl, by decide +kernel, by decide +kernel, rfl⟩,
   ⟨{ W with manSlots := [(0, { bytes := MANW, complete := true, checked := true })] }, 0, [0], _, _, by decide, by decide, by decide, by decide, rfl, by decide +kernel, by decide +kernel, rfl⟩⟩

/-- States and operands that meet the hypotheses of ManifestRuns. -/
theorem test_hyps_ManifestRuns_2 :
    (∃ (s : State) (x : SessId), s.opens x) ∧
    (∃ (s : State) (x : SessId) (b : Bytes) (t : State), s.opens x ∧ ((s.ses x).eff == 1) = true ∧ b.length = 4 ∧ t = s.taken x 0x1C ∧ t.act.opened = false) ∧
    (∃ (s : State) (x : SessId) (b : Bytes) (t : State), s.opens x ∧ ((s.ses x).eff == 1) = true ∧ b.length = 4 ∧ t = s.taken x 0x1C ∧ t.act.opened ∧ t.act.no = num b 0 4 ∧ t.act.stage ≠ 5 ∧ t.act.kind ≠ 1) ∧
    (∃ (s : State) (x : SessId) (b : Bytes) (t : State), s.opens x ∧ ((s.ses x).eff == 1) = true ∧ b.length = 4 ∧ t = s.taken x 0x1C ∧ t.act.opened ∧ t.act.no = num b 0 4 ∧ t.act.stage ≠ 5 ∧ t.act.kind = 1) ∧
    (∃ (s : State) (x : SessId) (b : Bytes), s.opens x ∧ b.length = 9 ∧ 1 ≤ num b 8 1 ∧ num b 8 1 ≤ 64) ∧
    (∃ (s : State) (x : SessId) (b : Bytes) (t : State), s.opens x ∧ s.ownerOrService x ∧ b.length = 1 ∧ num b 0 1 < 4 ∧ t = s.taken x 0x1E ∧ t.slotBusy (num b 0 1) = false ∧ (t.manSlot (num b 0 1)).checking = []) :=
  ⟨⟨W, 0, by decide⟩,
   ⟨W, 0, zeros 4, _, by decide, by decide, by decide, rfl, by decide⟩,
   ⟨{ W with act := { opened := true, stage := 1 } }, 0, zeros 4, _, by decide, by decide, by decide, rfl, by decide, by decide, by decide, by decide⟩,
   ⟨{ W with act := { opened := true, kind := 1, stage := 6 } }, 0, zeros 4, _, by decide, by decide, by decide, rfl, by decide, by decide, by decide, by decide⟩,
   ⟨W, 0, zeros 8 ++ [1], by decide, by decide, by decide, by decide⟩,
   ⟨W, 0, [3], _, by decide, by decide, by decide, by decide, rfl, by decide, by decide⟩⟩

/-- States and operands that meet the hypotheses of GuardedActivationRuns. -/
theorem test_hyps_GuardedActivationRuns :
    (∃ (s : State), s.alive ∧ s.act.opened ∧ s.act.kind = 0 ∧ s.act.stage = 1 ∧ s.act.saved = false ∧ s.act.changed.all (fun p => (s.port p).drained && (s.port p).tree.resident) = true) ∧
    (∃ (s : State), s.alive ∧ s.act.opened ∧ s.act.kind = 0 ∧ s.act.stage = 1 ∧ s.act.saved ∧ s.act.durable ∧ s.act.changed ≠ []) ∧
    (∃ (s : State) (p : PortId) (w : Window), s.alive ∧ s.act.opened ∧ s.act.stage = 4 ∧ (s.port p).upd.confWin = some w) :=
  ⟨⟨{ W with act := { opened := true, stage := 1, changed := [0] } }.modPort 0 (fun v => { v with tree := { v.tree with resident := true } }), by decide, by decide, by decide, by decide, by decide, by decide⟩,
   ⟨{ W with act := { opened := true, stage := 1, changed := [0], saved := true, durable := true } }, by decide, by decide, by decide, by decide, by decide, by decide, by decide⟩,
   ⟨{ W with act := { opened := true, stage := 4, changed := [0] } }.modUpd 0 (fun u => { u with confWin := some ⟨0, 5⟩ }), 0, _, by decide, by decide, by decide, rfl⟩⟩

/-- States and operands that meet the hypotheses of WardenActivationRuns. -/
theorem test_hyps_WardenActivationRuns_1 :
    (∃ (s : State) (back : Bytes), s.alive ∧ s.act.opened ∧ s.act.kind = 1 ∧ s.act.stage = 6 ∧ s.act.resume = false ∧ imageRoot back ≠ pRoot (mPart s.act.man 0)) ∧
    (∃ (s : State) (back : Bytes) (x : Bytes) (t : State), s.alive ∧ s.act.opened ∧ s.act.kind = 1 ∧ s.act.stage = 6 ∧ s.act.resume = false ∧ x = mPart s.act.man 0 ∧ t = { s with wslots := tabSet s.wslots s.act.newSlot back } ∧ (t.findImage 2 (pImage x) (pVersion x)).isSome ∧ back.length = pLength x ∧ imageRoot back = pRoot x) ∧
    (∃ (s : State) (l : Landing), s.alive ∧ s.fromActive l ∧ s.retained.trial = false ∧ s.act.opened ∧ s.act.stage = 7 ∧ s.loft.landing (1 - s.loft.active) = 0 ∧ s.loadPathOk) ∧
    (∃ (s : State) (key : BitVec 16), s.alive ∧ key ≠ 0x7E81#16) ∧
    (∃ (s : State) (l : Landing) (d : Nat), s.alive ∧ s.act.readyDl = some d ∧ s.lnow ≤ d ∧ s.fromStandby l) ∧
    (∃ (s : State) (d : Nat), s.alive ∧ s.act.readyDl = some d ∧ s.act.opened ∧ s.act.stage = 7) :=
  ⟨⟨{ W with act := { opened := true, kind := 1, stage := 6 } }, [7], by decide, by decide, by decide, by decide, by decide, by decide +kernel⟩,
   ⟨{ W with images := [(0, { kind := 2, imageId := 0, version := 0, length := 1 })], act := { opened := true, kind := 1, stage := 6, man := MANW7 } }, [7], _, _, by decide, by decide, by decide, by decide, by decide, rfl, rfl, by decide +kernel, by decide +kernel, by decide +kernel⟩,
   ⟨{ Wwdn with act := { opened := true, kind := 1, stage := 7 } }, .a, by decide, by decide, by decide +kernel, by decide, by decide, by decide, by decide +kernel⟩,
   ⟨W, 1, by decide, by decide⟩,
   ⟨{ W with act := { opened := true, kind := 1, stage := 7, readyDl := some 1000000 }, loft := { landA := 1, landB := 2 } }, .b, _, by decide, rfl, by decide, by decide⟩,
   ⟨{ W with act := { opened := true, kind := 1, stage := 7, readyDl := some 5 } }, _, by decide, rfl, by decide, by decide⟩⟩

/-- States and operands that meet the hypotheses of WardenActivationRuns. -/
theorem test_hyps_WardenActivationRuns_2 :
    (∃ (s : State) (l : Landing), s.alive ∧ s.fromActive l ∧ s.retained.trial = false ∧ s.act.opened ∧ s.act.stage = 7 ∧ s.act.standbyReady) ∧
    (∃ (s : State) (w : Window), s.alive ∧ s.act.trialWin = some w ∧ s.inTrial) ∧
    (∃ (s : State) (l : Landing) (w : Window), s.alive ∧ s.act.trialWin = some w ∧ s.lnow ≤ w.dl ∧ s.fromActive l ∧ s.retained.trial ∧ s.inTrial) :=
  ⟨⟨{ W with act := { opened := true, kind := 1, stage := 7, standbyReady := true } }, .a, by decide, by decide, by decide +kernel, by decide, by decide, by decide⟩,
   ⟨{ W with act := { opened := true, kind := 1, stage := 8, trialWin := some ⟨0, 5⟩ } }, _, by decide, rfl, by decide⟩,
   ⟨{ { W with act := { opened := true, kind := 1, stage := 8, trialWin := some ⟨0, 1000000⟩ } } with retained := { recA := SlotRec.done { trial := true } } }, .a, _, by decide, rfl, by decide, by decide, by decide +kernel, by decide⟩⟩

/-- States and operands that meet the hypotheses of KeyOperationsRun. -/
theorem test_hyps_KeyOperationsRun_1 :
    (∃ (s : State) (x : SessId) (b : Bytes) (t : State), s.opens x ∧ ((s.ses x).eff == 1) = true ∧ keyBody 1 b ∧ t = s.taken x 0x23 ∧ t.setCode b = 0) ∧
    (∃ (s : State) (x : SessId) (b : Bytes) (t : State), s.opens x ∧ ((s.ses x).eff == 1) = true ∧ keyBody 1 b ∧ t = s.taken x 0x23 ∧ t.setCode b ≠ 0) ∧
    (∃ (s : State) (x : SessId) (b : Bytes) (t : State), s.opens x ∧ ((s.ses x).eff == 1) = true ∧ keyBody 2 b ∧ t = s.taken x 0x23 ∧ t.clearCode b = 0) ∧
    (∃ (s : State) (x : SessId) (b : Bytes) (t : State), s.opens x ∧ ((s.ses x).eff == 1) = true ∧ keyBody 3 b ∧ t = s.taken x 0x23 ∧ t.keyOpBar = 0 ∧ t.otp.locked 15 = true) ∧
    (∃ (s : State) (x : SessId) (b : Bytes) (t : State) (i : Nat), s.opens x ∧ ((s.ses x).eff == 1) = true ∧ keyBody 3 b ∧ t = s.taken x 0x23 ∧ t.keyOpBar = 0 ∧ t.otp.locked 15 = false ∧ t.otp.nextEpochBit = some i ∧ t.gran.rollTo = none) ∧
    (∃ (s : State), s.alive ∧ s.kOpen.isNone = false ∧ s.gran.opOpen = some 3 ∧ s.otp.run = none ∧ s.pastFlush = false) :=
  ⟨⟨W, 0, [1, 8, 0, 0, 0, 0, 0, 0, 32, 0] ++ zeros 32, _, by decide, by decide, by decide, rfl, by decide⟩,
   ⟨W, 0, [1, 6, 0, 0, 0, 0, 0, 0, 0, 0], _, by decide, by decide, by decide, rfl, by decide⟩,
   ⟨W, 0, [2, 9, 0, 0, 0, 0, 0, 0, 0, 0], _, by decide, by decide, by decide, rfl, by decide⟩,
   ⟨{ W with otp := { scanned := true, fuses := [(15, 3)] } }, 0, [3, 0, 0, 0, 0, 0, 0, 0, 0, 0], _, by decide, by decide, by decide, rfl, by decide, by decide⟩,
   ⟨W, 0, [3, 0, 0, 0, 0, 0, 0, 0, 0, 0], _, _, by decide, by decide, by decide, rfl, by decide, by decide, rfl, by decide⟩,
   ⟨{ W with kOpen := some 0, gran := { opOpen := some 3 } }, by decide, by decide, by decide, by decide, by decide⟩⟩

/-- States and operands that meet the hypotheses of KeyOperationsRun. -/
theorem test_hyps_KeyOperationsRun_2 :
    (∃ (s : State) (x : SessId) (b : Bytes) (t : State), s.opens x ∧ ((s.ses x).eff == 1) = true ∧ keyBody 4 b ∧ t = s.taken x 0x23 ∧ t.tapSetCode b = 0) ∧
    (∃ (s : State) (x : SessId) (b : Bytes) (t : State), s.opens x ∧ ((s.ses x).eff == 1) = true ∧ keyBody 5 b ∧ t = s.taken x 0x23 ∧ t.promoteCode (koPort b) = 0) ∧
    (∃ (s : State) (x : SessId) (b : Bytes) (t : State), s.opens x ∧ ((s.ses x).eff == 1) = true ∧ keyBody 6 b ∧ t = s.taken x 0x23 ∧ t.keyOpBar = 0) :=
  ⟨⟨W, 0, [4, 0, 0xFF, 3, 0, 0, 0, 0, 32, 0] ++ zeros 32, _, by decide, by decide, by decide, rfl, by decide⟩,
   ⟨W.modKey 0 (fun k => { k with pending := some [] }), 0, [5, 0, 0, 0, 0, 0, 0, 0, 0, 0], _, by decide, by decide, by decide, rfl, by decide⟩,
   ⟨W, 0, [6, 0, 0, 0, 0, 0, 0, 0, 0, 0], _, by decide, by decide, by decide, rfl, by decide⟩⟩

/-- States and operands that meet the hypotheses of AttestationRuns. -/
theorem test_hyps_AttestationRuns :
    (∃ (s : State) (x : SessId) (b : Bytes) (t : State), s.opens x ∧ attOk b ∧ t = s.taken x 0x20 ∧ attRange b = false) ∧
    (∃ (s : State) (x : SessId) (b : Bytes) (t : State), s.opens x ∧ attOk b ∧ t = s.taken x 0x20 ∧ attRange b = true ∧ t.att.hmacEn = true ∧ (t.useKey 7 .mac true).1 = 0) ∧
    (∃ (s : State) (x : SessId) (b : Bytes) (t : State), s.opens x ∧ attOk b ∧ t = s.taken x 0x21 ∧ attRange b = true ∧ t.att.quoteEn = true ∧ tabFind t.certs t.epoch ≠ none ∧ t.queued 4 < 32) ∧
    (∃ (s : State) (x : SessId) (b : Bytes) (t : State) (c : Bytes), s.opens x ∧ b.length = 4 ∧ t = s.taken x 0x22 ∧ num b 0 4 = 0xFFFFFFFF ∧ tabFind t.certs t.epoch = some c) :=
  ⟨⟨W, 0, zeros 34 ++ [61], _, by decide, by decide, rfl, by decide⟩,
   ⟨W.setSlot 7 { alg := 2, usage := 4, key := [1] }, 0, zeros 34 ++ [60], _, by decide, by decide, rfl, by decide, by decide, by decide⟩,
   ⟨{ W with certs := [(0, [])] }, 0, zeros 35, _, by decide, by decide, rfl, by decide, by decide, by decide, by decide⟩,
   ⟨{ W with certs := [(0, [])] }, 0, [0xFF, 0xFF, 0xFF, 0xFF], _, _, by decide, by decide, rfl, by decide, rfl⟩⟩

/-- States and operands that meet the hypotheses of GranaryCommandsRun. -/
theorem test_hyps_GranaryCommandsRun :
    (∃ (s : State) (r : Requester) (k : Nat), s.reaches pgGran 0x05C r ∧ k = grnSel s r ∧ 32 ≤ k ∧ (s.slot k).persist = false) ∧
    (∃ (s : State) (r : Requester), s.reaches pgGran 0x05C r ∧ grnSel s r < 32) ∧
    (∃ (s : State) (r : Requester) (k : Nat), s.reaches pgGran 0x05C r ∧ k = grnSel s r ∧ 32 ≤ k ∧ (s.slot k).persist = false) ∧
    (∃ (s : State) (r : Requester) (v : Word), s.reaches pgGran 0x05C r ∧ 32 ≤ grnSel s r ∧ deriveLen (bits v.toNat 19 16) = none) ∧
    (∃ (s : State) (r : Requester) (v : Word) (k : Nat) (p : Nat) (t : State), s.reaches pgGran 0x05C r ∧ k = grnSel s r ∧ 32 ≤ k ∧ bits v.toNat 19 16 = 1 ∧ bit v.toNat 26 = false ∧ (s.slot k).persist = false ∧ p = bits v.toNat 15 8 ∧ (s.useKey p .derive false).1 = 0 ∧ t = (s.useKey p .derive false).2 ∧ (t.slot k).persist = false) ∧
    (∃ (s : State) (r : Requester) (v : Word) (k : Nat), s.reaches pgGran 0x058 r ∧ s.frozen pgGran 0x058 v.toNat = false ∧ k = grnSel s r ∧ 32 ≤ k ∧ (s.slot k).persist = false) :=
  ⟨⟨W.setSel pgGran 0x048 .warden 32, .warden, _, by decide, rfl, by decide, by decide⟩,
   ⟨W, .warden, by decide, by decide⟩,
   ⟨W.setSel pgGran 0x048 .warden 255, .warden, _, by decide, rfl, by decide, by decide⟩,
   ⟨W.setSel pgGran 0x048 .warden 32, .warden, 0, by decide, by decide, by decide⟩,
   ⟨(W.setSel pgGran 0x048 .warden 32).setSlot 33 { alg := 6, usage := 1, key := [1] }, .warden, 0x12101, _, _, _, by decide, rfl, by decide, by decide, by decide, by decide, rfl, by decide, rfl, by decide⟩,
   ⟨W.setSel pgGran 0x048 .warden 32, .warden, 0, _, by decide, by decide, rfl, by decide, by decide⟩⟩

/-- States and operands that meet the hypotheses of OtpCommandsRun. -/
theorem test_hyps_OtpCommandsRun :
    (∃ (s : State) (r : Requester), s.reaches pgOtp 0x044 r) ∧
    (∃ (s : State) (o : OtpOutcome) (c : OtpRun) (t : State), s.alive ∧ s.otp.run = some c ∧ c.cmd = 1 ∧ c.ses = none ∧ t = { s with otp := s.otp.finish c o (decide (Config.freeNat s.freeCtr % 2 = 1)), freeCtr := s.freeCtr + 1 }) :=
  ⟨⟨W, .warden, by decide⟩,
   ⟨{ W with otp := { scanned := true, run := some ⟨1, 0, 0, 0, none⟩ } }, ⟨none, 0⟩, _, _, by decide, rfl, by decide, by decide, rfl⟩⟩

/-- States and operands that meet the hypotheses of PkeJobsRun. -/
theorem test_hyps_PkeJobsRun :
    (∃ (s : State) (r : Requester) (e : EngineId) (d : Bytes), s.reaches (pgPke e) 0x054 r ∧ descBad ((d ++ zeros 64).take 64) = true) ∧
    (∃ (s : State) (r : Requester) (e : EngineId) (d : Bytes), s.reaches (pgPke e) 0x054 r ∧ descBad ((d ++ zeros 64).take 64) = false ∧ s.queued 3 < 64) ∧
    (∃ (s : State) (e : EngineId) (i : Nat) (j : PkeJob) (u : State) (t : State), s.alive ∧ (s.eng e).free ∧ s.nextJob e ≠ none ∧ u = s.toLoft (s.eng e).freeAt ∧ (List.range e).any (fun k => u.engReady k) = false ∧ (u.eng e).free ∧ (u.eng e).freeAt ≤ u.lnow ∧ u.nextJob e = some (i, j) ∧ (((u.admitAt j).dequeue i).jobAdmit j).1 = 0 ∧ t = (((u.admitAt j).dequeue i).jobAdmit j).2) ∧
    (∃ (s : State) (e : EngineId) (i : Nat) (j : PkeJob) (u : State) (t : State), s.alive ∧ (s.eng e).free ∧ s.nextJob e ≠ none ∧ u = s.toLoft (s.eng e).freeAt ∧ (List.range e).any (fun k => u.engReady k) = false ∧ (u.eng e).free ∧ (u.eng e).freeAt ≤ u.lnow ∧ u.nextJob e = some (i, j) ∧ (((u.admitAt j).dequeue i).jobAdmit j).1 ≠ 0 ∧ t = (((u.admitAt j).dequeue i).jobAdmit j).2) ∧
    (∃ (s : State) (e : EngineId) (j : PkeJob) (o : PkeOut) (u : State) (v : State), s.alive ∧ (s.eng e).zeroing = none ∧ (s.eng e).released = none ∧ (s.eng e).job = some j ∧ s.injection (pgPke e) 0 none = 0 ∧ s.injection (pgPke e) 1 none = 0 ∧ o = (s.eng e).outcome j ∧ o.code = 0 ∧ u = ((s.toLoft ((s.eng e).releaseAt j)).modEng e (fun g => { g with released := some true })).release10 j o ∧ v = u.toLoft ((u.eng e).doneAt j) ∧ (v.eng e).job = some j ∧ (v.eng e).result j = 0 ∧ (v.eng e).outcome j = o) ∧
    (∃ (s : State) (e : EngineId) (j : PkeJob) (c : Nat) (v : State), s.alive ∧ (s.eng e).zeroing = none ∧ (s.eng e).released = none ∧ (s.eng e).job = some j ∧ s.injection (pgPke e) 0 none = 0 ∧ c = ((s.eng e).outcome j).code ∧ ((s.eng e).outcome j).invalid ∧ v = (s.toLoft ((s.eng e).validated j)).toLoft ((s.eng e).doneAt j)) :=
  ⟨⟨W, .warden, 0, [], by decide, by decide⟩,
   ⟨W, .warden, 0, DESC, by decide, by decide, by decide⟩,
   ⟨{ W with pkeQ := [{ cls := 3, tag := .warden 0, at_ := 0, cmd := 2 }] }, 0, _, _, _, _, by decide, by decide, by decide, rfl, by decide, by decide, by decide, rfl, by decide, rfl⟩,
   ⟨{ W with pkeQ := [{ cls := 3, tag := .warden 0, at_ := 0, keySlot := 32 }] }, 0, _, _, _, _, by decide, by decide, by decide, rfl, by decide, by decide, by decide, rfl, by decide, rfl⟩,
   ⟨W.modEng 0 (fun g => { g with job := some EDJ, mem := EDJ.memory [] }), 0, EDJ, {}, _, _, by decide, by decide, by decide, by decide, by decide, by decide, by decide +kernel, by decide, rfl, rfl, by decide +kernel, by decide +kernel, by decide +kernel⟩,
   ⟨W.modEng 0 (fun g => { g with job := some { cls := 3, tag := .warden 0, at_ := 0, cmd := 2, alg := 11, lenBits := 64 } }), 0, _, _, _, by decide, by decide, by decide, rfl, by decide, rfl, by decide +kernel, rfl⟩⟩

/-- States and operands that meet the hypotheses of PkeControlRuns. -/
theorem test_hyps_PkeControlRuns_1 :
    (∃ (s : State) (r : Requester) (e : EngineId), s.reaches (pgPke e) 0x054 r ∧ s.pkeQ = [] ∧ s.runningAt (s.eng e).subAddr = none) ∧
    (∃ (s : State) (r : Requester) (e : EngineId) (j : PkeJob) (l : List PkeJob), s.reaches (pgPke e) 0x054 r ∧ s.pkeQ = j :: l ∧ j.tag = .warden (s.eng e).subAddr) ∧
    (∃ (s : State) (e : EngineId) (c : Nat) (j : PkeJob), s.alive ∧ (s.eng e).zeroing = some (22, c) ∧ (s.eng e).job = some j ∧ j.own = false) ∧
    (∃ (s : State) (e : EngineId), s.alive ∧ (s.eng e).job ≠ none ∧ (s.eng e).zeroing = none) ∧
    (∃ (s : State) (r : Requester) (e : EngineId), s.reaches (pgPke e) 0x040 r ∧ s.writeMask (pgPke e) 0x040 r &&& 2 ≠ 0 ∧ s.modState = .serving ∧ (s.eng e).job = none ∧ (s.eng e).zeroing = none ∧ (s.eng e).kat = false) ∧
    (∃ (s : State) (e : EngineId), s.alive ∧ (s.eng e).kat) :=
  ⟨⟨W, .warden, 0, by decide, by decide, by decide⟩,
   ⟨{ W with pkeQ := [{ cls := 3, tag := .warden 0, at_ := 0, cmd := 2 }] }, .warden, 0, _, _, by decide, rfl, rfl⟩,
   ⟨W.modEng 0 (fun g => { g with job := some { cls := 3, tag := .warden 0, at_ := 0 }, zeroing := some (22, 0) }), 0, 0, _, by decide, by decide, rfl, by decide⟩,
   ⟨W.modEng 0 (fun g => { g with job := some { cls := 3, tag := .warden 0, at_ := 0 } }), 0, by decide, by decide, by decide⟩,
   ⟨W, .warden, 0, by decide, by decide, by decide, by decide, by decide, by decide⟩,
   ⟨W.modEng 0 (fun g => { g with kat := true }), 0, by decide, by decide⟩⟩

/-- States and operands that meet the hypotheses of PkeControlRuns. -/
theorem test_hyps_PkeControlRuns_2 :
    (∃ (s : State) (r : Requester) (e : EngineId), s.reaches (pgPke e) 0x040 r ∧ s.writeMask (pgPke e) 0x040 r &&& 1 ≠ 0 ∧ s.frozen (pgPke e) 0x040 0 = false) ∧
    (∃ (s : State) (r : Requester) (e : EngineId), s.reaches (pgPke e) 0x040 r ∧ s.writeMask (pgPke e) 0x040 r &&& 1 ≠ 0 ∧ s.frozen (pgPke e) 0x040 1 = false) :=
  ⟨⟨W, .warden, 0, by decide, by decide, by decide⟩,
   ⟨W, .warden, 0, by decide, by decide, by decide⟩⟩

/-- States and operands that meet the hypotheses of WardenWatchdogRuns. -/
theorem test_hyps_WardenWatchdogRuns :
    (∃ (s : State) (l : Landing) (n : Nat), s.alive ∧ s.wwd.running ∧ landNum l = s.loft.active ∧ s.loft.landing s.loft.active = 1 ∧ s.lnow < s.wwd.start + s.wwd.cycles ∧ n < 16 ∧ s.wwd.curEn.getLsbD n = true ∧ s.wwd.checked.getLsbD n = false) ∧
    (∃ (s : State) (l : Landing), s.alive ∧ s.wwd.running ∧ landNum l = s.loft.active ∧ s.loft.landing s.loft.active = 1 ∧ s.lnow < s.wwd.start + s.wwd.cycles ∧ s.wwdOpens ≤ s.lnow ∧ s.wwd.curEn &&& ~~~s.wwd.checked = 0#16) ∧
    (∃ (s : State) (l : Landing), s.alive ∧ s.wwd.running ∧ landNum l = s.loft.active ∧ s.loft.landing s.loft.active = 1 ∧ s.lnow < s.wwd.start + s.wwd.cycles ∧ s.lnow < s.wwdOpens) ∧
    (∃ (s : State), s.alive ∧ s.wwd.running) :=
  ⟨⟨{ W with wwd := { running := true } }, .a, 0, by decide, by decide, by decide, by decide, by decide, by decide, by decide, by decide⟩,
   ⟨{ W with wwd := { running := true, checked := 1, first := true } }, .a, by decide, by decide, by decide, by decide, by decide, by decide, by decide⟩,
   ⟨{ W with wwd := { running := true, start := 600000 } }, .a, by decide, by decide, by decide, by decide, by decide, by decide⟩,
   ⟨{ W with wwd := { running := true } }, by decide, by decide⟩⟩

/-- States and operands that meet the hypotheses of LoftWatchdogRuns. -/
theorem test_hyps_LoftWatchdogRuns_1 :
    (∃ (s : State) (l : Landing), s.alive ∧ s.lwd.running ∧ s.loft.landing (landNum l) = 1 ∧ s.lwdOver = false) ∧
    (∃ (s : State) (l : Landing) (v : Word), s.alive ∧ s.lwd.running ∧ s.loft.landing (landNum l) = 1 ∧ s.lwdOver = false ∧ v.toNat ≠ 15510) ∧
    (∃ (s : State) (l : Landing), s.alive ∧ s.lwd.running ∧ s.loft.landing (landNum l) = 1 ∧ s.lwdOver) ∧
    (∃ (s : State), s.alive ∧ s.lwd.running ∧ s.modState ≠ .loftBoot ∧ s.loft.halted = false) ∧
    (∃ (s : State), s.alive) ∧
    (∃ (s : State) (c : Nat), s.loft.resetting = some c) :=
  ⟨⟨W, .a, by decide, by decide, by decide, by decide⟩,
   ⟨W, .a, 0, by decide, by decide, by decide, by decide, by decide⟩,
   ⟨{ W with time := 60000000000 }, .a, by decide, by decide, by decide, by decide⟩,
   ⟨W, by decide, by decide, by decide, by decide⟩,
   ⟨W, by decide⟩,
   ⟨{ W with loft := { resetting := some 5 } }, _, rfl⟩⟩

/-- States and operands that meet the hypotheses of LoftWatchdogRuns. -/
theorem test_hyps_LoftWatchdogRuns_2 :
    (∃ (s : State) (p : PortId), s.alive ∧ (s.port p).pwd.running) ∧
    (∃ (s : State) (h : HallId) (r : Requester), s.reaches (pgHall h) 0x118 r) :=
  ⟨⟨W.modPwd 0 (fun w => { w with running := true }), 0, by decide, by decide⟩,
   ⟨W, 0, .warden, by decide⟩⟩

/-- States and operands that meet the hypotheses of CollectionRuns. -/
theorem test_hyps_CollectionRuns_1 :
    (∃ (s : State) (l : Landing), s.alive ∧ landNum l = s.loft.active ∧ s.loft.landing s.loft.active = 1) ∧
    (∃ (s : State) (k : Nat), s.alive ∧ k = max (ceilDiv (s.time - s.loftAt) 16) (s.root.lastPass + 1)) ∧
    (∃ (s : State) (d : Domain) (e : Nat), (s.root.shadows.find? (fun x => x.dom == d)).bind (·.dl) = some e) ∧
    (∃ (s : State) (t : Nat), s.root.pulseEnd = some t) ∧
    (∃ (s : State), s.alive) ∧
    (∃ (s : State) (r : Requester), s.reaches 0xE7 0x040 r ∧ s.writeMask 0xE7 0x040 r &&& 2 ≠ 0) :=
  ⟨⟨W, .a, by decide, by decide, by decide⟩,
   ⟨W, _, by decide, rfl⟩,
   ⟨{ W with root := { shadows := [⟨.hall 0, 0, some 5, 1, []⟩] } }, .hall 0, _, rfl⟩,
   ⟨{ W with root := { pulseEnd := some 5 } }, _, rfl⟩,
   ⟨W, by decide⟩,
   ⟨W, .warden, by decide, by decide⟩⟩

/-- States and operands that meet the hypotheses of CollectionRuns. -/
theorem test_hyps_CollectionRuns_2 :
    (∃ (s : State) (t : Nat), s.modState = .serving ∧ s.loft.serveAt = some t) :=
  ⟨{ W with loft := { serveAt := some 5 } }, _, by decide, rfl⟩

/-- States and operands that meet the hypotheses of ResetInjectionRuns. -/
theorem test_hyps_ResetInjectionRuns_1 :
    (∃ (s : State) (h : HallId) (r : Requester), s.reaches (pgHcol h) 0x05C r) ∧
    (∃ (s : State) (h : HallId) (r : Requester) (key : BitVec 16), s.reaches (pgHcol h) 0x05C r ∧ key.toNat ≠ 27421) ∧
    (∃ (s : State) (h : HallId) (w : Window), s.alive ∧ (s.hall h).phase = .awaitAcks ∧ (s.hall h).ackWin = some w) ∧
    (∃ (s : State) (h : HallId), s.alive ∧ s.modState ≠ .shutter ∧ (s.hall h).phase = .inReset) ∧
    (∃ (s : State) (r : Requester) (page : BitVec 9) (v : Word), s.live r ∧ pageExists page.toNat ∧ s.barred page.toNat r = false ∧ s.mayInject r ∧ (s.hdr page.toNat).errLock = false ∧ checkerExists page.toNat (bits v.toNat 4 0) = true ∧ bits v.toNat 9 8 ≠ 3) ∧
    (∃ (s : State) (r : Requester) (page : BitVec 9) (v : Word), s.live r ∧ pageExists page.toNat ∧ s.barred page.toNat r = false ∧ s.mayInject r ∧ (s.hdr page.toNat).errLock = false ∧ checkerExists page.toNat (bits v.toNat 4 0) = false) :=
  ⟨⟨W, 0, .warden, by decide⟩,
   ⟨W, 0, .warden, 0, by decide, by decide⟩,
   ⟨W.modHall 0 (fun h => { h with phase := .awaitAcks, ackWin := some ⟨0, 5⟩ }), 0, _, by decide, by decide, rfl⟩,
   ⟨W.modHall 0 (fun h => { h with phase := .inReset }), 0, by decide, by decide, by decide⟩,
   ⟨W, .warden, 0x20, 0x100, by decide, by decide, by decide, by decide, by decide, by decide, by decide⟩,
   ⟨W, .warden, 0x10, 0, by decide, by decide, by decide, by decide, by decide, by decide⟩⟩

/-- States and operands that meet the hypotheses of ResetInjectionRuns. -/
theorem test_hyps_ResetInjectionRuns_2 :
    (∃ (s : State) (r : Requester) (page : BitVec 9) (v : Word), s.live r ∧ pageExists page.toNat ∧ s.barred page.toNat r = false ∧ bit v.toNat 15 = false ∧ bits v.toNat 10 8 < 6) ∧
    (∃ (s : State) (h : HallId), s.alive ∧ (s.hall h).phase ≠ .off ∧ (s.hall h).stairRun < 16) :=
  ⟨⟨W, .warden, 0, 0, by decide, by decide, by decide, by decide, by decide⟩,
   ⟨W, 0, by decide, by decide, by decide⟩⟩

/-- States and operands that meet the hypotheses of CrossingRuns. -/
theorem test_hyps_CrossingRuns_1 :
    (∃ (s : State), s.alive) ∧
    (∃ (s : State) (x : SessId) (raw : Bytes), s.alive ∧ 4 ≤ x.val ∧ raw ≠ [] ∧ serialOk raw = false) ∧
    (∃ (s : State) (x : SessId) (raw : Bytes), s.alive ∧ 4 ≤ x.val ∧ serialOk raw ∧ serialRecord raw = []) ∧
    (∃ (s : State) (t : State), s.alive ∧ s.xng.silent = false ∧ t = (s.toLoft (s.gwEnd + 1)).closeAll none) ∧
    (∃ (s : State), s.alive ∧ s.lnow ≤ s.gwEnd) ∧
    (∃ (s : State) (raw : Bytes), s.alive ∧ xngCheck true raw = .crc) :=
  ⟨⟨W, by decide⟩,
   ⟨W, 4, [0], by decide, by decide, by decide, by decide +kernel⟩,
   ⟨W, 5, [0x52, 0x4C, 0, 0, 0, 0] ++ le 4 (crc32c (zeros 4)).toNat, by decide, by decide, by decide +kernel, by decide +kernel⟩,
   ⟨W, _, by decide, by decide, rfl⟩,
   ⟨W, by decide, by decide⟩,
   ⟨W, [], by decide, by decide +kernel⟩⟩

/-- States and operands that meet the hypotheses of CrossingRuns. -/
theorem test_hyps_CrossingRuns_2 :
    (∃ (s : State) (raw : Bytes), s.alive ∧ xngCheck true raw = .type) ∧
    (∃ (s : State) (raw : Bytes), s.alive ∧ xngCheck false raw = .rate ∧ (s.ses (xngPort raw)).handed = none) ∧
    (∃ (s : State) (raw : Bytes), s.alive ∧ xngCheck true raw = .len) ∧
    (∃ (s : State) (a : Nat), s.alive ∧ s.xng.changedAt = some a) ∧
    (∃ (s : State) (x : SessId) (a : Nat), s.alive ∧ (s.ses x).handed = some a) ∧
    (∃ (s : State) (x : SessId) (a : Nat), s.alive ∧ (s.ses x).handed = some a ∧ s.lnow < a + 3000000000) :=
  ⟨⟨W, ([0x55, 0, 0, 0, 0, 0, 0, 0] : Bytes) ++ le 4 (crc32c [0x55, 0, 0, 0, 0, 0, 0, 0]).toNat, by decide, by decide +kernel⟩,
   ⟨W, ([0x83, 0, 0, 0, 0, 0, 0, 0] : Bytes) ++ le 4 (crc32c [0x83, 0, 0, 0, 0, 0, 0, 0]).toNat, by decide, by decide +kernel, by decide +kernel⟩,
   ⟨W, ([0x01, 0, 1, 0, 0, 0, 0, 0] : Bytes) ++ le 4 (crc32c [0x01, 0, 1, 0, 0, 0, 0, 0]).toNat, by decide, by decide +kernel⟩,
   ⟨{ W with xng := { changedAt := some 5 } }, _, by decide, rfl⟩,
   ⟨W.modSes 0 (fun v => { v with handed := some 5 }), 0, _, by decide, rfl⟩,
   ⟨W.modSes 0 (fun v => { v with handed := some 5 }), 0, _, by decide, rfl, by decide⟩⟩

/-- States and operands that meet the hypotheses of SessionOpenCloseRuns. -/
theorem test_hyps_SessionOpenCloseRuns_1 :
    (∃ (s : State), s.alive) ∧
    (∃ (s : State) (x : SessId) (w : Window), s.alive ∧ (s.ses x).st = 1 ∧ (s.ses x).proofWin = some w) ∧
    (∃ (s : State) (x : SessId) (d : Nat), s.alive ∧ (s.ses x).blockEnd = some d) ∧
    (∃ (s : State) (x : SessId) (rep : Bool), s.alive ∧ (rep && s.mayRepeat x) = false) ∧
    (∃ (s : State) (x : SessId) (t : Nat) (b : Bytes) (rc : Bytes) (u : State), s.opens x ∧ (x : Nat) ≥ 4 ∧ (s.ses x).rxSeq ≥ 1 ∧ (s.ses x).lastResp = some (t, b, rc) ∧ u = ((s.serialIn x).countUse (16 + 2 * x)).modSes x (fun v => { v with lastRec := s.lnow })) ∧
    (∃ (s : State) (x : SessId), s.opens x ∧ (x : Nat) ≥ 4 ∧ (s.ses x).rxSeq ≥ 1 ∧ (s.ses x).lastResp = none) :=
  ⟨⟨W, by decide⟩,
   ⟨W.modSes 0 (fun v => { v with st := 1, proofWin := some ⟨0, 5⟩ }), 0, _, by decide, by decide, rfl⟩,
   ⟨W.modSes 0 (fun v => { v with blockEnd := some 5 }), 0, _, by decide, rfl⟩,
   ⟨W, 0, false, by decide, by decide⟩,
   ⟨{ W with gran := { W.gran with slots := tabSet (tabSet W.gran.slots 24 (W.slot 16)) 25 (W.slot 17) }, sessions := tabSet W.sessions 4 { W.ses 0 with rxSeq := 1, lastResp := some (6, [], []) } }, 4, _, _, _, _, by decide, by decide, by decide, rfl, rfl⟩,
   ⟨{ W with gran := { W.gran with slots := tabSet (tabSet W.gran.slots 24 (W.slot 16)) 25 (W.slot 17) }, sessions := tabSet W.sessions 4 { W.ses 0 with rxSeq := 1 } }, 4, by decide, by decide, by decide, by decide⟩⟩

/-- States and operands that meet the hypotheses of SessionOpenCloseRuns. -/
theorem test_hyps_SessionOpenCloseRuns_2 :
    (∃ (s : State) (x : SessId), s.opens x) ∧
    (∃ (s : State) (x : SessId), s.alive ∧ (s.ses x).st = 2) ∧
    (∃ (s : State) (x : SessId) (r : Requester), s.reaches (pgSes x) 0x064 r) ∧
    (∃ (s : State) (x : SessId) (r : Requester) (key : BitVec 16), s.reaches (pgSes x) 0x064 r ∧ key.toNat ≠ 23582) :=
  ⟨⟨W, 0, by decide⟩,
   ⟨W, 0, by decide, by decide⟩,
   ⟨W, 0, .warden, by decide⟩,
   ⟨W, 0, .warden, 0, by decide, by decide⟩⟩

/-- States and operands that meet the hypotheses of SessionMessagesRun. -/
theorem test_hyps_SessionMessagesRun :
    (∃ (s : State) (x : SessId) (b : Bytes), s.opens x ∧ b.length = 8) ∧
    (∃ (s : State) (x : SessId), s.opens x) ∧
    (∃ (s : State) (x : SessId) (b : Bytes), s.opens x ∧ b.length = 1 ∧ num b 0 1 ≤ 5) ∧
    (∃ (s : State) (x : SessId) (b : Bytes), s.opens x ∧ b.length = 5 ∧ 1 ≤ num b 4 1 ∧ num b 4 1 ≤ 64) ∧
    (∃ (s : State) (x : SessId) (t : State), s.opens x ∧ t = s.taken x 0x2F) :=
  ⟨⟨W, 0, zeros 8, by decide, by decide⟩,
   ⟨W, 0, by decide⟩,
   ⟨W, 0, [5], by decide, by decide, by decide⟩,
   ⟨W, 0, [0, 0, 0, 0, 64], by decide, by decide, by decide, by decide⟩,
   ⟨W, 0, _, by decide, rfl⟩⟩

/-- States and operands that meet the hypotheses of ServiceAccessRuns. -/
theorem test_hyps_ServiceAccessRuns :
    (∃ (s : State) (x : SessId) (t : State), s.opens x ∧ t = s.taken x 0x38) ∧
    (∃ (s : State) (x : SessId) (t : State), s.opens x ∧ ((s.ses x).role == 3) = true ∧ t = s.taken x 0x39 ∧ t.svc.chal = none) ∧
    (∃ (s : State) (c : Nat × Nat × Bytes × Window), s.alive ∧ s.svc.chal = some c) ∧
    (∃ (s : State) (x : SessId) (b : Bytes) (t : State), s.opens x ∧ ((s.ses x).role == 3) = true ∧ b.length = 20 ∧ t = s.taken x 0x3A ∧ t.svc.chal = none) ∧
    (∃ (s : State) (x : SessId) (b : Bytes) (nc : Bytes) (t : State) (u : State) (v : State) (w : Window), s.opens x ∧ ((s.ses x).role == 3) = true ∧ b.length = 20 ∧ num b 0 1 = 1 ∧ t = s.taken x 0x3A ∧ t.svc.chal = some (x.val, 1, nc, w) ∧ t.lnow ≤ w.dl ∧ chainOk t.gran.slots keySlots 8 = true ∧ sub b 4 16 = (hmacSha384 (t.slot 8).key (ascii "RELMAL-REOPEN" ++ t.moduleId ++ le 1 1 ++ le 1 x ++ nc)).take 16 ∧ u = t.chalExpired.countUse 8 ∧ v = (u.modSes x (fun y => u.access x { y with svcRe := true })).raise pgSvc 1) ∧
    (∃ (s : State) (x : SessId) (b : Bytes) (u : State) (c : OtpRun), s.opens x ∧ ((s.ses x).eff == 1) = true ∧ b.length = 1 ∧ u = (s.taken x 0x3B).otpStart 0x4D2C { cmd := 2, row := 173, reg := 0, data := num b 0 1 % 4, ses := some (x.val, s.nextReq x) } false ∧ u.otp.run = some c ∧ c.ses = some (x.val, s.nextReq x)) :=
  ⟨⟨W, 0, _, by decide, rfl⟩,
   ⟨W.modSes 0 (fun v => { v with role := 3 }), 0, _, by decide, by decide, rfl, by decide⟩,
   ⟨{ W with svc := { chal := some (0, 1, [], ⟨0, 5⟩) } }, _, by decide, rfl⟩,
   ⟨W.modSes 0 (fun v => { v with role := 3 }), 0, zeros 20, _, by decide, by decide, by decide, rfl, by decide⟩,
   ⟨Wsvc, 0, [1, 0, 0, 0, 0xB1, 0xA7, 0x4D, 0x85, 0x1F, 0x9F, 0x72, 0xC9, 0xDF, 0xE1, 0xCD, 0x72, 0x01, 0x3E, 0x41, 0x8F], [], _, _, _, ⟨0, 1000000⟩, by decide, by decide, by decide, by decide, rfl, rfl, by decide, by decide, by
     show _ = (hmacSha384 ((Wsvc.taken (0 : SessId).val 0x3A).slot 8).key (ascii "RELMAL-REOPEN" ++ Otp.bytes (Wsvc.taken (0 : SessId).val 0x3A).otp 0 4 ++ le 1 1 ++ le 1 (0 : SessId).val ++ [])).take 16
     rw [show (Wsvc.taken (0 : SessId).val 0x3A).otp = Wsvc.otp from rfl, show ((Wsvc.taken (0 : SessId).val 0x3A).slot 8).key = [1] from rfl, show Otp.bytes Wsvc.otp 0 4 = zeros 16 from rfl]
     decide +kernel, rfl, rfl⟩,
   ⟨W, 0, [1], _, _, by decide, by decide, by decide, rfl, rfl, by decide⟩⟩

/-- States and operands that meet the hypotheses of PortMessagesRun. -/
theorem test_hyps_PortMessagesRun_1 :
    (∃ (s : State) (x : SessId) (b : Bytes), s.opens x ∧ b.length = 4 ∧ 1 ≤ num b 2 2 ∧ num b 2 2 ≤ 256 ∧ num b 0 2 + num b 2 2 ≤ 1024) ∧
    (∃ (s : State) (x : SessId) (b : Bytes), s.opens x ∧ b.length = 2 ∧ portOk b) ∧
    (∃ (s : State) (x : SessId) (b : Bytes) (t : State), s.opens x ∧ s.owner x ∧ b.length = 36 ∧ portOk b ∧ t = s.taken x 0x31 ∧ t.enrolCode b ≠ 0) ∧
    (∃ (s : State) (x : SessId) (b : Bytes) (d : DeviceRead) (t : State) (q : EnrolReq), s.opens x ∧ s.owner x ∧ b.length = 36 ∧ portOk b ∧ t = s.taken x 0x31 ∧ t.enrolCode b = 0 ∧ q = { port := num b 0 2, ses := x.val, seq := s.nextReq x, body := b, dev := d, man := (t.manSlot (num b 9 1)).bytes }) ∧
    (∃ (s : State) (x : SessId) (b : Bytes) (t : State), s.opens x ∧ s.owner x ∧ b.length = 2 ∧ portOk b ∧ t = s.taken x 0x32 ∧ t.retireCode (num b 0 2) = 0) ∧
    (∃ (s : State) (x : SessId) (b : Bytes) (t : State), s.opens x ∧ s.owner x ∧ b.length = 3 ∧ portOk b ∧ num b 2 1 = 1 ∧ t = s.taken x 0x33 ∧ t.enterCode (num b 0 2) = 0) :=
  ⟨⟨W, 0, [0xFF, 3, 1, 0], by decide, by decide, by decide, by decide, by decide⟩,
   ⟨W, 0, [0xFF, 3], by decide, by decide, by decide⟩,
   ⟨W, 0, zeros 36, _, by decide, by decide, by decide, by decide, rfl, by decide⟩,
   ⟨Wman, 0, [0, 0, 1, 0, 0, 10, 0, 0, 10] ++ zeros 27, DEV, _, _, by decide, by decide, by decide, by decide, rfl, by decide +kernel, rfl⟩,
   ⟨W, 0, [0, 0], _, by decide, by decide, by decide, by decide, rfl, by decide⟩,
   ⟨W, 0, [0, 0, 1], _, by decide, by decide, by decide, by decide, by decide, rfl, by decide⟩⟩

/-- States and operands that meet the hypotheses of PortMessagesRun. -/
theorem test_hyps_PortMessagesRun_2 :
    (∃ (s : State) (x : SessId) (b : Bytes) (t : State), s.opens x ∧ s.owner x ∧ b.length = 3 ∧ portOk b ∧ num b 2 1 = 2 ∧ t = s.taken x 0x33 ∧ t.enterCode (num b 0 2) = 0) ∧
    (∃ (s : State) (x : SessId) (b : Bytes) (t : State), s.opens x ∧ s.ownerOrService x ∧ b.length = 3 ∧ portOk b ∧ num b 2 1 = 3 ∧ t = s.taken x 0x33 ∧ t.relCode (num b 0 2) = 0) ∧
    (∃ (s : State) (x : SessId) (t : State), s.opens x ∧ s.owner x ∧ t = s.taken x 0x34 ∧ t.departCode = 0) ∧
    (∃ (s : State) (x : SessId) (t : State), s.opens x ∧ s.owner x ∧ t = s.taken x 0x34 ∧ t.cancelCode = 0) :=
  ⟨⟨W, 0, [0, 0, 2], _, by decide, by decide, by decide, by decide, by decide, rfl, by decide⟩,
   ⟨W.modPort 0 (fun v => { v with st := .quarantined }), 0, [0, 0, 3], _, by decide, by decide, by decide, by decide, by decide, rfl, by decide⟩,
   ⟨W, 0, _, by decide, by decide, rfl, by decide⟩,
   ⟨{ W with modState := .departing }, 0, _, by decide, by decide, rfl, by decide⟩⟩

/-- States and operands that meet the hypotheses of MainsReserveRuns. -/
theorem test_hyps_MainsReserveRuns_1 :
    (∃ (s : State), s.modState ≠ .cold ∧ s.pwr.mainsOk = false ∧ s.modState ≠ .shutter ∧ s.loft.resetting = none) ∧
    (∃ (s : State), s.modState ≠ .cold ∧ s.pwr.mainsOk ∧ s.pwr.testing = none ∧ s.pwr.charging = false ∧ s.loft.resetting = none) ∧
    (∃ (s : State), s.modState ≠ .cold ∧ s.pwr.charging = true ∧ s.pwr.ready = false ∧ s.pwr.nextTest = none) ∧
    (∃ (s : State) (d : Nat), s.pwr.readyDl = some d) ∧
    (∃ (s : State) (t : Nat), s.pwr.nextTest = some t ∧ s.mayTest ∧ s.pwr.testing = none) ∧
    (∃ (s : State) (t : Nat) (full : Nat), s.pwr.testing = some t ∧ s.pwr.mainsOk = false ∧ 200 ≤ full ∧ full < 860) :=
  ⟨⟨{ W with pwr := {} }, by decide, by decide, by decide, by decide⟩,
   ⟨W, by decide, by decide, by decide, by decide, by decide⟩,
   ⟨{ W with pwr := { charging := true } }, by decide, by decide, by decide, by decide⟩,
   ⟨{ W with pwr := { readyDl := some 5 } }, _, rfl⟩,
   ⟨{ W with pwr := { ready := true, nextTest := some 5 } }, _, rfl, by decide, by decide⟩,
   ⟨{ W with pwr := { testing := some 5 } }, _, 200, rfl, by decide, by decide, by decide⟩⟩

/-- States and operands that meet the hypotheses of MainsReserveRuns. -/
theorem test_hyps_MainsReserveRuns_2 :
    (∃ (s : State) (r : Requester), s.reaches pgPwr 0x058 r ∧ s.mayTest ∧ s.pwr.testing = none) ∧
    (∃ (s : State) (r : Requester), s.reaches pgPwr 0x058 r ∧ s.mayTest = false) :=
  ⟨⟨W, .warden, by decide, by decide, by decide⟩,
   ⟨{ W with pwr := {} }, .warden, by decide, by decide⟩⟩

/-- States and operands that meet the hypotheses of DomainsSensorsRun. -/
theorem test_hyps_DomainsSensorsRun :
    (∃ (s : State) (r : Requester) (d : Nat), s.reaches pgPwr 0x064 r ∧ d = selDom s r ∧ d < 1024 ∧ s.modState ≠ .shutter ∧ s.phyMayOn d = true) ∧
    (∃ (s : State) (r : Requester), s.reaches pgPwr 0x064 r ∧ 1024 ≤ selDom s r) ∧
    (∃ (s : State) (r : Requester) (d : Nat), s.reaches pgPwr 0x064 r ∧ d = selDom s r ∧ d < 1024 ∧ s.modState ≠ .shutter) ∧
    (∃ (s : State) (d : Fin 1074), s.alive ∧ s.domOn d) ∧
    (∃ (s : State) (p : PortId) (t : Nat) (u : State), (s.dom p).retryAt = some t ∧ u = (s.toLoft t).modDom p (fun x => { x with retryAt := none }) ∧ s.alive ∧ s.modState ≠ .shutter ∧ u.phyMayOn p ∧ (u.hall (hallOf p)).phase = .run) ∧
    (∃ (s : State) (m : SensorReading) (u : State), u = each (List.range 8) (fun k t => t.sampleSensor k (m.temps.getD k none)) s ∧ (List.range 8).any (fun k => (u.sensor k).trip && !(s.sensor k).trip) = false) :=
  ⟨⟨W.setSel pgPwr 0x05C .warden 1023, .warden, _, by decide, rfl, by decide, by decide, by decide⟩,
   ⟨W.setSel pgPwr 0x05C .warden 1024, .warden, by decide, by decide⟩,
   ⟨W, .warden, _, by decide, rfl, by decide, by decide⟩,
   ⟨{ W with pwr := { doms := [(0, { on := true })] } }, 0, by decide, by decide⟩,
   ⟨{ W with ports := [], pwr := { doms := [(0, { retryAt := some 5 })] } }, 0, _, _, rfl, rfl, by decide, by decide, by decide, by decide⟩,
   ⟨W, ⟨[]⟩, _, rfl, by decide⟩⟩

/-- States and operands that meet the hypotheses of RegisterAccessRuns. -/
theorem test_hyps_RegisterAccessRuns_1 :
    (∃ (s : State) (r : Requester) (page : BitVec 9), s.reaches page.toNat 0x008 r) ∧
    (∃ (s : State) (page : BitVec 9), s.reaches page.toNat 0x030 .warden ∧ (s.hdr page.toNat).cfgSet = false) ∧
    (∃ (s : State) (page : BitVec 9), s.reaches page.toNat 0x030 .warden ∧ (s.hdr page.toNat).cfgSet = true) ∧
    (∃ (s : State) (page : BitVec 9), s.reaches page.toNat 0x030 .warden ∧ (s.hdr page.toNat).errSet = false) ∧
    (∃ (s : State) (r : Requester) (page : BitVec 9) (off : BitVec 12) (t : State), s.live r ∧ pageExists page.toNat ∧ isLo page.toNat off.toNat ∧ s.barred page.toNat r = false ∧ t = (s.shadowRead page.toNat off.toNat r).jbufSample page.toNat off.toNat) ∧
    (∃ (s : State) (r : Requester) (g : GalleryId) (t : State), s.live r ∧ s.barred (pgPw g) r = false ∧ t = s.shadowRead (pgPw g) 0x044 r) :=
  ⟨⟨W, .warden, 0, by decide⟩,
   ⟨W, 0x20, by decide, by decide⟩,
   ⟨W.modHdr 0 (fun h => { h with cfgSet := true }), 0, by decide, by decide⟩,
   ⟨W, 0x20, by decide, by decide⟩,
   ⟨W, .warden, 0, 0x5C, _, by decide, by decide, by decide, by decide, rfl⟩,
   ⟨W, .warden, 0, _, by decide, by decide, rfl⟩⟩

/-- States and operands that meet the hypotheses of RegisterAccessRuns. -/
theorem test_hyps_RegisterAccessRuns_2 :
    (∃ (s : State) (page : BitVec 9) (off : BitVec 12) (v : Word), s.live .warden ∧ off.toNat % 4 = 0 ∧ s.byLanding page.toNat off.toNat v.toNat = none ∧ pageExists page.toNat = false) ∧
    (∃ (s : State) (page : BitVec 9) (off : BitVec 12) (v : Word), s.live .warden ∧ off.toNat % 4 = 0 ∧ s.byLanding page.toNat off.toNat v.toNat = none ∧ pageExists page.toNat = true ∧ s.pageInReset page.toNat = true) ∧
    (∃ (s : State) (page : BitVec 9) (off : BitVec 12) (v : Word), s.live .warden ∧ off.toNat % 4 = 0 ∧ s.byLanding page.toNat off.toNat v.toNat = none ∧ pageExists page.toNat = true ∧ s.pageInReset page.toNat = false ∧ off.toNat ≠ 48) :=
  ⟨⟨W, 0x0FF, 0, 0, by decide, by decide, by decide, by decide⟩,
   ⟨{ W with halls := [] }, 0x40, 0, 0, by decide, by decide, by decide, by decide, by decide⟩,
   ⟨W, 0x10, 0, 0, by decide, by decide, by decide, by decide, by decide, by decide⟩⟩

/-- States and operands that meet the hypotheses of PageMessagesRun. -/
theorem test_hyps_PageMessagesRun :
    (∃ (s : State) (x : SessId) (b : Bytes) (t : State) (y : State × Bytes × Bool), s.opens x ∧ b.length = 5 ∧ t = s.taken x 0x08 ∧ pageExists (num b 0 2) = true ∧ spanOk (num b 2 2) (num b 4 1) 1 64 = true ∧ y = t.readWords (num b 0 2) (.session x) ((List.range (num b 4 1)).map (fun k => num b 2 2 + 4 * k)) ∧ y.2.2 = true) ∧
    (∃ (s : State) (x : SessId) (b : Bytes) (t : State), s.opens x ∧ b.length = 5 ∧ t = s.taken x 0x08 ∧ pageExists (num b 0 2) = false) ∧
    (∃ (s : State) (x : SessId) (b : Bytes) (t : State) (y : State × Nat × Nat), s.opens x ∧ b.length = 8 + 4 * num b 4 1 ∧ t = s.taken x 0x09 ∧ pageExists (num b 0 2) = true ∧ spanOk (num b 2 2) (num b 4 1) 1 16 = true ∧ y = t.writeWords x.val (num b 0 2) x.isLt ((List.range (num b 4 1)).map (fun k => (num b 2 2 + 4 * k, num b (8 + 4 * k) 4)))) ∧
    (∃ (s : State) (x : SessId) (b : Bytes) (t : State) (u : State) (z : State) (old : Nat), s.opens x ∧ b.length = 12 ∧ t = s.taken x 0x0A ∧ pageExists (num b 0 2) = true ∧ spanOk (num b 2 2) 1 1 1 = true ∧ (regW (num b 0 2) (num b 2 2)).rw ≠ 0 ∧ num b 2 2 ≠ 48 ∧ t.readReg (num b 0 2) (num b 2 2) (.session x) = (some old, u) ∧ u.hostWrite x.val (num b 0 2) (num b 2 2) ((old &&& (full ^^^ num b 4 4)) ||| (num b 8 4 &&& num b 4 4)) x.isLt = (0, z)) ∧
    (∃ (s : State) (x : SessId) (b : Bytes) (t : State), s.opens x ∧ b.length = 2 ∧ t = s.taken x 0x0B ∧ pageExists (num b 0 2) = true) :=
  ⟨⟨W, 0, [0, 0, 0, 0, 1], _, _, by decide, by decide, rfl, by decide, by decide, rfl, by decide⟩,
   ⟨W, 0, [0xFF, 0, 0, 0, 1], _, by decide, by decide, rfl, by decide⟩,
   ⟨W, 0, [0, 0, 0, 0, 1, 0, 0, 0] ++ zeros 4, _, _, by decide, by decide, rfl, by decide, by decide, rfl⟩,
   ⟨W, 0, le 2 pgLp ++ [0x48] ++ zeros 9, _, _, _, _, by decide, by decide, rfl, by decide, by decide, by decide, by decide, rfl, rfl⟩,
   ⟨W, 0, [0, 0], _, by decide, by decide, rfl, by decide⟩⟩

/-- States and operands that meet the hypotheses of StepRunsFront. -/
theorem test_hyps_StepRunsFront :
    (∃ (s : State) (c : Instr) (rest : List Instr), s.pending = c :: rest) :=
  ⟨{ W with pending := [.mainsReturn] }, _, _, rfl⟩

/-- States and operands that meet the hypotheses of IdleStepTicks. -/
theorem test_hyps_IdleStepTicks :
    (∃ (s : State), s.pending = []) :=
  ⟨W, by decide⟩

/-- States and operands that meet the hypotheses of StepKeepsCollected. -/
theorem test_hyps_StepKeepsCollected :
    (∃ (s t : State), step s = .next t) :=
  ⟨W, _, rfl⟩

/-- States and operands that meet the hypotheses of AccessErrorRecord. -/
theorem test_hyps_AccessErrorRecord :
    (∃ (s : State) (page : BitVec 9) (v : Word), s.reaches page.toNat 0x02C .warden ∧ bit v.toNat 0 = true) :=
  ⟨W, 0x10, 1, by decide, by decide⟩

/-- States and operands that meet the hypotheses of RaiseSetsSource. -/
theorem test_hyps_RaiseSetsSource :
    (∃ (s : State) (p b : Nat), (s.hdr (0x82 + 4 * (p / 64))).errMask.getLsbD b = false) :=
  ⟨W, 1023, 7, by decide⟩

/-- States and operands that meet the hypotheses of FinishAtRest. -/
theorem test_hyps_FinishAtRest :
    (∃ (s : State), s.AtRest) :=
  ⟨{ W with modState := .cold }, by decide +kernel, by decide +kernel⟩

/-- States and operands that meet the hypotheses of MirrorReadAfterWrite. -/
theorem test_hyps_MirrorReadAfterWrite :
    (∃ (s : State), s.MirrorWf) :=
  ⟨State.reset, by intro p; simp [State.slice, tabGet, Memory.wf, State.reset]⟩

/-- States and operands that meet the hypotheses of SealedRowCode. -/
theorem test_hyps_SealedRowCode :
    (∃ (d i j : Nat), d < 2 ^ 32 ∧ i < 39 ∧ j < i) :=
  ⟨0xFFFFFFFF, 38, 0, by decide, by decide, by decide⟩

/-- States and operands that meet the hypotheses of UnheardFramesIgnored. -/
theorem test_hyps_UnheardFramesIgnored :
    (∃ (s : State) (p : PortId), s.linkUp p = false) ∧
    (∃ (s : State) (p : PortId), s.linkUp p = true ∧ (s.port p).link.lateBy s.hnow = false ∧ s.injection (pgLs (galOf p)) 0 (some p.val) ≠ 0) :=
  ⟨⟨W, 1, by decide⟩,
   ⟨W.modHdr 0x82 (fun h => { h with injArmed := true, injMode := 1, injPort := 0 }), 0, by decide, by decide, by decide⟩⟩

/-- States and operands that meet the hypotheses of RegisterAccessRefused. -/
theorem test_hyps_RegisterAccessRefused :
    (∃ (s : State) (r : Requester), s.live r = false) ∧
    (∃ (s : State), s.live .warden = false) ∧
    (∃ (s : State) (r : Requester) (page : BitVec 9), s.live r = true ∧ pageExists page.toNat = true ∧ s.pageInReset page.toNat = true) ∧
    (∃ (s : State) (h k : Nat), h < 4 ∧ k < 8 ∧ (s.hall h).phase = .faulted ∧ k = 1) ∧
    (∃ (s : State) (h k : Nat), h < 4 ∧ k < 8 ∧ (s.hall h).phase = .faulted ∧ k ≠ 1) :=
  ⟨⟨W, .session 5, by decide⟩,
   ⟨State.reset, by decide⟩,
   ⟨{ W with halls := [] }, .warden, 0x40, by decide, by decide, by decide⟩,
   ⟨W.modHall 3 (fun h => { h with phase := .faulted }), 3, 1, by decide, by decide, by decide, by decide⟩,
   ⟨W.modHall 3 (fun h => { h with phase := .faulted }), 3, 7, by decide, by decide, by decide, by decide⟩⟩

/-- States and operands that meet the hypotheses of HostRequestsRefused. -/
theorem test_hyps_HostRequestsRefused :
    (∃ (s : State) (x : SessId), s.opens x ∧ s.owner x = false) ∧
    (∃ (s : State) (x : SessId) (b : Bytes), s.opens x ∧ b.length ≠ 8) ∧
    (∃ (s : State) (x : SessId), s.alive = true ∧ (s.ses x).st = 2 ∧ s.timely x ∧ chainOk s.gran.slots keySlots (16 + 2 * x) = true ∧ chainOk s.gran.slots keySlots (17 + 2 * x) = true ∧ 64 ≤ (s.ses x).outst.length) ∧
    (∃ (s : State) (x : SessId), s.alive = true ∧ (s.lapse x |>.ses x).st ≠ 2) :=
  ⟨⟨W.modSes 0 (fun v => { v with role := 3 }), 0, by decide, by decide⟩,
   ⟨W, 0, [], by decide, by decide⟩,
   ⟨W.modSes 0 (fun v => { v with outst := List.replicate 64 { seq := 0, type := 6 } }), 0, by decide, by decide, by decide, by decide, by decide, by decide⟩,
   ⟨W, 1, by decide, by decide⟩⟩

theorem test_wf_pairResp : Instr.wf (.pairResp 0 (zeros 15) (zeros 16)) = false := by decide +kernel
theorem test_wf_creditInit : Instr.wf (.creditInit 0 { c0 := 256 }) = false := by decide +kernel
theorem test_wf_rdStop : Instr.wf (.rdStop 0 0 (2 ^ 32)) = false := by decide +kernel
theorem test_wf_wrCmd : Instr.wf (.wrCmd 0 ⟨0, 2, 6, 0, false, false, true, 0, 513⟩) = false := by decide +kernel
theorem test_wf_wrData : Instr.wf (.wrData 0 0 (zeros 257)) = false := by decide +kernel
theorem test_wf_flDone : Instr.wf (.flDone 0 0 0 0 (2 ^ 32)) = false := by decide +kernel
theorem test_wf_allow : Instr.wf (.allow 0 .warden 65536) = false := by decide +kernel
theorem test_wf_patrolScrubRead : Instr.wf (.patrolScrubRead 0 (2 ^ 29) .good) = false := by decide +kernel
theorem test_wf_mainsStable : Instr.wf (.mainsStable ⟨65536, 0, 0, 0, 0, 0⟩) = false := by decide +kernel
theorem test_wf_loftResetRelease : Instr.wf (.loftResetRelease ⟨⟨[]⟩, 0, true⟩) = false := by decide +kernel
theorem test_wf_pufRetryTimer : Instr.wf (.pufRetryTimer ⟨zeros 1535⟩) = false := by decide +kernel
theorem test_wf_sealFlush : Instr.wf (.sealFlush .warden 257) = false := by decide +kernel
theorem test_wf_tapPromote : Instr.wf (.tapPromote (.host 0 (zeros 4609))) = false := by decide +kernel
theorem test_wf_submit : Instr.wf (.submit .warden 0 false ⟨zeros 63, []⟩) = false := by decide +kernel
theorem test_wf_errInjWrite : Instr.wf (.errInjWrite .warden 256 0) = false := by decide +kernel
theorem test_wf_portEnrol : Instr.wf (.portEnrol 0 [] { DEV with jedec := zeros 17 }) = false := by decide +kernel
theorem test_wf_reserveTestEnd : Instr.wf (.reserveTestEnd 65536 0 0) = false := by decide +kernel
theorem test_wf_sensorSample : Instr.wf (.sensorSample ⟨[]⟩) = false := by decide +kernel
theorem test_wf_loRegisterRead : Instr.wf (.loRegisterRead .warden 0 2) = false := by decide +kernel
theorem test_wf_ping : Instr.wf (.ping 0 (zeros 4609)) = false := by decide +kernel
theorem test_wf_registerWrite : Instr.wf (.registerWrite 0 2 0) = false := by decide +kernel
theorem test_wf_otpCommandDone : Instr.wf (.otpCommandDone ⟨some 40, 0⟩) = false := by decide +kernel

theorem test_wf_good : Instr.wf (.pairResp 0 (zeros 16) (zeros 16)) = true := by decide

/-- No word spells a command. -/
theorem test_decode_none : decodeTableWord 8 0 = none := rfl

/-- 02 R50: the CRC of the ASCII string "123456789". -/
theorem test_crc32c : crc32c (ascii "123456789") = 0xE3069283 := by decide +kernel

/-- FIPS 180-4: SHA-256 of "abc", first four bytes. -/
theorem test_sha256_abc : (sha256 (ascii "abc")).take 4 = [0xBA, 0x78, 0x16, 0xBF] := by decide +kernel

/-- FIPS 180-4: SHA-384 of "abc", first four bytes. -/
theorem test_sha384_abc : (sha384 (ascii "abc")).take 4 = [0xCB, 0x00, 0x75, 0x3F] := by decide +kernel

/-- RFC 4231 test case 2: HMAC-SHA-256 of "what do ya want for nothing?" under "Jefe", first four bytes. -/
theorem test_hmac256 : (hmacSha256 (ascii "Jefe") (ascii "what do ya want for nothing?")).take 4 = [0x5B, 0xDC, 0xC1, 0x46] := by
  decide +kernel

/-- 02 Table 2.11: dummy cycles at 50 MHz up to 20 m and at 104 MHz up to 30 m. -/
theorem test_dummy : dummyN 50 1 = 28 ∧ dummyN 104 2 = 67 := by decide

/-- 11 R332: data 0 has check bits 0; an error in check bit 0 is corrected. -/
theorem test_seal_code : sealEncode 0 = 0 ∧ sealDecode (2 ^ 32) = some (0, true) := by decide

/-- 02 Table 2.5: the module's release of a link that trains begins with pairing; 02 Table 2.6 step 5. -/
theorem test_link_trained : (match exec (.linkTrained 0) (W.modPort 0 (fun v => { v with st := .linking, link :=
    { phase := .ts2, trainWin := some ⟨0, 80000000⟩ } })) with
    | .next t => (t.port 0).st == .pairing
    | _ => false) = true := by decide +kernel

/-- 13 R381: a write of 1 to ERR_STAT clears the bit, 0 leaves it (W1C). -/
theorem test_w1c : (match exec (.registerWrite 0x10 0x010 1) (W.modHdr 0x10 (fun h => { h with errStat := 3 })) with
    | .next t => (t.hdr 0x10).errStat == 2
    | _ => false) = true := by decide +kernel

/-- 17 R481: a warden's write to an index that is no page sets ERR_STAT [3] of the Loft control page. -/
theorem test_no_page : (match exec (.registerWrite 0xFF 0x040 1) W with
    | .next t => (t.hdr 0x10).errStat == 8
    | _ => false) = true := by decide +kernel

/-- 14 R431: PING answers its body. -/
theorem test_ping : (match exec (.ping 0 (zeros 8)) W with
    | .next t => (match t.out.head? with | some (.response 0 6 b _) => b == zeros 8 | _ => false)
    | _ => false) = true := by decide +kernel

end Sys2Proof.Tests
end

section
/-! SUPPORT. The step, and the commands of chapter 17: what a lock, a register read and a warden's write do where they act. -/

namespace Sys2Proof.Machine

/-! ### The step -/

theorem step_of_pending_cons (s : State) (c : Instr) (rest : List Instr) (h : s.pending = c :: rest) :
    step s = exec c { s with pending := rest } := by
  simp only [step, h]

theorem step_of_pending_nil (s : State) (h : s.pending = []) : step s = .next s.tick := by
  simp only [step, h]

/-- Settles O46: the queue's first command selects the arm of the step. -/
theorem stepRunsFront : Obligations.StepRunsFront :=
  step_of_pending_cons

/-- Settles O47: the empty queue selects the tick, which is one clock tick and the end of every command. -/
theorem idleStepTicks : Obligations.IdleStepTicks :=
  step_of_pending_nil

/-! ### What the register commands are -/

theorem exec_cntClear (s : State) (r : Requester) (page : BitVec 9) :
    exec (.cntClear r page) s = .next (s.access17 page.toNat 0x008 r (·.clearCounters page.toNat)).finish := rfl

theorem exec_cfgLock (s : State) (r : Requester) (page : BitVec 9) :
    exec (.cfgLock r page) s = .next (s.lockBy page.toNat r (some true) none).finish := rfl

theorem exec_errLock (s : State) (r : Requester) (page : BitVec 9) :
    exec (.errLock r page) s = .next (s.lockBy page.toNat r none (some true)).finish := rfl

theorem exec_registerWrite (s : State) (page : BitVec 9) (off : BitVec 12) (v : Word) :
    exec (.registerWrite page off v) s = .next (s.wardenWrite page.toNat off.toNat v.toNat).finish := rfl

theorem exec_loRegisterRead_live (s : State) (r : Requester) (page : BitVec 9) (off : BitVec 12) (hl : s.live r = true)
    (hp : pageExists page.toNat = true) (hlo : isLo page.toNat off.toNat = true) :
    exec (.loRegisterRead r page off) s = .next (s.readReg page.toNat off.toNat r).2.finish := by
  change (s.when (s.live r && pageExists page.toNat && isLo page.toNat off.toNat) _).done = _
  rw [hl, hp, hlo]
  rfl

theorem exec_pwStateRead_live (s : State) (r : Requester) (g : GalleryId) (hl : s.live r = true) :
    exec (.pwStateRead r g) s = .next (s.readReg (pgPw g) 0x044 r).2.finish := by
  change (s.when (s.live r) _).done = _
  rw [hl]
  rfl

/-! ### Locks (17 R489) -/

/-- Only the value that a change gives the page's own header counts. -/
theorem modHdr_congr (s : State) (page : Nat) (f g : Hdr → Hdr) (h : f (s.hdr page) = g (s.hdr page)) :
    s.modHdr page f = s.modHdr page g := by
  simp only [State.modHdr, h]

theorem lockBy_warden (s : State) (page : Nat) (cfg err : Option Bool) (h : s.reaches page 0x030 .warden) :
    s.lockBy page .warden cfg err = s.lockWrite page cfg err := by
  simp [State.lockBy, access17_reaches s page 0x030 .warden _ h]

theorem lockWrite_cfg_fresh (s : State) (page : Nat) (v : Bool) (h : (s.hdr page).cfgSet = false) :
    s.lockWrite page (some v) none = s.modHdr page (fun x => { x with cfgLock := v, cfgSet := true }) := by
  have hf : (s.hdr page).setCfgLock v = { s.hdr page with cfgLock := v, cfgSet := true } := by
    simp [Hdr.setCfgLock, h]
  simpa [State.lockWrite, h] using modHdr_congr s page (·.setCfgLock v) _ hf

theorem lockWrite_err_fresh (s : State) (page : Nat) (v : Bool) (h : (s.hdr page).errSet = false) :
    s.lockWrite page none (some v) = s.modHdr page (fun x => { x with errLock := v, errSet := true }) := by
  have hf : (s.hdr page).setErrLock v = { s.hdr page with errLock := v, errSet := true } := by
    simp [Hdr.setErrLock, h]
  simpa [State.lockWrite, h] using modHdr_congr s page (·.setErrLock v) _ hf

/-- A field that was written before is kept, and the write is an access error of reason WRITE_ONCE (00 R15). -/
theorem lockWrite_cfg_held (s : State) (page : Nat) (v : Bool) (h : (s.hdr page).cfgSet = true) :
    s.lockWrite page (some v) none = (s.modHdr page (fun x => x)).accErr page 0x030 1 .warden := by
  have hf : (s.hdr page).setCfgLock v = s.hdr page := by
    simp [Hdr.setCfgLock, h]
  simpa [State.lockWrite, h] using
    congrArg (·.accErr page 0x030 1 .warden) (modHdr_congr s page (·.setCfgLock v) (fun x => x) hf)

/-! ### Register reads (17 R483, R484, R492) -/

theorem jbufSample_other (s : State) (page off : Nat) (h : off ≠ 0x06C) : s.jbufSample page off = s := by
  simp [State.jbufSample, h]

/-- The state after a read that no reset bars: the latches it takes, and one draw. -/
theorem readReg_open (s : State) (page off : Nat) (r : Requester) (h : s.barred page r = false) :
    (s.readReg page off r).2 = { ((s.shadowRead page off r).jbufSample page off).latchRead page off r with
      freeCtr := ((s.shadowRead page off r).jbufSample page off).freeCtr + 1 } := by
  simp [State.readReg, h]

/-! ### Register writes of the warden (17 R481, R484, R490) -/

section
variable (s : State) (page off v : Nat) (hl : s.live .warden = true) (ha : off % 4 = 0) (hb : s.byLanding page off v = none)
include hl ha hb

theorem wardenWrite_noPage (hp : pageExists page = false) : s.wardenWrite page off v = s.raise 0x10 3 := by
  simp [State.wardenWrite, hl, ha, hb, hp]

theorem wardenWrite_inReset (hp : pageExists page = true) (hr : s.pageInReset page = true) :
    s.wardenWrite page off v = s.accErr page off 6 .warden := by
  simp [State.wardenWrite, hl, ha, hb, hp, hr]

/-- Any register but LOCK, at offset 0x030. -/
theorem wardenWrite_setReg (hp : pageExists page = true) (hr : s.pageInReset page = false) (ho : off ≠ 0x030) :
    s.wardenWrite page off v = s.setReg page off v .warden (s.writeMask page off .warden) := by
  simp [State.wardenWrite, hl, ha, hb, hp, hr, ho]

end

/-- Settles O44, each clause by the lemma on its lock, read or write. -/
theorem registerAccessRuns : Obligations.RegisterAccessRuns := by
  unfold Obligations.RegisterAccessRuns
  refine ⟨?cntClear, ?cfgFresh, ?cfgHeld, ?errFresh, ?loRead, ?pwRead, ?noPage, ?inReset, ?setReg⟩
  case cntClear =>
    intro s r page h
    rw [exec_cntClear, access17_reaches s _ _ r _ h]
  case cfgFresh =>
    intro s page h hf
    rw [exec_cfgLock, lockBy_warden s _ _ _ h, lockWrite_cfg_fresh s _ _ hf]
  case cfgHeld =>
    intro s page h hs
    rw [exec_cfgLock, lockBy_warden s _ _ _ h, lockWrite_cfg_held s _ _ hs]
  case errFresh =>
    intro s page h hf
    rw [exec_errLock, lockBy_warden s _ _ _ h, lockWrite_err_fresh s _ _ hf]
  case loRead =>
    rintro s r page off t hl hp hlo hb rfl
    rw [exec_loRegisterRead_live s r page off hl hp hlo, readReg_open s _ _ r hb]
  case pwRead =>
    rintro s r g t hl hb rfl
    rw [exec_pwStateRead_live s r g hl, readReg_open s _ _ r hb, jbufSample_other _ _ _ (by decide)]
  case noPage =>
    intro s page off v hl ha hb hp
    rw [exec_registerWrite, wardenWrite_noPage s _ _ _ hl ha hb hp]
  case inReset =>
    intro s page off v hl ha hb hp hr
    rw [exec_registerWrite, wardenWrite_inReset s _ _ _ hl ha hb hp hr]
  case setReg =>
    intro s page off v hl ha hb hp hr ho
    rw [exec_registerWrite, wardenWrite_setReg s _ _ _ hl ha hb hp hr ho]

end Sys2Proof.Machine
end

section
/-! SUPPORT. The mirror slices byte by byte: what a read finds after a write (01 R25, R29). -/

namespace Sys2Proof.Machine

/-! ### Lookups in joined and filtered tables -/

theorem tabGet_of_absent {α : Type} (d : α) (t : Tab α) (k : Nat) (h : ∀ e ∈ t, e.1 ≠ k) : tabGet d t k = d := by
  induction t with
  | nil => rfl
  | cons e t ih =>
    rw [List.forall_mem_cons] at h
    rw [tabGet, if_neg h.1.symm, ih h.2]

/-- What the first table does not list is looked up in the second. -/
theorem tabGet_append {α : Type} (d : α) (t u : Tab α) (k : Nat) : tabGet d (t ++ u) k = tabGet (tabGet d u k) t k := by
  induction t with
  | nil => rfl
  | cons e t ih => simp only [List.cons_append, tabGet, ih]

theorem tabGet_filter {α : Type} (d : α) (t : Tab α) (keep : Nat → Bool) (k : Nat) :
    tabGet d (t.filter (fun e => keep e.1)) k = if keep k then tabGet d t k else d := by
  induction t with
  | nil => simp [tabGet]
  | cons e t ih =>
    by_cases hk : k = e.1
    · cases hkeep : keep k <;> simp_all [tabGet]
    · cases hkeep : keep e.1 <;> simp [tabGet, hkeep, hk, ih]

/-! ### A write and the bytes of a memory -/

/-- The cells of a write hold its bytes; one that equals the default has no cell, and an address without a cell reads the default. -/
theorem memGet_memCells (a : Nat) (bs : Bytes) (i : Nat) (h : i < bs.length) : memGet (memCells a bs) (a + i) = bs[i] := by
  induction bs generalizing a i with
  | nil => simp at h
  | cons b t ih =>
    cases i with
    | zero =>
      by_cases hb : b = memDefault
      · have habsent : ∀ c ∈ memCells (a + 1) t, c.1 ≠ a := fun c hc => by
          have := (memCells_bounds (a + 1) t c hc).1
          omega
        simpa [memCells, hb, memGet] using tabGet_of_absent memDefault _ a habsent
      · simp [memCells, hb, memGet, tabGet]
    | succ i =>
      have hi := ih (a + 1) i (by simpa using h)
      rw [show a + 1 + i = a + (i + 1) by omega] at hi
      by_cases hb : b = memDefault <;> simpa [memCells, hb, memGet, tabGet] using hi

/-- A lookup after a write: the old cells below it, then its own, then the old cells above it. -/
theorem memGet_memWrite (m : List Host.Cell) (a : Nat) (bs : Bytes) (x : Nat) :
    memGet (memWrite m a bs) x =
      if x < a then tabGet (tabGet (if a + bs.length ≤ x then memGet m x else memDefault) (memCells a bs) x) m x
      else tabGet (if a + bs.length ≤ x then memGet m x else memDefault) (memCells a bs) x := by
  have hbelow := fun d => tabGet_filter d m (fun k => decide (k < a)) x
  have habove := tabGet_filter memDefault m (fun k => decide (a + bs.length ≤ k)) x
  simp only [decide_eq_true_eq] at hbelow habove
  rw [memGet, memWrite, List.append_assoc, tabGet_append, tabGet_append, hbelow, habove, memGet]

theorem memGet_memWrite_inside (m : List Host.Cell) (a : Nat) (bs : Bytes) (i : Nat) (h : i < bs.length) :
    memGet (memWrite m a bs) (a + i) = bs[i] := by
  rw [memGet_memWrite, if_neg (by omega), if_neg (by omega)]
  exact memGet_memCells a bs i h

theorem memGet_memWrite_outside (m : List Host.Cell) (a : Nat) (bs : Bytes) (x : Nat) (h : x < a ∨ a + bs.length ≤ x) :
    memGet (memWrite m a bs) x = memGet m x := by
  have hcells : ∀ c ∈ memCells a bs, c.1 ≠ x := fun c hc => by
    have hb := memCells_bounds a bs c hc
    omega
  rw [memGet_memWrite, tabGet_of_absent _ _ x hcells]
  rcases h with hlt | hge
  · rw [if_pos hlt, if_neg (by omega), memGet]
  · rw [if_neg (by omega), if_pos hge]

/-- Reading back the addresses of a write gives its bytes. -/
theorem memRead_memWrite (m : List Host.Cell) (a : Nat) (bs : Bytes) : memRead (memWrite m a bs) a bs.length = bs := by
  refine List.ext_getElem (by simp [memRead]) fun i _ hi => ?_
  simp [memRead, memGet_memWrite_inside m a bs i hi]

/-! ### A write of a port's slice -/

/-- The written slice; that a DRAM unit written whole holds good data again does not touch it. -/
theorem writeSlice_same (s : State) (p a : Nat) (bs : Bytes) : (s.writeSlice p a bs).slice p = memWrite (s.slice p) a bs := by
  have hmirror : (s.writeSlice p a bs).mirror = tabSet s.mirror p (memWrite (s.slice p) a bs) := by
    simp only [State.writeSlice]
    split <;> rfl
  rw [State.slice, hmirror, tabGet_tabSet_same]

/-- Settles O56: within the slice by the lookups after a write, for the other slices by `writeSlice_other`. -/
theorem mirrorReadAfterWrite : Obligations.MirrorReadAfterWrite := by
  unfold Obligations.MirrorReadAfterWrite
  intro s p a bs
  refine ⟨?written, ?outside, ?otherSlice, writeSlice_wf s p a bs⟩
  case written =>
    rw [writeSlice_same, memRead_memWrite]
  case outside =>
    intro x hx
    rw [writeSlice_same, memGet_memWrite_outside _ _ _ _ hx]
  case otherSlice =>
    intro q x hq
    rw [writeSlice_other s p q a bs hq]

end Sys2Proof.Machine
end

section
/-! SUPPORT. The stair link and the DEFER windows: notices, expiries and change reports (01 R22, 07 R226 to R231). -/

namespace Sys2Proof.Machine

/-! ### What the commands are while the module answers -/

theorem when_true (s : State) (c : Bool) (f : State → State) (h : c = true) : s.when c f = f s := by
  simp [State.when, h]

section
variable (s : State) (hs : s.alive = true)
include hs

theorem exec_gapOpenNotice_alive (h : HallId) : exec (.gapOpenNotice h) s = .next (s.noticeIn h).finish :=
  congrArg State.done (when_true s _ (·.noticeIn h) hs)

theorem exec_gapCloseNotice_alive (h : HallId) : exec (.gapCloseNotice h) s = .next (s.endIn h).finish :=
  congrArg State.done (when_true s _ (·.endIn h) hs)

theorem exec_deferWindowExpiry_alive (p : PortId) : exec (.deferWindowExpiry p) s = .next (s.deferExpiry p).finish :=
  congrArg State.done (when_true s _ (·.deferExpiry p) hs)

theorem exec_hallChangeReport_alive (h : HallId) : exec (.hallChangeReport h) s = .next (s.reportIn h).finish :=
  congrArg State.done (when_true s _ (·.reportIn h) hs)

end

/-! ### The oldest traffic of a hall's link (01 R22) -/

theorem noticeIn_opened (s : State) (h : Nat) (n : GapNote) (l : List StairIn) (hq : (s.hall h).inq = .opened n :: l) :
    s.noticeIn h = (s.modHall h (fun x => { x with inq := l })).gapOpenAt h n := by
  simp only [State.noticeIn, hq]

theorem endIn_closed (s : State) (h : Nat) (n : GapEnd) (l : List StairIn) (hq : (s.hall h).inq = .closed n :: l) :
    s.endIn h = (s.modHall h (fun x => { x with inq := l })).gapCloseAt h n := by
  simp only [State.endIn, hq]

theorem reportIn_change (s : State) (h : Nat) (n : HReport) (l : List StairOut) (hq : (s.hall h).outq = .change n :: l) :
    s.reportIn h = (((s.modHall h (fun x => { x with outq := l })).stairGood h).takeReport n).confOpen n := by
  simp only [State.reportIn, hq]

/-! ### The DEFER window that ends first (07 R230) -/

/-- The cycle after a DEFER window's deadline, with the window's change no longer bound. -/
def State.deferOver (s : State) (p : Nat) (b : Bound) (dl : Nat) : State :=
  (s.toHall (dl + 1)).modPort p (fun v => { v with bounds := v.bounds.erase b })

/-- A change that still applies is applied by force, and counted; any other is dropped. -/
theorem deferExpiry_first (s : State) (p : Nat) (b : Bound) (dl : Nat) (hw : firstDefer (s.port p).bounds = some (b, dl)) :
    s.deferExpiry p =
      if (s.deferOver p b dl).changeApplies p b.kind then
        ({ (s.deferOver p b dl).applyChange p b.kind false with
          lpForced := satAdd 16 (s.deferOver p b dl).lpForced 1 }).raise pgLp 3
      else (s.deferOver p b dl).dropChange p b.kind := by
  rw [State.deferExpiry, hw]
  rfl

/-- Settles O18, each clause by the lemma on its notice, window or report. -/
theorem scheduledChangesRun : Obligations.ScheduledChangesRun := by
  unfold Obligations.ScheduledChangesRun
  refine ⟨?opened, ?closed, ?forced, ?dropped, ?reported⟩
  case opened =>
    intro s h n l hs hq
    rw [exec_gapOpenNotice_alive s hs, noticeIn_opened s h n l hq]
  case closed =>
    intro s h n l hs hq
    rw [exec_gapCloseNotice_alive s hs, endIn_closed s h n l hq]
  case forced =>
    intro s p b dl t hs hw ht ha
    obtain rfl : t = s.deferOver p b dl := ht
    rw [exec_deferWindowExpiry_alive s hs, deferExpiry_first s p b dl hw, if_pos ha]
  case dropped =>
    intro s p b dl t hs hw ht ha
    obtain rfl : t = s.deferOver p b dl := ht
    rw [exec_deferWindowExpiry_alive s hs, deferExpiry_first s p b dl hw, if_neg (Bool.eq_false_iff.mp ha)]
  case reported =>
    intro s h n l hs hq
    rw [exec_hallChangeReport_alive s hs, reportIn_change s h n l hq]

end Sys2Proof.Machine
end

section
/-! SUPPORT. The module after reset: quiet pages ask nothing of the collectors (13 R382). -/

namespace Sys2Proof.Machine

/-! ### What quiet children need -/

@[simp] theorem bitIf_false (n : Nat) : bitIf false n = 0 := rfl

theorem orBits_bitIf_false {α : Type} (l : List α) (c : α → Bool) (n : α → Nat) (h : ∀ x ∈ l, c x = false) :
    orBits (l.map (fun x => bitIf (c x) (n x))) = 0 := by
  induction l with
  | nil => rfl
  | cons x t ih =>
    rw [List.forall_mem_cons] at h
    rw [List.map_cons, h.1, bitIf_false]
    exact ih h.2

section
variable (hs : Tab Hdr) (hq : ∀ page, hdrLive hs page = false)
include hq

theorem galNeed_quiet (pe : Tab (BitVec 8)) (g : Nat) (hpe : ∀ e ∈ pe, e.2 = 0) : galNeed hs pe g = 0 := by
  have hport : ∀ e ∈ pe.filter (fun e => e.1 / 64 == g), ∀ mask, e.2 &&& mask = 0 := fun e he mask => by
    rw [hpe e (List.mem_filter.mp he).1]
    exact BitVec.zero_and
  rw [galNeed, orBits_bitIf_false _ _ _ fun e he => decide_eq_false (Decidable.not_not.mpr (hport e he _))]
  simp only [hq, bitIf_false]
  rfl

theorem hcolNeed_quiet (gal : Tab (BitVec 32)) (h : Nat) (hg : ∀ g, tabGet 0 gal g = 0) : hcolNeed hs gal h = 0 := by
  rw [hcolNeed, orBits_bitIf_false _ _ _ fun n _ => decide_eq_false (Decidable.not_not.mpr (hg (4 * h + n)))]
  simp only [hq, bitIf_false]
  rfl

theorem loftNeed_quiet : loftNeed hs = 0 := by
  have hencoders : (List.range 16).any (fun n => hdrLive hs (0xC1 + n)) = false := by simp [hq]
  rw [loftNeed, hencoders, orBits_bitIf_false _ _ _ fun k _ => hq (0x12 + k), orBits_bitIf_false _ _ _ fun e _ => hq (0x17 + e)]
  simp only [hq, bitIf_false]
  rfl

theorem hostNeed_quiet : hostNeed hs = 0 := by
  rw [hostNeed, orBits_bitIf_false _ _ _ fun x _ => hq (0xE1 + x)]
  simp only [hq, bitIf_false]
  rfl

theorem rootNeed_quiet (hcol : Tab (BitVec 32)) (hh : ∀ h, tabGet 0 hcol h = 0) : rootNeed hs hcol 0 0 = 0 := by
  rw [rootNeed, orBits_bitIf_false _ _ _ fun h _ => decide_eq_false (Decidable.not_not.mpr (hh h))]
  simp only [hq]
  rfl

end

theorem covers_zero (w : BitVec 32) : Covers w 0 := BitVec.zero_or

/-- Where no page has a live flag, no port an error and no collector a bit, the collectors cover their children. -/
theorem collected_of_quiet (s : State) (hq : ∀ page, hdrLive s.hdrs page = false) (hpe : ∀ e ∈ s.portErr, e.2 = 0)
    (hg : ∀ g, tabGet 0 s.root.gal g = 0) (hh : ∀ h, tabGet 0 s.root.hcol h = 0) (hl : s.root.loftCol = 0) (hx : s.root.hostCol = 0) :
    s.Collected where
  gallery g _ := by
    rw [galNeed_quiet s.hdrs hq s.portErr g hpe]
    exact covers_zero _
  hall h _ := by
    rw [hcolNeed_quiet s.hdrs hq s.root.gal h hg]
    exact covers_zero _
  loft := by
    rw [loftNeed_quiet s.hdrs hq]
    exact covers_zero _
  host := by
    rw [hostNeed_quiet s.hdrs hq]
    exact covers_zero _
  root := by
    rw [hl, hx, rootNeed_quiet s.hdrs hq s.root.hcol hh]
    exact covers_zero _

/-! ### The state after reset (01 R41, R42, 13 R381, R385) -/

@[simp] theorem reset_port (p : Nat) : State.reset.port p = {} := rfl

@[simp] theorem reset_hdr (page : Nat) : State.reset.hdr page = {} := rfl

@[simp] theorem reset_perr (p : Nat) : State.reset.perr p = 0 := rfl

@[simp] theorem reset_root : State.reset.root = {} := rfl

/-- A page whose header is at its reset value has no live flag. -/
theorem hdrLive_of_reset (hs : Tab Hdr) (page : Nat) (h : tabGet {} hs page = ({} : Hdr)) : hdrLive hs page = false := by
  rw [hdrLive, h]
  rfl

theorem reset_collected : State.reset.Collected :=
  collected_of_quiet State.reset (fun page => hdrLive_of_reset _ page rfl) (List.forall_mem_nil _) (fun _ => rfl) (fun _ => rfl) rfl rfl

/-- Settles O48: the words from the reset values, the collectors because every child is quiet. -/
theorem resetState : Obligations.ResetState := by
  unfold Obligations.ResetState
  refine ⟨rfl, ?ports, ?headers, fun p _ => reset_perr p, ?stat, ?history, rfl, reset_collected⟩
  case ports =>
    intro p _
    rw [reset_port]
  case headers =>
    intro page _
    rw [reset_hdr]
    exact ⟨rfl, rfl⟩
  case stat => rw [reset_root]
  case history => rw [reset_root]

end Sys2Proof.Machine
end

section
/-! SUPPORT. A sequenced frame as its port receives it: accepted, not heard, or met by an injected CRC error (02 R51, R59, R83, 13 R407). -/

namespace Sys2Proof.Machine

/-- The link of a port is up only while it is trained. -/
theorem trained_of_linkUp (s : State) (p : Nat) (h : s.linkUp p = true) : s.trained p = true :=
  (Bool.and_eq_true_iff.mp h).1

/-- A heard frame is accepted and acts, and the command ends there. -/
theorem rxSeq_done_heard (s : State) (p : Nat) (v : Vc) (n : Nat) (act : State → State) (h : s.hears p) :
    (s.rxSeq p v n act).done = .next (act (s.accept p v n)).finish :=
  congrArg State.done (rxSeq_heard s p v n act h)

theorem rxSeq_notUp (s : State) (p : Nat) (v : Vc) (n : Nat) (act : State → State) (h : s.linkUp p = false) :
    s.rxSeq p v n act = s :=
  if_neg (by simp [h])

/-- An armed injection on the receive CRC makes the check of a frame in time fail, and disarms (13 R407). -/
theorem rx_injected (s : State) (p : Nat) (act : State → State) (ht : s.trained p = true)
    (hlate : (s.port p).link.lateBy s.hnow = false) (hi : s.injection (pgLs (galOf p)) 0 (some p) ≠ 0) :
    s.rx p act = (s.disarm (pgLs (galOf p))).crcError p := by
  simp [State.rx, overdue_none s p hlate, ht, hi]

theorem rxSeq_injected (s : State) (p : Nat) (v : Vc) (n : Nat) (act : State → State) (hup : s.linkUp p = true)
    (hlate : (s.port p).link.lateBy s.hnow = false) (hi : s.injection (pgLs (galOf p)) 0 (some p) ≠ 0) :
    s.rxSeq p v n act = (s.disarm (pgLs (galOf p))).crcError p :=
  (if_pos hup).trans (rx_injected s p _ (trained_of_linkUp s p hup) hlate hi)

/-- Settles O58: every sequenced frame is received the one way, whatever its channel and its effect. -/
theorem unheardFramesIgnored : Obligations.UnheardFramesIgnored := by
  unfold Obligations.UnheardFramesIgnored
  refine ⟨?notUp, ?injected⟩
  case notUp =>
    intro s p cs op id addr oc mode res st n c b e ls h
    have hsame : ∀ v k act, (s.rxSeq p v k act).done = .next s.finish := fun v k act =>
      congrArg State.done (rxSeq_notUp s p v k act h)
    exact ⟨hsame .vc0 1 _, hsame .vc0 1 _, hsame .vc1 1 _, hsame .vc1 1 _, hsame .vc2 0 _, hsame .vc2 0 _, hsame .vc3 1 _,
      hsame .vc3 1 _, hsame .vc3 1 _, hsame .vc3 1 _, hsame .vc3 1 _, hsame .vc4 0 _, hsame .vc4 1 _⟩
  case injected =>
    intro s p ls hup hlate hi
    exact congrArg State.done (rxSeq_injected s p _ _ _ hup hlate hi)

end Sys2Proof.Machine
end

section
/-! SUPPORT. The link layer (02): training, loss, delivery and pairing, each operation where its premises hold. A command
of this layer is one operation on the state, and then the end of every command: `congrArg State.done` of the operation's lemma. -/

namespace Sys2Proof.Machine

/-! ### Training (02 R48, R63) -/

theorem detectTap_absent (s : State) (p : Nat) (ha : s.alive = true) (hst : (s.port p).st = .absent)
    (hph : (s.port p).link.phase = .off) (hidle : (s.port p).link.idleEnd = none) (hdom : s.domOn p = true)
    (hdep : (s.port p).rls.departed = false) :
    s.detectTap p = (s.setSt p .linking).modLink p (fun l => { l with
      phase := .detected, trainWin := some (mkWin s.hnow trainCycles), lastComma := s.hnow }) :=
  if_pos (by simp [ha, hst, hph, hidle, hdom, hdep])

theorem lockSymbols_training (s : State) (p : Nat) (h : s.training p = true) :
    s.lockSymbols p = s.modLink p (fun l => { l with phase := .ts1, lastComma := s.hnow }) :=
  if_pos h

theorem seenTs_training (s : State) (p : Nat) (h : s.training p = true) (hph : (s.port p).link.phase = .ts1) :
    s.seenTs p = s.modLink p (fun l => { l with phase := .ts2, lastComma := s.hnow }) :=
  if_pos (by simp [h, hph])

theorem linkIsTrained_linking (s : State) (p : Nat) (h : s.training p = true) (hst : (s.port p).st = .linking) :
    s.linkIsTrained p = ((s.setSt p .pairing).modLink p (fun l => { l with
      phase := .trained, trainWin := none, pair := .hello, lastComma := s.hnow })).sendLc p 1 (1 :: le 2 p) := by
  rw [State.linkIsTrained, if_pos h, when_true s _ _ (by simp [hst])]

theorem trainExpiry_open (s : State) (p : Nat) (w : Window) (ha : s.alive = true) (hm : (s.port p).mayTrain = true)
    (hw : (s.port p).link.trainWin = some w) :
    s.trainExpiry p = (s.toHall (w.dl + 1)).modLink p (fun l => { l with
      trainWin := none, phase := .detected, trainFail := satAdd 16 l.trainFail 1,
      retryEnd := some ((s.toHall (w.dl + 1)).hnow + idleCycles) }) := by
  rw [State.trainExpiry, hw]
  exact if_pos (by simp [ha, hm])

theorem trainRetry_armed (s : State) (p e : Nat) (ha : s.alive = true) (hm : (s.port p).mayTrain = true)
    (he : (s.port p).link.retryEnd = some e) :
    s.trainRetry p = (s.toHall e).modLink p (fun l => { l with
      retryEnd := none, trainWin := some (mkWin (s.toHall e).hnow trainCycles) }) := by
  rw [State.trainRetry, he]
  exact if_pos (by simp [ha, hm])

/-- Settles O1, each clause by the lemma on its step of training. -/
theorem linkTrainingRuns : Obligations.LinkTrainingRuns := by
  unfold Obligations.LinkTrainingRuns
  refine ⟨?detected, ?locked, ?seen, ?trained, ?expired, ?retried⟩
  case detected =>
    intro s p ha hst hph hidle hdom hdep
    exact congrArg State.done (detectTap_absent s p ha hst hph hidle hdom hdep)
  case locked =>
    intro s p h
    exact congrArg State.done (lockSymbols_training s p h)
  case seen =>
    intro s p h hph
    exact congrArg State.done (seenTs_training s p h hph)
  case trained =>
    intro s p h hst
    exact congrArg State.done (linkIsTrained_linking s p h hst)
  case expired =>
    intro s p w ha hm hw
    exact congrArg State.done (trainExpiry_open s p w ha hm hw)
  case retried =>
    intro s p e ha hm he
    exact congrArg State.done (trainRetry_armed s p e ha hm he)

/-! ### Loss of synchronisation and credits that are late (02 R48, R57, R83) -/

theorem loseSync_symbolErrors (s : State) (p : Nat) (h : s.trained p = true) :
    s.loseSync p .symbolErrors = (s.modLink p (fun l => { l with los := satAdd 16 l.los 1 })).linkDown p true :=
  if_pos h

theorem idleEnds_armed (s : State) (p e : Nat) (he : (s.port p).link.idleEnd = some e) :
    s.idleEnds p = (s.toHall e).modLink p (fun l => { l with idleEnd := none }) := by
  simp only [State.idleEnds, he]

/-- A credit window that is not the sixteenth in a row is followed by the next (02 R57). -/
theorem creditExpiry_again (s : State) (p : Nat) (v : Vc) (x : Window × Nat) (hup : s.linkUp p = true)
    (hx : tabFind (s.port p).link.stalls (vcNum v) = some x) (hn : ¬ x.2 + 1 ≥ 16) :
    s.creditExpiry p v = ((s.toHall (x.1.dl + 1)).modLink p (fun l => { l with
      credLate := satAdd 16 l.credLate 1 })).modLink p (fun l => { l with
      stalls := tabSet l.stalls (vcNum v) (mkWin (x.1.dl + 1) 16000, x.2 + 1) }) := by
  rw [State.creditExpiry, hx]
  exact (if_pos hup).trans (if_neg hn)

/-- Settles O2: the loss, the two timers, and LINK_DOWN as a frame that nothing comes before. -/
theorem linkLossRuns : Obligations.LinkLossRuns := by
  unfold Obligations.LinkLossRuns
  refine ⟨?lost, ?idle, ?late, ?down⟩
  case lost =>
    intro s p h
    exact congrArg State.done (loseSync_symbolErrors s p h)
  case idle =>
    intro s p e he
    exact congrArg State.done (idleEnds_armed s p e he)
  case late =>
    intro s p v x hup hx hn
    exact congrArg State.done (creditExpiry_again s p v x hup hx hn)
  case down =>
    intro s p h hc
    exact congrArg State.done ((rx_clean s p _ hc).trans (when_true s _ _ h))

/-! ### Delivery: errors, acknowledgements, replay, credits (02 R51, R55 to R62) -/

theorem replayExpiry_open (s : State) (p : Nat) (w : Window) (hup : s.linkUp p = true) (hr : (s.port p).link.replay ≠ [])
    (hw : (s.port p).link.replayWin = some w) : s.replayExpiry p = (s.toHall (w.dl + 1)).replay p := by
  rw [State.replayExpiry, hw]
  exact if_pos (by simp [hup, hr])

theorem nakTimer_armed (s : State) (p e : Nat) (hup : s.linkUp p = true) (he : (s.port p).link.nakEnd = some e) :
    s.nakTimer p = (s.toHall e).sendNak p := by
  rw [State.nakTimer, he]
  exact if_pos hup

theorem nakOnce_none (s : State) (p : Nat) (h : (s.port p).link.nakEnd = none) : s.nakOnce p = s.sendNak p :=
  if_neg (by simp [h])

theorem crcError_trained (s : State) (p : Nat) (ht : s.trained p = true) (hn : (s.port p).link.nakEnd = none) :
    s.crcError p = (s.modLink p (fun l => { l with crcErr := satAdd 16 l.crcErr 1 })).sendNak p := by
  rw [State.crcError, if_pos ht]
  exact nakOnce_none _ p (by simp [hn])

theorem exec_frameCrcError (s : State) (p : PortId) (raw : Bytes) (hraw : rxCheck raw = .crcError) :
    exec (.frameCrcError ⟨p, raw⟩) s = .next ((s.overdue p).crcError p).finish := by
  change execFrameCrcError ⟨p, raw⟩ s = _
  simp only [execFrameCrcError, hraw, done_next]

theorem exec_frameProtocolError (s : State) (p : PortId) (raw : Bytes) (h : Header) (hraw : rxCheck raw = .protocolError h) :
    exec (.frameProtocolError p raw) s = .next (s.rx p (fun t => t.protoError p h)).finish := by
  change execFrameProtocolError p raw s = _
  simp only [execFrameProtocolError, hraw, done_next]

/-- The protocol error is counted and raised; on a link that is up its frame is then accepted by its sequence number. -/
theorem protoError_up (s : State) (p : Nat) (h : Header) (v : Vc) (hup : s.linkUp p = true) (hv : vcOf h.vc = some v)
    (hseq : h.seq = (s.port p).link.rxExp) :
    s.protoError p h =
      ((s.modLink p (fun l => { l with protoErr := satAdd 16 l.protoErr 1 })).raisePort p 3).accept p v (buffersOf h v) := by
  rw [State.protoError, if_pos (trained_of_linkUp s p hup)]
  simp only [hup, hv, hseq, if_true]

theorem protoError_notUp (s : State) (p : Nat) (h : Header) (ht : s.trained p = true) (hup : (s.port p).link.up = false) :
    s.protoError p h = (s.modLink p (fun l => { l with protoErr := satAdd 16 l.protoErr 1 })).raisePort p 3 := by
  have hdown : ¬ s.linkUp p = true := by simp [State.linkUp, hup]
  rw [State.protoError, if_pos ht]
  exact if_neg hdown

/-- A frame at most 128 behind the expected one was accepted before: it is acknowledged again (02 R59). -/
theorem outOfSeq_repeated (s : State) (p : Nat) (q : BitVec 8) (hup : s.linkUp p = true)
    (hne : (s.port p).link.rxExp - q ≠ 0#8) (hle : ((s.port p).link.rxExp - q).toNat ≤ 128) :
    s.outOfSeq p q = s.sendAck p .vc0 0 :=
  (if_pos hup).trans ((if_neg hne).trans (if_pos hle))

theorem takeAck_credits (s : State) (p : Nat) (v : Vc) (n : Nat) (hup : s.linkUp p = true) :
    s.takeAck p none false v n =
      (s.modLink p (fun l => { l.addCredits (creditSet {} v n) with lastComma := s.hnow })).pump p :=
  if_pos hup

theorem creditsBack_up (s : State) (p : Nat) (c : Credits) (hup : s.linkUp p = true) :
    s.creditsBack p c = (s.modLink p (fun l => { l.addCredits c with lastComma := s.hnow })).pump p :=
  if_pos hup

/-- Settles O3: the two timers by their lemmas, every frame by what it does once nothing comes before it. -/
theorem sequencedDeliveryRuns : Obligations.SequencedDeliveryRuns := by
  unfold Obligations.SequencedDeliveryRuns
  refine ⟨?replay, ?nak, ?crc, ?protoUp, ?protoNotUp, ?repeated, ?ack, ?credit⟩
  case replay =>
    intro s p w hup hr hw
    exact congrArg State.done (replayExpiry_open s p w hup hr hw)
  case nak =>
    intro s p e hup he
    exact congrArg State.done (nakTimer_armed s p e hup he)
  case crc =>
    intro s p raw hraw hlate ht hn
    rw [exec_frameCrcError s p raw hraw, overdue_none s p hlate, crcError_trained s p ht hn]
  case protoUp =>
    intro s p raw h v hh hraw hv hseq
    rw [exec_frameProtocolError s p raw h hraw, rx_heard s p _ hh, protoError_up s p h v hh.1 hv hseq]
  case protoNotUp =>
    intro s p raw h ht hup hc hraw
    rw [exec_frameProtocolError s p raw h hraw, rx_clean s p _ hc, protoError_notUp s p h ht hup]
  case repeated =>
    intro s p q hh hne hle
    exact congrArg State.done ((rx_heard s p _ hh).trans (outOfSeq_repeated s p q hh.1 hne hle))
  case ack =>
    intro s p v n hh
    exact congrArg State.done ((rx_heard s p _ hh).trans (takeAck_credits s p v n hh.1))
  case credit =>
    intro s p c hh
    exact congrArg State.done ((rx_heard s p _ hh).trans (creditsBack_up s p c hh.1))

/-! ### Pairing (02 R64 to R66) -/

theorem takeHello_version1 (s : State) (p : Nat) (h : TapHello) (ht : s.trained p = true)
    (hp : (s.port p).link.pair = .hello) (hv : h.version = 1) :
    s.takeHello p h = (s.modLink p (fun l => { l with
      tapId := h.tapId, caps := h.caps, platform := h.platform, fallback := h.fallback, wait := h.wait,
      holdLock := h.platform.getLsbD 4, lastComma := s.hnow })).challenge p := by
  rw [State.takeHello, if_pos (by simp [ht, hp])]
  exact if_pos hv

theorem takePairResp_match (s : State) (p : Nat) (rt ct k : Bytes) (pend : Bool) (ht : s.trained p = true)
    (hp : (s.port p).link.pair = .resp) (hw : s.pairWinOpen p = true) (hm : (s.port p).matchRt p rt = some (k, pend)) :
    s.takePairResp p rt ct =
      ((s.sendLc p 4 (pairRm k ct (s.port p).link.cm p (b2n (s.port p).enr.fallback) (s.port p).enr.wait ++
        le 1 (b2n (s.port p).enr.fallback) ++ le 1 (s.port p).enr.wait)).modLink p (fun l => { l with
        pair := .done, pairWin := some (mkWin s.hnow idleCycles), newMatch := pend, lastComma := s.hnow })).when pend
        (fun t => t.askPromote p) := by
  rw [State.takePairResp, if_pos (by simp [ht, hp, hw]), hm]

theorem takePairDone_open (s : State) (p : Nat) (ht : s.trained p = true) (hp : (s.port p).link.pair = .done)
    (hw : s.pairWinOpen p = true) :
    s.takePairDone p = (s.modLink p (fun l => { l with
      pair := .creditInit, pairWin := none, fbStored := (s.port p).enr.fallback,
      waitStored := BitVec.ofNat 8 (s.port p).enr.wait, lastComma := s.hnow })).sendLc p 6 [8, 8, 0, 8, 2] :=
  if_pos (by simp [ht, hp, hw])

theorem takePairFail_resp (s : State) (p : Nat) (reason : Byte) (ht : s.trained p = true)
    (hp : (s.port p).link.pair = .resp) : s.takePairFail p reason = s.pairFailed p reason.toNat false :=
  if_pos (by simp [ht, hp])

theorem pairExpiry_open (s : State) (p : Nat) (w : Window) (ht : s.trained p = true)
    (hw : (s.port p).link.pairWin = some w) : s.pairExpiry p = (s.toHall (w.dl + 1)).pairFailed p 4 true := by
  rw [State.pairExpiry, hw]
  exact if_pos ht

/-- Settles O4: every frame of pairing acts at once where nothing comes before it, and the window by its own lemma. -/
theorem pairingRuns : Obligations.PairingRuns := by
  unfold Obligations.PairingRuns
  refine ⟨?hello, ?resp, ?done, ?creditInit, ?fail, ?expired⟩
  case hello =>
    intro s p h ht hp hv hc
    exact congrArg State.done ((rx_clean s p _ hc).trans (takeHello_version1 s p h ht hp hv))
  case resp =>
    intro s p rt ct k pend ht hp hw hm hc
    exact congrArg State.done ((rx_clean s p _ hc).trans (takePairResp_match s p rt ct k pend ht hp hw hm))
  case done =>
    intro s p ht hp hw hc
    exact congrArg State.done ((rx_clean s p _ hc).trans (takePairDone_open s p ht hp hw))
  case creditInit =>
    intro s p c ht hp hc
    exact congrArg State.done (rx_clean s p _ hc)
  case fail =>
    intro s p reason ht hp hc
    exact congrArg State.done ((rx_clean s p _ hc).trans (takePairFail_resp s p reason ht hp))
  case expired =>
    intro s p w ht hw
    exact congrArg State.done (pairExpiry_open s p w ht hw)

end Sys2Proof.Machine
end

section
/-! SUPPORT. Platform traffic and control of the link: reads, physical operations, attention and control (02 R56 to R77, 03 R110 to
R120). -/

namespace Sys2Proof.Machine

/-! ### Reads (03 R94, R110, R111) -/

/-- A stream's bank in a hall of good DRAM without an injected error is read as it stands. -/
theorem bankCheck_good (s : State) (p start : Nat) (hi : s.injection (pgMir (hallOf p)) 2 (some p) = 0)
    (hbad : (s.hall (hallOf p)).dramBad = []) (hweak : (s.hall (hallOf p)).dramWeak = []) : s.bankCheck p start = s := by
  simp [State.bankCheck, State.when, hi, hbad, hweak]

section
variable (s : State) (p : Nat) (cs : BitVec 16) (addr op mode : Nat) (hmode : listedMode op mode = true)
include hmode

/-- A listed mode counts no UNKNOWN command. -/
theorem readReq_listed :
    s.readReq p cs addr op mode =
      let t := (s.firstFrame p cs).endStream p
      if (t.port p).served && (t.hall (hallOf p)).serveEn then
        ((t.modMir p (fun m => { m with stream := some {
          cs := cs, next := addr, start := addr, bank := m.active, allFF := false } })).bankCheck p addr).pump p
      else t.enqueue p { vc := some .vc0, type := 3, tag := cs, payload := [0] } := by
  rw [State.readReq, hmode]
  rfl

theorem readReq_notServed (hs : (((s.firstFrame p cs).endStream p).port p).served = false) :
    s.readReq p cs addr op mode =
      ((s.firstFrame p cs).endStream p).enqueue p { vc := some .vc0, type := 3, tag := cs, payload := [0] } := by
  rw [readReq_listed s p cs addr op mode hmode]
  exact if_neg (by simp [hs])

theorem readReq_served (t : State) (ht : t = (s.firstFrame p cs).endStream p) (hs : (t.port p).served = true)
    (hen : (t.hall (hallOf p)).serveEn = true) (hi : t.injection (pgMir (hallOf p)) 2 (some p) = 0)
    (hbad : (t.hall (hallOf p)).dramBad = []) (hweak : (t.hall (hallOf p)).dramWeak = []) :
    s.readReq p cs addr op mode = (t.modMir p (fun m => { m with stream := some {
      cs := cs, next := addr, start := addr, bank := m.active, allFF := false } })).pump p := by
  subst ht
  rw [readReq_listed s p cs addr op mode hmode]
  refine (if_pos (by simp [hs, hen])).trans ?_
  rw [bankCheck_good _ p addr (by simpa using hi) (by simpa using hbad) (by simpa using hweak)]

end

/-! ### Physical operations and refills (02 R77, 03 R120) -/

/-- The last operation of a job that reports OK with all its bytes ends the job. -/
theorem flDone_last (s : State) (p : Nat) (op : BitVec 16) (j : VcJob) (hj : (s.port p).jobOf op = some j)
    (hlen : j.got.length = j.req.inCnt) (htodo : j.todo = []) : s.flDone p op 0 = s.jobRead p j := by
  simp [State.flDone, hj, hlen, htodo]

theorem refillStart_held (s : State) (p i : Nat) (hfl : s.flAllowed p = true) (hst : (s.port p).st = .held)
    (hrb : (s.port p).ring.readbackPending = false) (hjobs : (s.port p).ring.jobs = [])
    (hi : (s.port p).mir.refill.find? (fun i =>
      !(s.port p).ring.entries.any (fun e => e.state == .committing && e.overlaps (i * 4096) 4096)) = some i) :
    s.refillStart p = s.startJob p (.refill i) (readReqs (s.port p) (i * 4096) 4096) := by
  rw [State.refillStart, if_pos (by simp [hfl, hst, hrb, hjobs]), hi]

/-- Settles O5: an accepted frame acts by the lemma on its read or operation, and the refill by its own. -/
theorem readTrafficRuns : Obligations.ReadTrafficRuns := by
  unfold Obligations.ReadTrafficRuns
  refine ⟨?notServed, ?served, ?stop, ?dataIn, ?done, ?refill⟩
  case notServed =>
    rintro s p cs addr op mode t hh rfl hs hmode
    exact congrArg State.done ((rxSeq_heard s p _ _ _ hh).trans (readReq_notServed _ p cs _ _ _ hmode hs))
  case served =>
    intro s p cs addr op mode t hh ht hs hen hmode hi hbad hweak
    exact congrArg State.done
      ((rxSeq_heard s p _ _ _ hh).trans (readReq_served _ p cs _ _ _ hmode t ht hs hen hi hbad hweak))
  case stop =>
    intro s p cs bytes hh
    exact rxSeq_done_heard s p _ _ _ hh
  case dataIn =>
    intro s p op data hh
    exact rxSeq_done_heard s p _ _ _ hh
  case done =>
    intro s p op result status busyUs j hh hj hres hlen htodo
    have hdone : (s.accept p .vc2 0).flDone p op result.toNat = (s.accept p .vc2 0).jobRead p j := by
      rw [hres, flDone_last _ p op j hj hlen htodo]
    exact congrArg State.done ((rxSeq_heard s p _ _ _ hh).trans hdone)
  case refill =>
    intro s p i ha hfl hst hrb hjobs hi
    exact congrArg State.done ((when_true s _ _ ha).trans (refillStart_held s p i hfl hst hrb hjobs hi))

/-! ### Attention and control (02 R56, R69, R71, R86, 03 R119) -/

theorem attnClear_armed (s : State) (p e : Nat) (hup : s.linkUp p = true) (he : (s.port p).link.attnClr = some e) :
    s.attnClear p = (((s.toHall e).modLink p (fun l => { l with
      attnClr := none, attnLow := false })).enqueue p { vc := some .vc3, type := 0x0A }).statusShadow4 p := by
  rw [State.attnClear, he]
  exact if_pos hup

theorem attnExpiry_open (s : State) (p : Nat) (a : Attn) (w : Window) (q : Bool)
    (hf : (s.port p).link.attns.find? (fun a => a.win.isSome && a.react.isSome) = some a) (hw : a.win = some w)
    (hq : a.react = some q) :
    s.attnExpiry p = ((s.toHall (w.dl + 1)).modLink p (fun l => { l with
      attns := l.attns.map (fun x => if x.id == a.id then { x with
        win := none, react := none } else x) })).uncReaction p q a.time := by
  simp only [State.attnExpiry, hf, hw, hq, Option.getD_some]

/-- Settles O7: a frame is accepted and then acts by its definition, the two timers by their lemmas. -/
theorem attentionControlRuns : Obligations.AttentionControlRuns := by
  unfold Obligations.AttentionControlRuns
  refine ⟨?attnDone, ?clear, ?expired, ?underrun, ?decodeErr, ?sbDrop, ?ctrlAck, ?lines⟩
  case attnDone =>
    intro s p id hh
    exact rxSeq_done_heard s p _ _ _ hh
  case clear =>
    intro s p e hup he
    exact congrArg State.done (attnClear_armed s p e hup he)
  case expired =>
    intro s p a w q ha hf hw hq
    exact congrArg State.done ((when_true s _ _ ha).trans (attnExpiry_open s p a w q hf hw hq))
  case underrun | decodeErr | sbDrop =>
    intro s p cs hh
    exact rxSeq_done_heard s p _ _ _ hh
  case ctrlAck =>
    intro s p id lines hh
    exact rxSeq_done_heard s p _ _ _ hh
  case lines =>
    intro s p v hh
    exact rxSeq_done_heard s p _ _ _ hh

end Sys2Proof.Machine
end

section
/-! SUPPORT. Serving reads (03): what a platform command does by its class, and the policy index of a hall. -/

namespace Sys2Proof.Machine

/-! ### Platform commands (03 R94, R95, 04 R127) -/

theorem cmdWrites_of_cls (c : WrCmd) (h6 : c.cls ≠ 6) (h7 : c.cls ≠ 7) (h8 : c.cls ≠ 8) : cmdWrites c = false := by
  simp only [cmdWrites, beq_eq_false_iff_ne.mpr h6, beq_eq_false_iff_ne.mpr h7, beq_eq_false_iff_ne.mpr h8, Bool.or_self]

section
variable (s : State) (p : Nat) (c : WrCmd) (hk : cmdUnknown c = false)
include hk

/-- A known command counts no UNKNOWN command; what it does next is a matter of its class. -/
theorem takeWrCmd_known :
    s.takeWrCmd p c =
      let t := (s.firstFrame p c.cs).modMir p (fun m => { m with wr := none })
      if cmdWrites c then
        let w : WrPend := { cmd := c, bank := (t.port p).mir.active, arrival := s.hnow }
        if c.count = 0 then t.endWrite p w else t.modMir p (fun m => { m with wr := some w })
      else if c.cls = 4 then t.modMir p (fun m => { m with wel := true })
      else if c.cls = 5 then t.modMir p (fun m => { m with wel := false })
      else t.modMir p (fun m => { m with cmds := tabSet m.cmds c.cls.toNat (satAdd 32 (tabGet 0 m.cmds c.cls.toNat) 1) }) := by
  rw [State.takeWrCmd, hk]
  rfl

/-- A program or erase command whose data is still to come stays open. -/
theorem takeWrCmd_awaitsData (t : State) (ht : t = (s.firstFrame p c.cs).modMir p (fun m => { m with wr := none }))
    (hw : cmdWrites c = true) (hn : ¬ c.count = 0) :
    s.takeWrCmd p c = t.modMir p (fun m => { m with wr := some {
      cmd := c, bank := (t.port p).mir.active, arrival := s.hnow } }) := by
  subst ht
  rw [takeWrCmd_known s p c hk]
  exact (if_pos hw).trans (if_neg hn)

theorem takeWrCmd_writeEnable (hc : c.cls = 4) :
    s.takeWrCmd p c = ((s.firstFrame p c.cs).modMir p (fun m => { m with wr := none })).modMir p
      (fun m => { m with wel := true }) := by
  have hw : ¬ cmdWrites c = true := by simp [cmdWrites_of_cls c, hc]
  rw [takeWrCmd_known s p c hk]
  exact (if_neg hw).trans (if_pos hc)

/-- A class that is only logged adds to its count. -/
theorem takeWrCmd_logged (hw : cmdWrites c = false) (h4 : c.cls ≠ 4) (h5 : c.cls ≠ 5) :
    s.takeWrCmd p c = ((s.firstFrame p c.cs).modMir p (fun m => { m with wr := none })).modMir p (fun m => { m with
      cmds := tabSet m.cmds c.cls.toNat (satAdd 32 (tabGet 0 m.cmds c.cls.toNat) 1) }) := by
  rw [takeWrCmd_known s p c hk]
  exact (if_neg (by simp [hw])).trans ((if_neg h4).trans (if_neg h5))

end

/-- The data frame that brings the last byte of the open command ends it. -/
theorem takeWrData_complete (s : State) (p : Nat) (cs : BitVec 16) (data : Bytes) (t : State) (w : WrPend)
    (ht : t = s.csFrame p cs) (hw : (t.port p).mir.wr = some w) (hcs : w.cmd.cs = cs)
    (hlen : w.cmd.count ≤ w.data.length + data.length) :
    s.takeWrData p cs data = t.endWrite p { w with data := w.data ++ data } := by
  subst ht
  have hall : w.cmd.count ≤ (w.data ++ data).length := by rwa [List.length_append]
  simp only [State.takeWrData, hw]
  exact (if_pos hcs).trans (if_pos hall)

/-- Settles O6: an accepted command acts by the lemma on its class, its data by theirs, and the slot as it stands. -/
theorem platformCommandsRun : Obligations.PlatformCommandsRun := by
  unfold Obligations.PlatformCommandsRun
  refine ⟨?enable, ?opened, ?completed, ?resumed, ?logged⟩
  case enable =>
    intro s p c hh hk hc
    exact congrArg State.done ((rxSeq_heard s p _ _ _ hh).trans (takeWrCmd_writeEnable _ p c hk hc))
  case opened =>
    intro s p c t hh ht hk hw hn
    exact congrArg State.done ((rxSeq_heard s p _ _ _ hh).trans (takeWrCmd_awaitsData _ p c hk t ht hw hn))
  case completed =>
    intro s p cs data t w hh ht hw hcs hlen
    exact congrArg State.done ((rxSeq_heard s p _ _ _ hh).trans (takeWrData_complete _ p cs data t w ht hw hcs hlen))
  case resumed =>
    intro s p ha
    exact congrArg State.done (when_true s _ (·.resume p) ha)
  case logged =>
    intro s p c hh hk hc
    have hlog := takeWrCmd_logged (s.accept p .vc1 1) p c hk (cmdWrites_of_cls c (by simp [hc]) (by simp [hc]) (by simp [hc]))
      (by simp [hc]) (by simp [hc])
    rw [hc] at hlog
    exact congrArg State.done ((rxSeq_heard s p _ _ _ hh).trans hlog)

/-! ### The policy index (03 R104, R105, R115, R125) -/

theorem idxWrite_noWord (s : State) (h : Nat) (r : Requester) (hi : Bool) (v : Nat)
    (he : s.getSel (pgMir h) 0x058 r % 64 > 32) :
    s.idxWrite h r hi v = s.idxResult h 3 (s.getSel (pgMir h) 0x058 r % 64) :=
  if_pos he

/-- The low half of a word of a bank that is free: its masked value is stored, and the bank is no longer valid. -/
theorem idxWrite_low (s : State) (h : Nat) (r : Requester) (v p e : Nat) (b : Bool) (hp : p = s.selPort h (pgMir h) 0x048 r)
    (he : e = s.getSel (pgMir h) 0x058 r % 64) (hb : b = bit (s.getSel (pgMir h) 0x058 r) 8) (hle : e ≤ 32)
    (hfree : (s.port p).mir.bankBusy b = false) :
    s.idxWrite h r false v =
      (s.modMir p (fun x => x.setBank b {
        words := tabSet ((s.port p).mir.bank b).words e
          ((tabGet 0 ((s.port p).mir.bank b).words e / 2 ^ 32 * 2 ^ 32 + v) &&& bankMask e),
        valid := false })).idxResult h 0 0 := by
  subst hp he hb
  exact (if_neg (Nat.not_lt.mpr hle)).trans (if_neg (Bool.eq_false_iff.mp hfree))

/-- A bank that passes its checks becomes valid, and nothing is raised. -/
theorem idxValidate_pass (s : State) (h : Nat) (r : Requester) (b : Bool) (p : Nat) (c : Nat × Nat)
    (hp : p = s.selPort h (pgMir h) 0x048 r) (hc : c = validateBank ((s.port p).mir.bank b) (s.port p).mir.enrLen)
    (h0 : c.1 = 0) :
    s.idxValidate h r b = (s.modMir p (fun x => x.setBank b { x.bank b with valid := true })).idxResult h 0 c.2 := by
  subst hp hc
  simp only [State.idxValidate, h0]
  rfl

theorem idxArm_armed (s : State) (h : Nat) (r : Requester)
    (ha : (s.port (s.selPort h (pgMir h) 0x048 r)).mir.armed = true) : s.idxArm h r = s.idxResult h 5 0 :=
  if_pos ha

/-- A valid bank of a port without a tie is switched to at once. -/
theorem idxArm_untied (s : State) (h : Nat) (r : Requester) (p : Nat) (hp : p = s.selPort h (pgMir h) 0x048 r)
    (ha : (s.port p).mir.armed = false) (hv : ((s.port p).mir.bank (!(s.port p).mir.active)).valid = true)
    (ht : (s.port p).tie = none) :
    s.idxArm h r = ((s.modMir p (fun m => { m with armed := true })).idxResult h 0 0).policySwitch p := by
  subst hp
  simp [State.idxArm, ha, hv, ht]

theorem portCfgWrite_barred (s : State) (h : Nat) (r : Requester) (timing : Bool) (v p : Nat)
    (hp : p = s.selPort h (pgMir h) 0x048 r) (hst : cfgState (s.port p).st = false) :
    s.portCfgWrite h r timing v = s.idxResult h 7 0 := by
  subst hp
  exact if_pos (by simp [hst])

theorem portCfgWrite_length (s : State) (h : Nat) (r : Requester) (v p : Nat) (hp : p = s.selPort h (pgMir h) 0x048 r)
    (hst : cfgState (s.port p).st = true) (hv : bits v 10 0 ≤ 1024) :
    s.portCfgWrite h r false v = s.modMir p (fun m => { m with enrLen := bits v 10 0 }) := by
  subst hp
  simp [State.portCfgWrite, hst, hv]

/-- Settles O8: a write that reaches its register acts by the lemma on its operation of the index. -/
theorem policyIndexRuns : Obligations.PolicyIndexRuns := by
  unfold Obligations.PolicyIndexRuns
  refine ⟨?noWord, ?low, ?validate, ?armed, ?arm, ?disarm, ?length, ?barred⟩
  case noWord =>
    intro s h r hi v hr he
    exact congrArg State.done ((access17_reaches s _ _ r _ hr).trans (idxWrite_noWord s h r hi _ he))
  case low =>
    intro s h r v p e b hr hp he hb hle hfree
    exact congrArg State.done ((access17_reaches s _ _ r _ hr).trans (idxWrite_low s h r _ p e b hp he hb hle hfree))
  case validate =>
    intro s h r b p c hr hp hc h0
    exact congrArg State.done ((access17_reaches s _ _ r _ hr).trans (idxValidate_pass s h r b p c hp hc h0))
  case armed =>
    intro s h r hr ha
    exact congrArg State.done ((access17_reaches s _ _ r _ hr).trans (idxArm_armed s h r ha))
  case arm =>
    intro s h r p hr hp ha hv ht
    exact congrArg State.done ((access17_reaches s _ _ r _ hr).trans (idxArm_untied s h r p hp ha hv ht))
  case disarm =>
    rintro s h r p hr rfl
    exact congrArg State.done (access17_reaches s _ _ r (·.idxDisarm h r) hr)
  case length =>
    intro s h r v p hr hf hp hst hv
    exact congrArg State.done ((access17rw_reaches s _ _ _ r _ hr hf).trans (portCfgWrite_length s h r _ p hp hst hv))
  case barred =>
    intro s h r v p hr hf hp hst
    exact congrArg State.done ((access17rw_reaches s _ _ _ r _ hr hf).trans (portCfgWrite_barred s h r true _ p hp hst))

end Sys2Proof.Machine
end

section
/-! SUPPORT. What a policy switch leaves as it was: the entries of every ring, and all that lets a commit start (03 R108). -/

namespace Sys2Proof.Machine

/-! ### What a commit depends on (04 R140, R152) -/

/-- What commits depend on in a port: its accepted entries, its jobs, its service state, its link and its heal job. -/
structure PortCommits where
  entries  : List Entry
  jobs     : List VcJob
  st       : PortState
  switched : Bool
  up       : Bool
  heal     : Option Heal

def Port.commits (v : Port) : PortCommits :=
  ⟨v.ring.entries, v.ring.jobs, v.st, v.rls.switched, v.link.up, v.gln.heal⟩

/-- What the commits of a hall's ports depend on in the hall. -/
structure HallCommits where
  commitEn : Bool
  phase    : HallPhase
  laneEn   : Nat
  laneFail : Nat

def Hall.commits (h : Hall) : HallCommits :=
  ⟨h.commitEn, h.phase, h.laneEn, h.laneFail⟩

/-- The part of the state that the commits of one port depend on. -/
structure CommitView where
  alive : Bool
  mode  : ModState
  port  : PortCommits
  hall  : HallCommits

def State.commitView (s : State) (q : Nat) : CommitView :=
  ⟨s.alive, s.modState, (s.port q).commits, (s.hall (hallOf q)).commits⟩

theorem entries_of_commitView {s t : State} (h : t.commitView = s.commitView) (q : Nat) :
    (t.port q).ring.entries = (s.port q).ring.entries :=
  congrArg (fun view => (view q).port.entries) h

theorem commitReady_of_commitView {s t : State} (h : t.commitView = s.commitView) (q : Nat) :
    t.commitReady q = s.commitReady q := by
  have halive : t.alive = s.alive := congrArg (fun view => (view q).alive) h
  have hmode : t.modState = s.modState := congrArg (fun view => (view q).mode) h
  have hport : (t.port q).commits = (s.port q).commits := congrArg (fun view => (view q).port) h
  have hhall : (t.hall (hallOf q)).commits = (s.hall (hallOf q)).commits := congrArg (fun view => (view q).hall) h
  simp only [Port.commits, PortCommits.mk.injEq] at hport
  simp only [Hall.commits, HallCommits.mk.injEq] at hhall
  obtain ⟨hentries, hjobs, hst, hswitched, hup, hheal⟩ := hport
  obtain ⟨hcommitEn, hphase, hlaneEn, hlaneFail⟩ := hhall
  simp only [State.commitReady, State.flAllowed, State.laneFree, Port.commitState, Port.served, RingPort.readbackPending,
    RingPort.series, GlnPort.healing, halive, hmode, hentries, hjobs, hst, hswitched, hup, hheal, hcommitEn, hphase, hlaneEn,
    hlaneFail]

/-! ### The operations that keep it -/

theorem commitView_modPort (s : State) (p : Nat) (f : Port → Port) (h : (f (s.port p)).commits = (s.port p).commits) :
    (s.modPort p f).commitView = s.commitView := by
  have hport : ∀ q, ((s.modPort p f).port q).commits = (s.port q).commits := fun q => by
    by_cases hq : q = p
    · subst hq
      rw [State.modPort_port_same, h]
    · rw [State.modPort_port_other s p q f hq]
  funext q
  simp [State.commitView, hport]

theorem commitView_modHall (s : State) (k : Nat) (f : Hall → Hall) (h : (f (s.hall k)).commits = (s.hall k).commits) :
    (s.modHall k f).commitView = s.commitView := by
  have hhall : ∀ j, ((s.modHall k f).hall j).commits = (s.hall j).commits := fun j => by
    by_cases hj : j = k
    · subst hj
      rw [State.modHall_hall_same, h]
    · rw [State.modHall_hall_other s k j f hj]
  funext q
  simp [State.commitView, hhall]

@[simp] theorem commitView_modMir (s : State) (p : Nat) (f : MirPort → MirPort) : (s.modMir p f).commitView = s.commitView :=
  commitView_modPort s p _ rfl

theorem commitView_modLink (s : State) (p : Nat) (f : Link → Link) (h : (f (s.port p).link).up = (s.port p).link.up) :
    (s.modLink p f).commitView = s.commitView :=
  commitView_modPort s p _ (by simp only [Port.commits, h])

theorem commitView_modRls (s : State) (p : Nat) (f : RlsPort → RlsPort)
    (h : (f (s.port p).rls).switched = (s.port p).rls.switched) : (s.modRls p f).commitView = s.commitView :=
  commitView_modPort s p _ (by simp only [Port.commits, h])

theorem commitView_modRing_unc (s : State) (p : Nat) (f : RingPort → List (Nat × Bool)) :
    (s.modRing p (fun r => { r with unc := f r })).commitView = s.commitView :=
  commitView_modPort s p _ rfl

@[simp] theorem commitView_modHdr (s : State) (page : Nat) (f : Hdr → Hdr) : (s.modHdr page f).commitView = s.commitView := rfl

@[simp] theorem commitView_modRoot (s : State) (f : Root → Root) : (s.modRoot f).commitView = s.commitView := rfl

@[simp] theorem commitView_disarm (s : State) (page : Nat) : (s.disarm page).commitView = s.commitView := rfl

@[simp] theorem commitView_emit (s : State) (p : Nat) (f : Frame) : (s.emit p f).commitView = s.commitView := rfl

theorem commitView_when (s : State) (c : Bool) (f : State → State) (h : ∀ t, (f t).commitView = t.commitView) :
    (s.when c f).commitView = s.commitView := by
  cases c
  · rfl
  · exact h s

theorem commitView_each {α : Type} (l : List α) (f : α → State → State) (s : State)
    (h : ∀ x t, (f x t).commitView = t.commitView) : (each l f s).commitView = s.commitView := by
  induction l generalizing s with
  | nil => rfl
  | cons x l ih => exact (ih (f x s)).trans (h x s)

@[simp] theorem commitView_post (s : State) (e : Event) : (s.post e).commitView = s.commitView := by
  unfold State.post
  split
  · rfl
  · exact commitView_modRoot s _

@[simp] theorem commitView_raiseE (s : State) (e : Event) : (s.raiseE e).commitView = s.commitView := by
  rw [State.raiseE, commitView_post, commitView_modHdr]

/-! ### Frames and the read stream (02 R58, 03 R110, R118, R119) -/

@[simp] theorem commitView_sendSeq (s : State) (p : Nat) (v : Vc) (f : Frame) : (s.sendSeq p v f).commitView = s.commitView :=
  commitView_modLink _ p _ rfl

@[simp] theorem commitView_queueAttn (s : State) (p cause : Nat) (seqs : List Nat) (react : Option Bool) (time : Nat) :
    (s.queueAttn p cause seqs react time).commitView = s.commitView :=
  commitView_modLink s p _ rfl

@[simp] theorem commitView_drcUncorrectable (s : State) (h u area : Nat) (inj dry : Bool) :
    (s.drcUncorrectable h u area inj dry).commitView = s.commitView := by
  refine Eq.trans (commitView_when _ _ _ fun t => commitView_raiseE t _) ?_
  rw [commitView_raiseE]
  exact commitView_modHall s h _ rfl

/-- A corrected read is counted whether its event is posted or only its bit set. -/
@[simp] theorem commitView_drcCorrected (s : State) (h : Nat) (inj dry : Bool) :
    (s.drcCorrected h inj dry).commitView = s.commitView := by
  simp only [State.drcCorrected, apply_ite State.commitView, commitView_modHdr, commitView_raiseE, ite_self]
  exact commitView_modHall s h _ rfl

@[simp] theorem commitView_corrected (s : State) (h : Nat) (inj dry : Bool) :
    (s.corrected h inj dry).commitView = s.commitView := by
  rw [State.corrected, commitView_drcCorrected]
  exact commitView_modHall s h _ rfl

@[simp] theorem commitView_uncEvent (s : State) (p area off unit : Nat) (inj : Bool) :
    (s.uncEvent p area off unit inj).commitView = s.commitView := by
  simp only [State.uncEvent, apply_ite State.commitView, commitView_modRing_unc, commitView_drcUncorrectable,
    commitView_raiseE, commitView_modMir, ite_self]
  exact Eq.trans (commitView_modHall _ _ _ rfl) (commitView_queueAttn s p _ _ _ _)

@[simp] theorem commitView_logDenied (s : State) (p : Nat) (st : Stream) (deny : Option Nat) :
    (s.logDenied p st deny).1.commitView = s.commitView := by
  cases deny with
  | none => rfl
  | some tag =>
    rw [State.logDenied]
    split
    · rw [commitView_raiseE]
      exact commitView_modHall s _ _ rfl
    · rfl

/-- Whether or not a unit of the frame fails, the frame is sent and counted, and the units read before it are checked. -/
@[simp] theorem commitView_streamFrame (s : State) (p : Nat) (st : Stream) : (s.streamFrame p st).commitView = s.commitView := by
  simp only [State.streamFrame]
  split
  case' h_1 => rw [commitView_uncEvent]
  all_goals
    refine Eq.trans (commitView_modRls _ p _ rfl) ?_
    refine Eq.trans (commitView_modHall _ _ _ rfl) ?_
    rw [commitView_modMir, commitView_sendSeq, commitView_logDenied]
    refine Eq.trans (commitView_each _ _ _ fun _ t => commitView_corrected t _ _ _) ?_
    simp only [apply_ite State.commitView, commitView_corrected, commitView_disarm, ite_self]

/-- Each round sends a queued frame or the stream's next one, or ends. -/
@[simp] theorem commitView_pumpLoop (n p : Nat) (s : State) : (pumpLoop n p s).commitView = s.commitView := by
  induction n generalizing s with
  | zero => rfl
  | succ n ih =>
    simp only [pumpLoop]
    split
    · rfl
    split
    · rfl
    split
    · rw [ih, commitView_sendSeq]
      exact commitView_modLink s p _ rfl
    split
    · rw [ih, commitView_streamFrame]
    · rfl

@[simp] theorem commitView_pump (s : State) (p : Nat) : (s.pump p).commitView = s.commitView := by
  rw [State.pump]
  split
  · exact (commitView_modPort _ p _ rfl).trans (commitView_pumpLoop 64 p s)
  · rfl

@[simp] theorem commitView_enqueue (s : State) (p : Nat) (f : Frame) : (s.enqueue p f).commitView = s.commitView :=
  (commitView_pump _ p).trans (commitView_modLink s p _ rfl)

@[simp] theorem commitView_statusShadow4 (s : State) (p : Nat) : (s.statusShadow4 p).commitView = s.commitView :=
  (commitView_enqueue _ p _).trans (commitView_modPort s p _ rfl)

/-! ### The switch (03 R115, R116) -/

@[simp] theorem commitView_syncShadow4 (s : State) (p : Nat) : (s.syncShadow4 p).commitView = s.commitView :=
  commitView_when s _ _ fun t => commitView_statusShadow4 t p

@[simp] theorem commitView_report (s : State) (p : Nat) (old new : PortState) (sched : Bool) (cause evTime : Nat) :
    (s.report p old new sched cause evTime).commitView = s.commitView :=
  commitView_modHall s _ _ rfl

theorem commitView_policySwitch (s : State) (p : Nat) (sched : Bool) : (s.policySwitch p sched).commitView = s.commitView := by
  rw [State.policySwitch]
  split
  · rw [commitView_report, commitView_syncShadow4]
    exact commitView_modPort s p _ rfl
  · rfl

/-- Settles O52: a switch leaves all that commits depend on. -/
theorem policySwitchKeepsEntries : Obligations.PolicySwitchKeepsEntries := by
  unfold Obligations.PolicySwitchKeepsEntries
  intro s p q
  have hview := commitView_policySwitch s p true
  exact ⟨entries_of_commitView hview q, commitReady_of_commitView hview q⟩

end Sys2Proof.Machine
end

section
/-! SUPPORT. The write-hold rings (04): commits, read-back, the authorisation window, checkpoints, decisions and the RING
messages. -/

namespace Sys2Proof.Machine

/-! ### Commits (04 R140, R141, R155) -/

/-- A commit whose DRAM units are all good, without an injected error, reads its structures as they stand. -/
theorem bufferRead_good (s : State) (p : Nat) (e : Entry) (hi : s.injection (pgRng (hallOf p)) 0 (some p) = 0)
    (hbad : (s.hall (hallOf p)).dramBad = []) : s.bufferRead p e = s := by
  simp only [State.bufferRead, hi, hbad, List.filter_nil]
  rfl

/-- The entry at the head still stands there after its structures were read, so its commit starts. -/
theorem commitStart_good (s : State) (p : Nat) (e : Entry) (hhead : (s.port p).ring.head = some e)
    (hready : s.commitReady p = true) (hi : s.injection (pgRng (hallOf p)) 0 (some p) = 0)
    (hbad : (s.hall (hallOf p)).dramBad = []) (hroom : s.ledgerRoom = true) :
    s.commitStart p =
      ((s.intent p e).entryTo p e.seq .committing 0).startJob p (.commit e.seq)
        (commitReqs (((s.intent p e).entryTo p e.seq .committing 0).port p) e) := by
  simp only [State.commitStart, hhead]
  refine (if_neg (by simp [hready])).trans ((if_neg (by simp [hroom])).trans ?_)
  rw [bufferRead_good s p e hi hbad]
  exact if_pos (by simp [hready, hhead])

/-! ### Windows and checkpoints (04 R146, R150) -/

theorem authExpiry_due (s : State) (p d : Nat) (hd : (s.port p).ring.nextExpiry = some d) (ha : s.alive = true)
    (hst : (s.port p).st ≠ .quarantined) : s.authExpiry p = s.expireAt p d := by
  simp only [State.authExpiry, hd]
  exact if_pos (by simp [ha, hst])

theorem checkpoints_run (s : State) (h : Nat) (t : State) (ha : s.alive = true) (hrun : (s.hall h).phase = .run)
    (ht : t = (s.toHall ((s.hall h).ckptAt + 8000000000)).modHall h (fun x => { x with
      ckptAt := (s.toHall ((s.hall h).ckptAt + 8000000000)).hnow })) :
    s.checkpoints h =
      each ((t.portsOf h).filter (fun p => !(t.port p).ring.entries.isEmpty)) (fun p t => t.checkpoint p) t := by
  subst ht
  exact if_pos (by simp [ha, hrun])

/-- Settles O9: the commit, the expiry and the checkpoints by their lemmas; no job runs that keeps read-back from starting. -/
theorem ringCommitRuns : Obligations.RingCommitRuns := by
  unfold Obligations.RingCommitRuns
  refine ⟨?commit, ?readback, ?expiry, ?checkpoint⟩
  case commit =>
    intro s p e hhead hready hi hbad hroom
    exact congrArg State.done (commitStart_good s p e hhead hready hi hbad hroom)
  case readback =>
    intro s p ha hfl hst hpend hjobs
    exact congrArg State.done (when_true s _ _ (by simp [ha, hfl, hst, hpend, hjobs]))
  case expiry =>
    rintro s p d qs hd ha hst rfl
    exact congrArg State.done (authExpiry_due s p d hd ha hst)
  case checkpoint =>
    intro s h t ha hrun ht
    exact congrArg State.done (checkpoints_run s h t ha hrun ht)

/-! ### Decisions and the RING messages (04 R145, R147, R157) -/

section
variable (s : State) (x : Nat) (b : Bytes) (hport : portOk b = true)
include hport

/-- A decision in a hall that does not run answers STATE, and no entry is touched. -/
theorem hostDecide_stopped (hrun : s.hallRuns (num b 0 2) = false) : s.hostDecide x b = (le 1 2 ++ le 2 0, s) := by
  simp [State.hostDecide, hport, hrun]

/-- Decision 1 allows: the answer is the result and the number of entries applied. -/
theorem hostDecide_allow (d : State × Nat × Nat) (hrun : s.hallRuns (num b 0 2) = true) (hallow : num b 10 1 = 1)
    (hd : d = s.decide (num b 0 2) true (num b 2 6) (num b 8 2) (deciderOf (s.ses x).eff) x) :
    s.hostDecide x b = (le 1 d.2.1 ++ le 2 d.2.2, d.1) := by
  subst hd
  simp [State.hostDecide, hport, hrun, hallow]

end

/-- A RING_DECIDE of the right length, by a session that may decide, answers what the decision of the taken request answers. -/
theorem exec_ringDecide_taken (s : State) (x : SessId) (b : Bytes) (ho : s.opens x) (hright : ((s.ses x).eff != 4) = true)
    (hlen : b.length = 11) (a : Bytes × State) (hact : (s.taken x 0x2A).hostDecide x b = a) :
    exec (.ringDecide x b) s = .next (a.2.respond x (s.nextReq x) a.1).finish := by
  change (s.serveNow x 0x2A ((s.ses x).eff != 4) (b.length == 11) (·.hostDecide x b)).done = _
  rw [hright, beq_iff_eq.mpr hlen, serveNow_taken s x 0x2A _ ho, hact, done_next]

/-- A request about a port of a hall that runs is answered from the ring as it stands. -/
theorem serveRead_hallRuns (s : State) (x type p : Nat) (lenOk : Bool) (ans : State → Bytes) (ho : s.opens x)
    (hl : lenOk = true) (hrun : (s.taken x type).hallRuns p = true) :
    s.serveRead x type true lenOk (fun t => if t.hallRuns p then ans t else [2]) =
      (s.taken x type).respond x (s.nextReq x) (ans (s.taken x type)) := by
  rw [hl, serveRead_taken s x type _ ho, if_pos hrun]

/-- Settles O10: a warden's decision reaches its register; a message is taken, and acts or answers by its lemma. -/
theorem ringDecisionRuns : Obligations.RingDecisionRuns := by
  unfold Obligations.RingDecisionRuns
  refine ⟨?allow, ?refuse, ?decided, ?stopped, ?query, ?detail, ?summary⟩
  case allow =>
    rintro s h r n p d hr rfl rfl
    exact congrArg State.done (access17_reaches s _ _ r (·.decCmd h r true (n % 65536)) hr)
  case refuse =>
    rintro s h r n p d hr rfl rfl
    exact congrArg State.done (access17_reaches s _ _ r (·.decCmd h r false (n % 65536)) hr)
  case decided =>
    intro s x b d ho hright hlen hport hrun hallow hd
    rw [exec_ringDecide_taken s x b ho hright hlen _ (hostDecide_allow _ x b hport d hrun hallow hd)]
  case stopped =>
    intro s x b ho hright hlen hport hrun
    rw [exec_ringDecide_taken s x b ho hright hlen _ (hostDecide_stopped _ x b hport hrun)]
  case query =>
    intro s x b ho hlen hport hlow hhigh hrun
    exact congrArg State.done (serveRead_hallRuns s x _ _ _ (fun t =>
      (List.range (num b 8 2)).flatMap (fun i => t.ringEntry (num b 0 2) (num b 2 6 + i))) ho
      (by simp [hlen, hport, hlow, hhigh]) hrun)
  case detail =>
    intro s x b ho hlen hport hrun
    exact congrArg State.done (serveRead_hallRuns s x _ _ _ (·.ringDetailBytes (num b 0 2) (num b 2 6)) ho
      (by simp [hlen, hport]) hrun)
  case summary =>
    intro s x b ho hlen hport hrun
    exact congrArg State.done (serveRead_hallRuns s x _ _ _ (·.ringSummaryBytes (num b 0 2)) ho
      (by simp [hlen, hport]) hrun)

end Sys2Proof.Machine
end

section
/-! SUPPORT. The gleaner's cycle, the heal job, the hash lanes' test and patrol scrub (05 R178 to R185, 04 R155). -/

namespace Sys2Proof.Machine

/-! ### The gleaner's cycle (05 R178) -/

section
variable (s : State) (p t0 : Nat) (ht0 : (s.port p).gln.t0 = some t0)
include ht0

/-- A cycle that read every leaf by its deadline is followed by the next. -/
theorem cycleDeadline_complete (t : State) (hread : (s.port p).leafCount ≤ (s.port p).gln.read)
    (ht : t = s.toHall (t0 + (s.hall (hallOf p)).cycleS * 800000000)) : s.cycleDeadline p = t.nextCycle p t.hnow := by
  subst ht
  simp only [State.cycleDeadline, ht0]
  exact if_pos hread

/-- A cycle that has leaves to read at its deadline is LATE, once. -/
theorem cycleDeadline_late (hread : (s.port p).gln.read < (s.port p).leafCount) (hlate : (s.port p).gln.late = false) :
    s.cycleDeadline p =
      ((s.toHall (t0 + (s.hall (hallOf p)).cycleS * 800000000)).modGln p (fun g => { g with
        late := true, lateCyc := satAdd 16 g.lateCyc 1 })).raiseP (pgGln (hallOf p)) 8 p := by
  simp only [State.cycleDeadline, ht0]
  exact (if_neg (Nat.not_le.mpr hread)).trans (if_neg (by simp [hlate]))

end

/-! ### The heal job (05 R182) -/

/-- A durable job that no entry precedes starts to write; one that was not abandoned is only marked as running. -/
theorem healStart_durable (s : State) (p : Nat) (h : Heal) (hh : (s.port p).gln.heal = some h) (ha : s.alive = true)
    (hdur : h.durable = true) (hrun : h.running = false) (hab : h.abandoned = false) (hfl : s.flAllowed p = true)
    (hk : s.kindAllowed p .healWrite = true) (hrb : (s.port p).ring.readbackPending = false)
    (hes : (s.port p).ring.entries = []) (hroom : s.ledgerRoom = true) :
    s.healStart p =
      (s.modGln p (fun g => { g with heal := some { h with running := true } })).healWrite p { h with running := true } := by
  have hmark : { h with running := true, abandoned := false } = { h with running := true } := by rw [← hab]
  simp only [State.healStart, hh, hmark]
  exact (if_pos (by simp [ha, hdur, hrun, hab, hfl, hk, hrb, hes])).trans (if_neg (by simp [hroom]))

/-! ### The hash lanes' test (05 R185) -/

theorem hshRun_serving (s : State) (h : Nat) (r : Requester) (hs : s.modState = .serving) :
    s.hshRun h r = s.modHall h (fun x => { x with testing := true, testDone := false, testPass := false }) :=
  if_pos hs

/-- When no further lane failed and one still works, nothing is raised and the hall goes on. -/
theorem lanesFailed_none (s : State) (h : Nat) (hwork : (s.hall h).laneFail % 256 ≠ 255) :
    s.lanesFailed h 0 = s.modHall h (fun x => { x with laneFail := x.laneFail ||| 0 }) := by
  simp [State.lanesFailed, State.when, hwork]

/-- A test in which no lane in use failed is stored as passed. -/
theorem hshDone_pass (s : State) (h failed : Nat) (ha : s.alive = true) (ht : (s.hall h).testing = true)
    (hf : failed &&& (s.hall h).laneEn = 0) (hwork : (s.hall h).laneFail % 256 ≠ 255) :
    s.hshDone h failed =
      (s.modHall h (fun y => { y with testing := false, testDone := true, testPass := true })).modHall h (fun x => { x with
        laneFail := x.laneFail ||| 0 }) := by
  simp only [State.hshDone, hf]
  exact (if_pos (by simp [ha, ht])).trans (lanesFailed_none _ h (by simpa using hwork))

/-! ### Patrol scrub (04 R155, 17 Table 17.11) -/

/-- A good read that meets no injected error moves the position on, and does nothing else. -/
theorem scrub_good (s : State) (h u : Nat) (ha : s.alive = true) (hrun : (s.hall h).phase = .run)
    (hen : (s.hall h).scrubEn = true) (hi : s.injection (pgDrc h) 0 none = 0) :
    s.scrub h u .good = s.modHall h (fun x => { x with scrubPos := (u + 1) % 0x18000000 }) := by
  simp only [State.scrub, hi]
  exact if_pos (by simp [ha, hrun, hen])

/-- Settles O11, each clause by the lemma on its operation. -/
theorem gleanScrubRuns : Obligations.GleanScrubRuns := by
  unfold Obligations.GleanScrubRuns
  refine ⟨?glean, ?complete, ?late, ?heal, ?run, ?tested, ?scrub⟩
  case glean =>
    intro s h ha
    exact congrArg State.done (when_true s _ (·.gleanStart h) ha)
  case complete =>
    intro s p t0 t ha ht0 hread ht
    exact congrArg State.done ((when_true s _ _ ha).trans (cycleDeadline_complete s p t0 ht0 t hread ht))
  case late =>
    intro s p t0 ha ht0 hread hlate
    exact congrArg State.done ((when_true s _ _ ha).trans (cycleDeadline_late s p t0 ht0 hread hlate))
  case heal =>
    intro s p h hh ha hdur hrun hab hfl hk hrb hes hroom
    exact congrArg State.done (healStart_durable s p h hh ha hdur hrun hab hfl hk hrb hes hroom)
  case run =>
    intro s h r hr hs
    exact congrArg State.done ((access17_reaches s _ _ r _ hr).trans (hshRun_serving s h r hs))
  case tested =>
    intro s h failed ha ht hf hwork
    exact congrArg State.done (hshDone_pass s h failed.toNat ha ht hf hwork)
  case scrub =>
    intro s h u ha hrun hen hi
    exact congrArg State.done (scrub_good s h u ha hrun hen hi)

end Sys2Proof.Machine
end

section
/-! SUPPORT. Bring-up (06 R189, R193): a hall's training and replay, the galleries' PHY domains, and the two windows. -/

namespace Sys2Proof.Machine

/-! ### A hall in TRAINING (06 R189, 09 R292, 04 R151) -/

section
variable (s : State) (h : Nat) (ha : s.alive = true) (hph : (s.hall h).phase = .training)
include ha hph

theorem dramTrained_fails (lanes : Nat) (htr : (s.hall h).trained = false) :
    s.dramTrained h false lanes = (s.raise (pgDrc h) 3).hallFault h s.cyc :=
  if_pos (by simp [ha, hph, htr])

/-- Training that passes fills the pairing key store of the hall's ports before the lanes' outcome is taken. -/
theorem dramTrained_passes (lanes : Nat) (t : State) (htr : (s.hall h).trained = false)
    (ht : t = s.modHall h (fun y => { y with
      trained := true, pksFilled := true, testDone := true, testPass := lanes == 0 })) :
    s.dramTrained h true lanes =
      ((each (t.portsOf h) (fun p t => t.modKey p (fun k => { k with
        pksCur := k.current, pksPend := k.pending })) t).lanesFailed h lanes).hallUp h := by
  subst ht
  exact if_pos (by simp [ha, hph, htr])

/-- The barn is ready when every hall has been replayed or is FAULTED, and stays so. -/
theorem replayDone_training (t : State) (hrep : (s.hall h).replayed = false)
    (ht : t = ((s.hallReplay h).modHall h (fun y => { y with replayed := true })).hallUp h) :
    s.replayDone h = { t with
      brnReady := t.brnReady || [0, 1, 2, 3].all (fun k => (t.hall k).phase == .faulted || (t.hall k).replayed) } := by
  subst ht
  exact if_pos (by simp [ha, hph, hrep])

end

/-! ### PHY domains and windows (06 R189, R193, 15 R455) -/

theorem phyGalleryOn_waiting (s t : State) (ha : s.alive = true) (hboot : s.modState ≠ .loftBoot)
    (hshut : s.modState ≠ .shutter)
    (hwait : [0, 1, 2, 3].any (fun h => (s.hall h).phase == .run && (s.hall h).galOn != 4) = true)
    (ht : t = each [0, 1, 2, 3] (fun h t => t.nextGallery h) (s.toLoft s.loft.phyAt)) :
    s.phyGalleryOn = t.modLoft (fun l => { l with phyAt := t.lnow + 1500000 }) := by
  subst ht
  have hcond : (s.alive && s.modState != .loftBoot && s.modState != .shutter &&
      [0, 1, 2, 3].any (fun h => (s.hall h).phase == .run && (s.hall h).galOn != 4)) = true := by
    rw [hwait]
    simp [ha, hboot, hshut]
  exact if_pos hcond

/-- The window's end leaves HALL_BRINGUP for VERIFY, and a hall with a port that still links or pairs raises it. -/
theorem bringupExpiry_open (s : State) (w : Window) (t : State) (hw : s.loft.bringWin = some w)
    (ht : t = (s.toLoft (w.dl + 1)).modLoft (fun l => { l with bringWin := none })) (ha : s.alive = true)
    (hst : s.modState = .hallBringup) :
    s.bringupExpiry =
      (each [0, 1, 2, 3] (fun h u =>
        u.when ((t.portsOf h).any (fun p => (t.port p).st == .linking || (t.port p).st == .pairing))
          (fun u => u.raise (pgRls h) 0)) t).toModState .verify := by
  subst ht
  simp only [State.bringupExpiry, hw]
  exact if_pos (by simp [ha, hst])

theorem bootWinEnds_open (s : State) (p : Nat) (w : Window) (hw : (s.port p).rls.bootWin = some w) :
    s.bootWinEnds p = (s.toHall (w.dl + 1)).modRls p (fun r => { r with bootWin := none, booted := true }) := by
  simp only [State.bootWinEnds, hw]

/-- Settles O13, each clause by the lemma on its step of the bring-up. -/
theorem bringupRuns : Obligations.BringupRuns := by
  unfold Obligations.BringupRuns
  refine ⟨?fails, ?passes, ?replayed, ?gallery, ?bringup, ?boot⟩
  case fails =>
    intro s h lf ha hph htr
    exact congrArg State.done (dramTrained_fails s h ha hph lf.toNat htr)
  case passes =>
    intro s h lf t ha hph htr ht
    exact congrArg State.done (dramTrained_passes s h ha hph lf.toNat t htr ht)
  case replayed =>
    intro s h t ha hph hrep ht
    exact congrArg State.done (replayDone_training s h ha hph t hrep ht)
  case gallery =>
    intro s t ha hboot hshut hwait ht
    exact congrArg State.done (phyGalleryOn_waiting s t ha hboot hshut hwait ht)
  case bringup =>
    intro s w t hw ht ha hst
    exact congrArg State.done (bringupExpiry_open s w t hw ht ha hst)
  case boot =>
    intro s p w hw
    exact congrArg State.done (bootWinEnds_open s p w hw)

end Sys2Proof.Machine
end

section
/-! SUPPORT. Start, flights, release commands, departure and the shutter (06 R188 to R216): each operation where its premises hold. -/

namespace Sys2Proof.Machine

/-! ### Mains, the boot and the warden's start (06 R188, R214, 09 R277, 15 R444) -/

/-- Mains in limits that a COLD module did not have marks M0 and the cause of the reset. -/
theorem mainsStable_cold (s : State) (m : SupplyReading) (hlow : 800 ≤ m.vrms) (hhigh : m.vrms ≤ 3000)
    (hcold : s.modState = .cold) (hout : s.pwr.mainsOk = false) :
    s.mainsStable m =
      ((s.modPwr (fun w => { w.read m with mainsOk := true, ready := 200 ≤ m.energy })).modPwr (fun w => { w with
        m0 := s.lnow })).modLoft (fun l => { l with cause := setBit32 l.cause 0 }) :=
  (if_neg (by omega)).trans (if_pos (by simp [hcold, hout]))

/-- Without a thermal hold the Loft boots at the cycle of its release; only a hold sets M0. -/
theorem loftRelease_cold (s : State) (o : BootObs) (hcold : s.modState = .cold) (hmains : s.pwr.mainsOk = true)
    (hres : s.loft.resetting = none) (hcool : s.loft.thermalHold = false) :
    s.loftRelease o = ((s.toLoft s.loft.relAt).setM0 (s.loft.relAt != 0)).loftBoot o :=
  if_pos (by simp [hcold, hmains, hres, hcool])

theorem setM0_first (s : State) (n : Nat) (h : n = 0) : s.setM0 (n != 0) = s := by
  simp [State.setM0, State.when, h]

theorem setM0_held (s : State) (n : Nat) (h : n ≠ 0) :
    s.setM0 (n != 0) = s.modPwr (fun w => { w with m0 := s.lnow - 36000000 }) :=
  when_true s _ _ (by simp [h])

theorem pufRetry_due (s : State) (o : PufObs) (t : Nat) (hdue : s.puf.retryAt = some t) (ha : s.alive = true)
    (hboot : s.modState = .loftBoot) (hhalt : s.loft.halted = false) : s.pufRetry o = (s.toLoft t).pufAttempt o := by
  simp only [State.pufRetry, hdue]
  exact if_pos (by simp [ha, hboot, hhalt])

theorem wardenStarts_boot (s : State) (ha : s.alive = true) (hhalt : s.loft.halted = false)
    (hboot : s.modState = .loftBoot) (hre : s.loft.restart = false) (hok : s.loft.bootOk = true) :
    s.wardenStarts = s.startWarden.lwdBegin 0 :=
  (if_neg (by simp [ha, hhalt, hboot])).trans ((if_neg (by simp [hre])).trans (if_pos (by simp [hok, hboot])))

/-- Settles O12, each clause by the lemma on its step of the start. -/
theorem startUpRuns : Obligations.StartUpRuns := by
  unfold Obligations.StartUpRuns
  refine ⟨?mains, ?first, ?held, ?retry, ?warden⟩
  case mains =>
    intro s m hlow hhigh hcold hout
    exact congrArg State.done (mainsStable_cold s m hlow hhigh hcold hout)
  case first =>
    intro s o hcold hmains hres hcool hrel
    have hboot := loftRelease_cold s o hcold hmains hres hcool
    rw [setM0_first _ _ hrel, hrel] at hboot
    exact congrArg State.done hboot
  case held =>
    rintro s o t hcold hmains hres hcool hrel rfl
    have hboot := loftRelease_cold s o hcold hmains hres hcool
    rw [setM0_held _ _ hrel] at hboot
    exact congrArg State.done hboot
  case retry =>
    intro s o t hdue ha hboot hhalt
    exact congrArg State.done (pufRetry_due s o t hdue ha hboot hhalt)
  case warden =>
    intro s ha hhalt hboot hre hok
    exact congrArg State.done (wardenStarts_boot s ha hhalt hboot hre hok)

/-! ### Groups (06 R194, R196) -/

/-- Of a group of two, the member that is not verified is left out when the wait of the other ends. -/
theorem groupWaitEnds_pair (s : State) (h g v w : Nat) (hall : s.groupAll g = [v, w]) (hrv : (s.port v).ready = true)
    (hrw : (s.port w).ready = false) (hvv : (s.port v).rls.verified = true) (hvw : (s.port w).rls.verified = false)
    (ha : s.alive = true) (hg : g ≠ 0) :
    s.groupWaitEnds h g =
      (((s.toHall ((s.port v).rls.verifiedAt + (s.hall h).groupWait * 800000000)).modRls w (fun r => { r with
        leftOut := true })).modHall h (fun x => { x with
        grpPartial := g :: x.grpPartial.filter (· ≠ g) })).raise (pgRls h) 2 := by
  have hready : [v, w].filter (fun p => (s.port p).ready) = [v] := by simp [hrv, hrw]
  have hout : [v, w].filter (fun p => !(s.port p).rls.verified) = [w] := by simp [hvv, hvw]
  simp only [State.groupWaitEnds, hall, hready, hout]
  exact if_pos (by simp [ha, hg])

/-- The oldest traffic of the hall is its report of the group. -/
theorem groupReport_oldest (s : State) (h g : Nat) (ha : s.alive = true) (hq : (s.hall h).outq.head? = some (.group g)) :
    s.groupReport h g =
      (s.modHall h (fun x => { x with
        outq := x.outq.drop 1, grpKnown := x.grpKnown.filter (· ≠ g) ++ [g] })).groupRelease g :=
  if_pos (by simp [ha, hq])

/-! ### RLS_CMD (06 R216) -/

section
variable (s : State) (h : Nat) (r : Requester) (code : State → Nat → Nat) (act : Nat → State → State)

/-- A command of RLS_CMD that the selected port allows is carried out, with result 0. -/
theorem rlsCmd_allowed (hr : s.reaches (pgRls h) 0x064 r) (hc : code s (s.selPort h (pgRls h) 0x054 r) = 0) :
    s.access17 (pgRls h) 0x064 r (fun t => t.rlsCmd h r (code t) act) =
      (act (s.selPort h (pgRls h) 0x054 r) s).modHall h (fun x => { x with rlsResult := 0 }) :=
  (access17_reaches s _ _ r _ hr).trans (if_pos hc)

/-- A command of RLS_CMD that is refused leaves its code, and nothing else. -/
theorem rlsCmd_refused (hr : s.reaches (pgRls h) 0x064 r) (hc : code s (s.selPort h (pgRls h) 0x054 r) ≠ 0) :
    s.access17 (pgRls h) 0x064 r (fun t => t.rlsCmd h r (code t) act) =
      s.modHall h (fun x => { x with rlsResult := code s (s.selPort h (pgRls h) 0x054 r) }) :=
  (access17_reaches s _ _ r _ hr).trans (if_neg hc)

end

theorem releaseCode_departing (s : State) (p : Nat) (hdep : s.modState = .departing) : s.releaseCode p = 2 :=
  if_pos hdep

theorem releaseCode_verified (s : State) (p : Nat) (hdep : s.modState ≠ .departing) (hst : (s.port p).st = .held)
    (hhold : (s.port p).rls.hold = true) (hver : (s.port p).rls.verified = true) : s.releaseCode p = 0 :=
  (if_neg hdep).trans ((if_neg (by simp [hst, hhold])).trans (if_pos hver))

theorem reverifyCode_held (s : State) (p : Nat) (hdep : s.modState ≠ .departing) (hst : (s.port p).st = .held) :
    s.reverifyCode p = 0 :=
  (if_neg hdep).trans (if_pos hst)

/-- Settles O14: a command of RLS_CMD reaches its register and is allowed or refused by its code; every other clause is the
lemma on its operation. -/
theorem flightRuns : Obligations.FlightRuns := by
  unfold Obligations.FlightRuns
  refine ⟨?flight, ?wait, ?report, ?rate, ?release, ?departing, ?reset, ?reverify⟩
  case flight =>
    intro s h ha
    exact congrArg State.done (when_true s _ (·.decideFlight h) ha)
  case wait =>
    intro s h g v w hall hrv hrw hvv hvw ha hg
    exact congrArg State.done (groupWaitEnds_pair s h g.toNat v w hall hrv hrw hvv hvw ha hg)
  case report =>
    intro s h g ha hq
    exact congrArg State.done (groupReport_oldest s h g.toNat ha hq)
  case rate =>
    rintro s t ha rfl
    exact congrArg State.done (when_true s _ State.rateTick ha)
  case release =>
    rintro s h r p hr rfl hdep hst hhold hver
    exact congrArg State.done
      (rlsCmd_allowed s h r State.releaseCode _ hr (releaseCode_verified s _ hdep hst hhold hver))
  case departing =>
    intro s h r hr hdep
    have hcode := releaseCode_departing s (s.selPort h (pgRls h) 0x054 r) hdep
    have hcmd := rlsCmd_refused s h r State.releaseCode
      (fun p u => u.modRls p (fun x => { x with given := true })) hr (by simp [hcode])
    rw [hcode] at hcmd
    exact congrArg State.done hcmd
  case reset =>
    rintro s h r p hr rfl hst
    exact congrArg State.done (rlsCmd_allowed s h r
      (fun t q => if (t.port q).st = .released ∨ (t.port q).st = .adopted then 0 else 1) _ hr (if_pos (Or.inl hst)))
  case reverify =>
    rintro s h r p hr rfl hdep hst
    exact congrArg State.done (rlsCmd_allowed s h r State.reverifyCode _ hr (reverifyCode_held s _ hdep hst))

/-! ### Departure and the shutter (06 R206, R210 to R212) -/

theorem departPort_turn (s : State) (p : Nat) (ha : s.alive = true) (hturn : s.depTurn p = true) :
    s.departPort p = each (s.depUnit p) (fun q t => t.depStart q (16 < (s.depUnit p).length)) s :=
  if_pos (by simp [ha, hturn])

/-- 14 ms after W0 every hall's reports are with the Loft. -/
theorem shutterHandoff_first (s : State) (x : Shutter) (hx : s.shutter = some x) (hstep : x.step = 0) :
    s.shutterHandoff =
      (each [0, 1, 2, 3] (fun h t => each (t.hall h).reports (fun r u => u.takeReport r) (t.modHall h (fun y => { y with
        outq := [] }))) (s.toLoft (x.w0 + 8400000))).shutterStep 1 := by
  simp only [State.shutterHandoff, hx]
  exact if_pos hstep

/-- 15 ms after W0 the domains go dark, once the hand-over is done. -/
theorem shutterOff_second (s : State) (x : Shutter) (hx : s.shutterHandoff.shutter = some x) (hstep : x.step = 1) :
    s.shutterOff = ((s.shutterHandoff.toLoft (x.w0 + 9000000)).shutterDark).shutterStep 2 := by
  simp only [State.shutterOff, hx]
  exact if_pos hstep

/-- A shutter that no trip started writes the last records and clears the Loft with cause 8. -/
theorem shutterEnds_powerFail (s : State) (x : Shutter) (hx : s.shutter = some x) (hstep : x.step = 2)
    (hth : x.thermal = false) : s.shutterEnds = s.shutterRecords.loftClear 8 := by
  simp only [State.shutterEnds, hx, hth]
  exact if_pos hstep

/-- Settles O15, each clause by the lemma on its step; the warning is the start of the shutter itself. -/
theorem departureShutterRuns : Obligations.DepartureShutterRuns := by
  unfold Obligations.DepartureShutterRuns
  refine ⟨?depart, ?warning, ?handoff, ?dark, ?ends⟩
  case depart =>
    intro s p ha hturn
    exact congrArg State.done (departPort_turn s p ha hturn)
  case warning =>
    intro s _
    exact done_next s.powerFail
  case handoff =>
    intro s x hx hstep
    exact congrArg State.done (shutterHandoff_first s x hx hstep)
  case dark =>
    intro s x hx hstep
    exact congrArg State.done (shutterOff_second s x hx hstep)
  case ends =>
    intro s x hx hstep hth
    exact congrArg State.done (shutterEnds_powerFail s x hx hstep hth)

end Sys2Proof.Machine
end

section
/-! SUPPORT. The PORT messages of a host session (14 R432 to R434, 06 R205): what a taken request answers, and what it begins. -/

namespace Sys2Proof.Machine

/-! ### PORT_STATUS, PORT_INFO -/

/-- A request for 1 to 256 ports, all below 1,024, is answered with four bytes for each. -/
theorem serveRead_portStatus (s : State) (x : Nat) (b : Bytes) (ho : s.opens x) (hlen : b.length = 4)
    (hmin : 1 ≤ num b 2 2) (hmax : num b 2 2 ≤ 256) (hend : num b 0 2 + num b 2 2 ≤ 1024) :
    s.serveRead x 0x30 true (b.length == 4) (fun t =>
      if num b 2 2 < 1 ∨ 256 < num b 2 2 ∨ 1024 < num b 0 2 + num b 2 2 then 2 :: zeros 3
      else zeros 4 ++ (List.range (num b 2 2)).flatMap (fun k => (t.port (num b 0 2 + k)).statusBytes)) =
    (s.taken x 0x30).respond x (s.nextReq x) (zeros 4 ++
      (List.range (num b 2 2)).flatMap (fun k => ((s.taken x 0x30).port (num b 0 2 + k)).statusBytes)) := by
  rw [beq_iff_eq.mpr hlen, serveRead_taken s x _ _ ho]
  exact congrArg ((s.taken x 0x30).respond x (s.nextReq x)) (if_neg (by omega))

theorem serveNow_portInfo (s : State) (x : Nat) (b : Bytes) (ho : s.opens x) (hlen : b.length = 2) (hport : portOk b = true) :
    s.serveNow x 0x35 true (b.length == 2) (fun t =>
      if portOk b then (zeros 1 ++ (t.port (num b 0 2)).infoBytes, t) else t.failBody 2 39) =
    (s.taken x 0x35).respond x (s.nextReq x) (zeros 1 ++ ((s.taken x 0x35).port (num b 0 2)).infoBytes) := by
  rw [beq_iff_eq.mpr hlen, serveNow_taken s x _ _ ho, if_pos hport]

/-! ### PORT_ENROL (14 R433) -/

theorem enrolAsk_refused (s : State) (x seq : Nat) (b : Bytes) (d : DeviceRead) (hc : s.enrolCode b ≠ 0) :
    s.enrolAsk x seq b d = (some [BitVec.ofNat 8 (s.enrolCode b)], s) :=
  if_pos hc

/-- With its checks passed an enrolment is not answered: it waits for the verification of its manifest. -/
theorem enrolAsk_queued (s : State) (x seq : Nat) (b : Bytes) (d : DeviceRead) (q : EnrolReq) (hc : s.enrolCode b = 0)
    (hq : q = { port := num b 0 2, ses := x, seq := seq, body := b, dev := d, man := (s.manSlot (num b 9 1)).bytes }) :
    s.enrolAsk x seq b d =
      (none, ({ s with enrols := s.enrols ++ [q] } : State).queueJob (manifestJob 3 (.enrol q.port) q.man)) := by
  subst hq
  exact if_neg (fun hne => hne hc)

section
variable (s : State) (x : Nat) (b : Bytes) (d : DeviceRead) (ho : s.opens x) (hown : s.owner x = true) (hlen : b.length = 36)
include ho hown hlen

theorem serve_enrol_refused (hc : (s.taken x 0x31).enrolCode b ≠ 0) :
    s.serve x 0x31 (s.owner x) (b.length == 36) (fun seq t => t.enrolAsk x seq b d) =
      (s.taken x 0x31).respond x (s.nextReq x) [BitVec.ofNat 8 ((s.taken x 0x31).enrolCode b)] := by
  rw [hown, beq_iff_eq.mpr hlen, serve_taken s x _ _ ho, enrolAsk_refused _ x _ b d hc]

theorem serve_enrol_queued (q : EnrolReq) (hc : (s.taken x 0x31).enrolCode b = 0)
    (hq : q = { port := num b 0 2, ses := x, seq := s.nextReq x, body := b, dev := d,
                man := ((s.taken x 0x31).manSlot (num b 9 1)).bytes }) :
    s.serve x 0x31 (s.owner x) (b.length == 36) (fun seq t => t.enrolAsk x seq b d) =
      ({ s.taken x 0x31 with enrols := (s.taken x 0x31).enrols ++ [q] } : State).queueJob
        (manifestJob 3 (.enrol q.port) q.man) := by
  rw [hown, beq_iff_eq.mpr hlen, serve_taken s x _ _ ho, enrolAsk_queued _ x _ b d q hc hq]

end

/-! ### PORT_RETIRE, PORT_QUARANTINE, PORT_DEPART (14 R434, 06 R205) -/

theorem rangeOr_portOk (b : Bytes) (code : Nat → Nat) (hport : portOk b = true) : rangeOr b code = code (num b 0 2) :=
  if_pos hport

theorem portAns_ok (code : Nat) (s : State) (act : State → State) (hc : code = 0) : portAns code s act = ([0], act s) := by
  simp [portAns, hc]

section
variable (s : State) (x : Nat) (b : Bytes) (right : Bool) (code : State → Nat) (act : State → State)
  (ho : s.opens x) (hright : right = true)
include ho hright

/-- A request of a session that may make it, whose code is 0, acts and is answered OK. -/
theorem serveNow_portAns_ok (type : Nat) (lenOk : Bool) (hlen : lenOk = true) (hc : code (s.taken x type) = 0) :
    s.serveNow x type right lenOk (fun t => portAns (code t) t act) =
      (act (s.taken x type)).respond x (s.nextReq x) [0] := by
  rw [hright, hlen, serveNow_taken s x type _ ho, portAns_ok _ _ act hc]

theorem portQuar_ok (action : Nat) (hlen : b.length = 3) (hport : portOk b = true) (haction : num b 2 1 = action)
    (hc : code (s.taken x 0x33) = 0) :
    s.portQuar x action b right code act = (act (s.taken x 0x33)).respond x (s.nextReq x) [0] :=
  (if_pos haction).trans (serveNow_portAns_ok s x right (fun t => rangeOr b (fun _ => code t)) act ho hright 0x33 _
    (beq_iff_eq.mpr hlen) ((rangeOr_portOk b _ hport).trans hc))

end

theorem portDepart_ok (s : State) (x action : Nat) (b : Bytes) (code : State → Nat) (act : State → State) (ho : s.opens x)
    (hown : s.owner x = true) (hlen : b.length = 1) (haction : num b 0 1 = action) (hc : code (s.taken x 0x34) = 0) :
    s.portDepart x action b code act = (act (s.taken x 0x34)).respond x (s.nextReq x) [0] :=
  (if_pos haction).trans (serveNow_portAns_ok s x _ code act ho hown 0x34 _ (beq_iff_eq.mpr hlen) hc)

/-- Settles O41: each message is taken, and answered by the lemma on its family. -/
theorem portMessagesRun : Obligations.PortMessagesRun := by
  unfold Obligations.PortMessagesRun
  refine ⟨?status, ?info, ?refused, ?queued, ?retire, ?enter, ?discard, ?release, ?depart, ?cancel⟩
  case status =>
    intro s x b ho hlen hmin hmax hend
    exact congrArg State.done (serveRead_portStatus s x b ho hlen hmin hmax hend)
  case info =>
    intro s x b ho hlen hport
    exact congrArg State.done (serveNow_portInfo s x b ho hlen hport)
  case refused =>
    rintro s x b d t ho hown hlen _ rfl hc
    exact congrArg State.done (serve_enrol_refused s x b d ho hown hlen hc)
  case queued =>
    rintro s x b d t q ho hown hlen _ rfl hc hq
    exact congrArg State.done (serve_enrol_queued s x b d ho hown hlen q hc hq)
  case retire =>
    rintro s x b t ho hown hlen hport rfl hc
    exact congrArg State.done (serveNow_portAns_ok s x _ (fun t => rangeOr b t.retireCode) _ ho hown 0x32 _
      (beq_iff_eq.mpr hlen) ((rangeOr_portOk b _ hport).trans hc))
  case enter =>
    rintro s x b t ho hown hlen hport haction rfl hc
    exact congrArg State.done (portQuar_ok s x b _ (·.enterCode (num b 0 2)) _ ho hown 1 hlen hport haction hc)
  case discard =>
    rintro s x b t ho hown hlen hport haction rfl hc
    exact congrArg State.done (portQuar_ok s x b _ (·.enterCode (num b 0 2)) _ ho hown 2 hlen hport haction hc)
  case release =>
    rintro s x b t ho hright hlen hport haction rfl hc
    exact congrArg State.done (portQuar_ok s x b _ (·.relCode (num b 0 2)) _ ho hright 3 hlen hport haction hc)
  case depart =>
    rintro s x t ho hown rfl hc
    exact congrArg State.done (portDepart_ok s x 1 [1] State.departCode State.departBegin ho hown rfl rfl hc)
  case cancel =>
    rintro s x t ho hown rfl hc
    exact congrArg State.done (portDepart_ok s x 2 [2] State.cancelCode State.departCancel ho hown rfl rfl hc)

end Sys2Proof.Machine
end

section
/-! SUPPORT. The line-position block: encoder inputs, idle transports and gap windows (07 R219 to R225), the control page and the
ties of its ports (07 R227, 17 R496, R497). -/

namespace Sys2Proof.Machine

/-! ### Encoder counts, index and rate (07 R219, R220, R222) -/

section
variable (s : State) (n : Nat)

theorem encCount_both (hon : s.encOn n = true) : s.encCount n .both = s.quadErr n :=
  if_neg (by simp [hon])

theorem encCount_aLeads (hon : s.encOn n = true) (hdir : (s.enc n).dirInv = false) :
    s.encCount n .aLeads = s.countEdges n 1 true :=
  (if_neg (by simp [hon])).trans (by rw [hdir]; rfl)

theorem encCount_bLeads (hon : s.encOn n = true) (hdir : (s.enc n).dirInv = false) :
    s.encCount n .bLeads = s.countEdges n 1 false :=
  (if_neg (by simp [hon])).trans (by rw [hdir])

/-- Forward edges add to the distance since the index and to that of the candidate of the filter. -/
theorem countEdges_forward (k : Nat) :
    s.countEdges n k true = (((s.modEnc n (fun e => { e with
      backward := false, rateCnt := e.rateCnt + k, fwd := e.fwd + k,
      cand := e.cand.map (fun c => (c.1, c.2.1, c.2.2 + k)) })).moveTo n (posAdd (s.tr n).pos k)).settleDp n).passGap n :=
  rfl

theorem countEdges_backward (k : Nat) :
    s.countEdges n k false = (((s.modEnc n (fun e => { e with
      backward := true, rateCnt := e.rateCnt + k })).moveTo n (posAdd (s.tr n).pos (posMod - k))).settleDp n).passGap n :=
  rfl

/-- An index edge whose forward counts fall short of the period by more than the tolerance is counted and faults the transport. -/
theorem indexRise_early (hen : (s.enc n).indexEn = true) (hseen : (s.enc n).idxSeen = true)
    (hfwd : (s.enc n).fwd ≤ (s.enc n).period) (hper : ((s.enc n).period != 0) = true)
    (htol : (s.enc n).tol < (s.enc n).period - (s.enc n).fwd) :
    s.indexRise n = ((s.modEnc n (fun x => { x with
      fwd := 0, idxSeen := true, indexN := satAdd 16 x.indexN 1 })).raise (pgEnc n) 2).faultTr n 3 := by
  simp only [State.indexRise, hen, hseen, hper, if_pos hfwd, decide_eq_true htol, Bool.and_self, if_true]

/-- With the check off an index edge only starts the count anew. -/
theorem indexRise_unchecked (hen : (s.enc n).indexEn = false) :
    s.indexRise n = s.modEnc n (fun x => { x with fwd := 0, idxSeen := true }) := by
  simp [State.indexRise, hen]

/-- A rate above the maximum of an enabled transport is stored and faults it. -/
theorem rateMeasure_excess (hen : (s.tr n).blk.enabled = true) (hmax : (s.tr n).blk.maxRate < (s.enc n).rateCnt * 1000) :
    s.rateMeasure n = (((s.toLoft ((s.lnow / 600000 + 1) * 600000)).modEnc n (fun e => { e with
      rate := (s.enc n).rateCnt * 1000, rateCnt := 0 })).raise (pgEnc n) 3).faultTr n 4 :=
  if_pos (by simp [hen, hmax])

/-! ### Document present (07 R220) -/

/-- The settled level drops the candidate. -/
theorem evalDp_settled (hdp : ((s.enc n).raw != (s.enc n).dpInv) = (s.enc n).dp) :
    s.evalDp n = s.modEnc n (fun x => { x with cand := none }) :=
  if_pos hdp

/-- A level that is neither settled nor the candidate becomes the candidate, at the position where it came. -/
theorem evalDp_newCandidate (hdp : ((s.enc n).raw != (s.enc n).dpInv) ≠ (s.enc n).dp)
    (hcand : (s.enc n).candIs ((s.enc n).raw != (s.enc n).dpInv) = false) :
    s.evalDp n = ((s.modEnc n (fun x => { x with
      cand := some ((s.enc n).raw != (s.enc n).dpInv, (s.tr n).pos, 0) })).settleDp n).passGap n :=
  (if_neg hdp).trans (if_neg (Bool.eq_false_iff.mp hcand))

theorem dpChange_same : s.dpChange n (s.enc n).raw = s :=
  if_pos rfl

variable (level : Bool) (hlev : level ≠ (s.enc n).raw)
include hlev

theorem dpChange_forward (hdir : (s.enc n).backward = false) :
    s.dpChange n level = (s.modEnc n (fun x => { x with raw := level })).evalDp n :=
  (if_neg hlev).trans (if_neg (Bool.eq_false_iff.mp hdir))

theorem dpChange_forward_settled (hdir : (s.enc n).backward = false) (hdp : (level != (s.enc n).dpInv) = (s.enc n).dp) :
    s.dpChange n level = (s.modEnc n (fun x => { x with raw := level })).modEnc n (fun x => { x with cand := none }) := by
  rw [dpChange_forward s n level hlev hdir, evalDp_settled]
  rw [State.modEnc_enc_same]
  exact hdp

theorem dpChange_forward_newCandidate (hdir : (s.enc n).backward = false)
    (hdp : (level != (s.enc n).dpInv) ≠ (s.enc n).dp) (hcand : (s.enc n).candIs (level != (s.enc n).dpInv) = false) :
    s.dpChange n level = (((s.modEnc n (fun x => { x with raw := level })).modEnc n (fun x => { x with
      cand := some (level != (s.enc n).dpInv, (s.tr n).pos, 0) })).settleDp n).passGap n := by
  have hnew := evalDp_newCandidate (s.modEnc n (fun x => { x with raw := level })) n
  rw [State.modEnc_enc_same] at hnew
  rw [dpChange_forward s n level hlev hdir, hnew hdp hcand]
  rfl

/-- In backward motion no edge is made: the level is settled at once, and the document is marked. -/
theorem dpChange_backward (hdir : (s.enc n).backward = true) :
    s.dpChange n level = (((s.modEnc n (fun x => { x with raw := level })).modEnc n (fun x => { x with
      dp := level != x.dpInv, cand := none })).raise (pgEnc n) 5).modTr n (fun x => { x with
      doc := x.doc.map (fun d => { d with flags := d.flags ||| 16 }) }) :=
  (if_neg hlev).trans (if_pos hdir)

end

/-- Settles O16: the receiver of the input is on, so its command acts, by the lemma on its edge, tick or level. -/
theorem encoderInputsRun : Obligations.EncoderInputsRun := by
  unfold Obligations.EncoderInputsRun
  refine ⟨?both, ?forward, ?backward, ?index, ?unchecked, ?line, ?rate, ?settled, ?same, ?candidate, ?reversed⟩
  case both =>
    intro s n hon
    exact congrArg State.done (encCount_both s n hon)
  case forward =>
    rintro s n t hon hdir rfl
    exact congrArg State.done ((encCount_aLeads s n hon hdir).trans (countEdges_forward s n 1))
  case backward =>
    rintro s n t hon hdir rfl
    exact congrArg State.done ((encCount_bLeads s n hon hdir).trans (countEdges_backward s n 1))
  case index =>
    intro s n hon hen hseen hfwd hper htol
    exact congrArg State.done
      ((when_true s _ (·.indexRise n) hon).trans (indexRise_early s n hen hseen hfwd hper htol))
  case unchecked =>
    intro s n hon hen
    exact congrArg State.done ((when_true s _ (·.indexRise n) hon).trans (indexRise_unchecked s n hen))
  case line =>
    intro s n hon
    exact congrArg State.done (when_true s _ (fun t => (t.raise (pgEnc n) 0).faultTr n 1) hon)
  case rate =>
    intro s n hon hen hmax
    exact congrArg State.done ((when_true s _ (·.rateMeasure n) hon).trans (rateMeasure_excess s n hen hmax))
  case settled =>
    intro s n level hon hlev hdir hdp
    exact congrArg State.done
      ((when_true s _ (·.dpChange n level) hon).trans (dpChange_forward_settled s n level hlev hdir hdp))
  case same =>
    intro s n hon
    exact congrArg State.done ((when_true s _ (·.dpChange n (s.enc n).raw) hon).trans (dpChange_same s n))
  case candidate =>
    intro s n level hon hlev hdir hdp hcand
    exact congrArg State.done
      ((when_true s _ (·.dpChange n level) hon).trans (dpChange_forward_newCandidate s n level hlev hdir hdp hcand))
  case reversed =>
    intro s n level hon hlev hdir
    exact congrArg State.done
      ((when_true s _ (·.dpChange n level) hon).trans (dpChange_backward s n level hlev hdir))

/-! ### Idle transports and gap windows (07 R223 to R225) -/

section
variable (s : State) (t : Nat) (ha : s.alive = true)
include ha

theorem idleTimeout_moving (hst : (s.tr t).st = .moving) :
    s.idleTimeout t = (s.toLoft ((s.tr t).changedAt + 1200000000)).enterIdle t :=
  if_pos (by simp [ha, hst])

theorem idleGapDue_idle (c : Nat) (u : State) (hst : (s.tr t).st = .idle) (hnext : (s.tr t).idleNext = some c)
    (hu : u = ((s.toLoft c).closeGap t 0 true).modTr t (fun x => { x with idleNext := some (max s.lnow c + 60000000) })) :
    s.idleGapDue t = u.openGap t true (u.tr t).pos := by
  subst hu
  simp only [State.idleGapDue, hnext]
  exact if_pos (by simp [ha, hst])

theorem idleGapOver_open (g : Gap) (hg : (s.tr t).idleGap = some g) :
    s.idleGapOver t = (s.toLoft (g.dlCyc + 1)).closeGap t 0 true := by
  simp only [State.idleGapOver, hg]
  exact if_pos ha

variable (g : Gap) (hg : (s.tr t).gap = some g)
include hg

/-- The window of a hard transport that is past it closes; any other moves the transport to the position after it. -/
theorem gapPosExpiry_hard (ht : t < 16) :
    s.gapPosExpiry t =
      if posAfter (s.tr t).pos g.dlPos then s.closeGap t 0
      else s.countEdges t ((posAdd g.dlPos 1 + posMod - (s.tr t).pos) % posMod) true := by
  simp only [State.gapPosExpiry, hg]
  exact if_pos ⟨ht, ha⟩

theorem guaranteeOver_reported (ht : 16 ≤ t) (hsaid : g.said = true) :
    s.guaranteeOver t = (s.toHall g.dlCyc).closeGap t 0 := by
  simp only [State.guaranteeOver, hg]
  exact if_pos ⟨ht, by simp [ha, hsaid]⟩

end

/-- Settles O17, each clause by the lemma on its timer or window. -/
theorem gapWindowsRun : Obligations.GapWindowsRun := by
  unfold Obligations.GapWindowsRun
  refine ⟨?idle, ?due, ?expired, ?passed, ?reached, ?guarantee⟩
  case idle =>
    intro s t ha hst
    exact congrArg State.done (idleTimeout_moving s t ha hst)
  case due =>
    intro s t c u ha hst hnext hu
    exact congrArg State.done (idleGapDue_idle s t ha c u hst hnext hu)
  case expired =>
    intro s t g ha hg
    exact congrArg State.done (idleGapOver_open s t ha g hg)
  case passed =>
    intro s t g ha ht hg hpast
    exact congrArg State.done ((gapPosExpiry_hard s t ha g hg ht).trans (if_pos hpast))
  case reached =>
    intro s t g ha ht hg hpast
    exact congrArg State.done ((gapPosExpiry_hard s t ha g hg ht).trans (if_neg (Bool.eq_false_iff.mp hpast)))
  case guarantee =>
    intro s t g ha ht hg hsaid
    exact congrArg State.done (guaranteeOver_reported s t ha g hg ht hsaid)

/-! ### Transport parameter blocks (17 R496) -/

section
variable (s : State) (r : Requester)

/-- A stage that fails a check leaves its code, and nothing else. -/
theorem commitStage_refused (hc : s.commitCode (selTr s r) (tabGet [0, 0, 0, 0, 0, 0] s.lpStage (reqNum r)) ≠ 0) :
    s.commitStage r =
      s.lpResultSet r (s.commitCode (selTr s r) (tabGet [0, 0, 0, 0, 0, 0] s.lpStage (reqNum r))) :=
  if_pos hc

/-- A good stage that leaves ENABLED as it is becomes the block, and neither enables nor disables the transport. -/
theorem commitStage_good (t : Nat) (w : List Nat) (ht : t = selTr s r)
    (hw : w = tabGet [0, 0, 0, 0, 0, 0] s.lpStage (reqNum r)) (hc : s.commitCode t w = 0)
    (hen : (s.tr t).blk.enabled = (blockOf w).enabled) :
    s.commitStage r = ((s.modTr t (fun x => { x with blk := blockOf w })).loadStage r t).lpResultSet r 0 := by
  subst ht hw
  refine (if_neg (fun hne => hne hc)).trans ?_
  rw [hen, if_neg (by simp), if_neg (by simp)]

theorem faultClear_notFaulted (hst : (s.tr (selTr s r)).st ≠ .faulted) : s.faultClear r = s.lpResultSet r 1 :=
  if_pos hst

/-- A fault whose condition is gone is cleared: the transport is MOVING. -/
theorem faultClear_gone (t : Nat) (ht : t = selTr s r) (hst : (s.tr t).st = .faulted) (hgone : s.faultStays t = none) :
    s.faultClear r =
      (s.modTr t (fun x => { x with st := .moving, faultCause := 0, changedAt := s.lnow })).lpResultSet r 0 := by
  subst ht
  refine (if_neg (fun hne => hne hst)).trans ?_
  simp only [hgone]

end

/-! ### Ties (07 R227, 17 R497) -/

theorem tieWrite_range (s : State) (r : Requester) (v : Nat) (hv : v % 512 > 0x100) :
    s.tieWrite r v = s.lpResultSet r 3 :=
  if_pos (Or.inr (by omega))

/-- An entry that unties goes to the hall of the selected port, whatever the number of ties. -/
theorem tieWrite_untie (s : State) (r : Requester) (v p : Nat) (hp : p = s.getSel pgLp 0x078 r % 1024)
    (hres : bits (v % 65536) 15 10 = 0) (hv : v % 512 = 0x100) :
    s.tieWrite r v = s.modHall (hallOf p) (fun h => { h with inq := h.inq ++ [.tie ⟨reqNum r, p, v % 65536⟩] }) := by
  subst hp
  have ht : v % 65536 % 512 = 256 := by omega
  exact (if_neg (by omega)).trans (if_neg (by omega))

section
variable (s : State) (h : Nat) (w : TieWrite) (l : List StairIn) (hq : (s.hall h).inq = .tie w :: l)
include hq

theorem tieIn_barred (hst : (s.port w.port).st ∉ tieStates) :
    s.tieIn h = { s.modHall h (fun x => { x with inq := l }) with lpResult := tabSet s.lpResult w.r 1 } := by
  simp only [State.tieIn, hq]
  exact if_neg (by simpa using hst)

/-- A tie to a transport is stored with its NOTIFY bit, and the changes bound on the port stay. -/
theorem tieIn_tied (hst : (s.port w.port).st ∈ tieStates) (htr : w.entry % 512 < 256) :
    s.tieIn h = { (s.modHall h (fun x => { x with inq := l })).modPort w.port (fun v => { v with
      tie := some (w.entry % 512), notify := bit w.entry 9 }) with lpResult := tabSet s.lpResult w.r 0 } := by
  simp only [State.tieIn, hq, if_pos htr]
  exact if_pos (by simpa using hst)

end

/-- Settles O19: a write that reaches its register, and a tie write that reaches its hall, act by the lemma on their
operation. -/
theorem transportSetupRuns : Obligations.TransportSetupRuns := by
  unfold Obligations.TransportSetupRuns
  refine ⟨?select, ?refused, ?commit, ?notFaulted, ?cleared, ?reload, ?range, ?untie, ?barred, ?tied⟩
  case select =>
    intro s r t hr
    exact congrArg State.done (access17_reaches s _ _ r (·.trSelWrite r t.val) hr)
  case refused =>
    intro s r hr hc
    exact congrArg State.done ((access17_reaches s _ _ r _ hr).trans (commitStage_refused s r hc))
  case commit =>
    intro s r t w hr ht hw hc hen
    exact congrArg State.done ((access17_reaches s _ _ r _ hr).trans (commitStage_good s r t w ht hw hc hen))
  case notFaulted =>
    intro s r hr hst
    exact congrArg State.done ((access17_reaches s _ _ r _ hr).trans (faultClear_notFaulted s r hst))
  case cleared =>
    intro s r t hr ht hst hgone
    exact congrArg State.done ((access17_reaches s _ _ r _ hr).trans (faultClear_gone s r t ht hst hgone))
  case reload =>
    intro s r hr
    exact congrArg State.done (access17_reaches s _ _ r (·.reloadStage r) hr)
  case range =>
    intro s r v hr hv
    exact congrArg State.done ((access17_reaches s _ _ r _ hr).trans (tieWrite_range s r v.toNat hv))
  case untie =>
    intro s r v p hr hp hres hv
    exact congrArg State.done ((access17_reaches s _ _ r _ hr).trans (tieWrite_untie s r v.toNat p hp hres hv))
  case barred =>
    intro s h w l ha hq hst
    exact congrArg State.done ((when_true s _ (·.tieIn h) ha).trans (tieIn_barred s h w l hq hst))
  case tied =>
    intro s h w l ha hq hst htr
    exact congrArg State.done ((when_true s _ (·.tieIn h) ha).trans (tieIn_tied s h w l hq hst htr))

end Sys2Proof.Machine
end

section
/-! SUPPORT. The seal engine (07 R236 to R241): the sheaf timer, recovery, flushes and the seal messages of a host session. -/

namespace Sys2Proof.Machine

/-! ### The sheaf timer, a late sheaf and recovery (07 R236, R238, R240) -/

section
variable (s : State) (t : Nat) (ha : s.alive = true)
include ha

theorem sheafDue_uncovered (a : Nat) (hfirst : (s.tr t).firstAt = some a) :
    s.sheafDue t = (s.toLoft (a + s.sheafMs * 600000)).queueSheaf t 0 := by
  simp only [State.sheafDue, hfirst]
  exact if_pos ha

/-- A waiting job that has not been reported late is reported, and marked. -/
theorem sheafWaits_late (hjob : (s.tr t).job = true) (hnew : (s.tr t).jobLate = false)
    (hq : s.pkeQ.any (fun j => j.tag == .sheaf t) = true) :
    s.sheafWaits t = ((s.toLoft ((s.tr t).jobAt + s.sheafMs * 600000 + 1)).modTr t (fun y => { y with
      jobLate := true })).raise 0x1F 0 :=
  if_pos (by simp only [ha, hjob, hnew, hq, Bool.not_false, Bool.and_self])

/-- With the granary ready, a chain without an open OPEN record and without a job is recovered where records of an earlier start
await their sheaf, and opened where its transport is enabled. -/
theorem sealRecover_ready (hready : s.gran.ready = true) (hopen : (s.tr t).opened = false) (hjob : (s.tr t).job = false)
    (hboot : s.modState ≠ .loftBoot) (hshut : s.modState ≠ .shutter) :
    s.sealRecover t =
      if (s.tr t).needsRec then (s.modTr t (fun y => { y with recovering := true })).queueSheaf t 5
      else if (s.tr t).blk.enabled then s.openChain t (s.tr t).openReason
      else s :=
  if_pos (by simp [ha, hready, hopen, hjob, hboot, hshut])

end

/-! ### SEAL_FLUSH (07 R238) -/

theorem sealFlushReg_one (s : State) (t : Nat) (ht : t < 256) : s.sealFlushReg t = s.queueSheaf t 3 :=
  (if_neg (by omega)).trans (if_pos ht)

theorem sealFlushReg_all (s : State) : s.sealFlushReg 0x100 = each s.chains (fun k u => u.queueSheaf k 3) s :=
  if_pos rfl

/-- Settles O20, each clause by the lemma on its timer, recovery or flush. -/
theorem sheafRuns : Obligations.SheafRuns := by
  unfold Obligations.SheafRuns
  refine ⟨?timer, ?late, ?recovery, ?opening, ?flush, ?flushAll⟩
  case timer =>
    intro s t a ha hfirst
    exact congrArg State.done (sheafDue_uncovered s t ha a hfirst)
  case late =>
    intro s t ha hjob hnew hq
    exact congrArg State.done (sheafWaits_late s t ha hjob hnew hq)
  case recovery =>
    intro s t ha hready hopen hjob hboot hshut hrec
    exact congrArg State.done ((sealRecover_ready s t ha hready hopen hjob hboot hshut).trans (if_pos hrec))
  case opening =>
    intro s t ha hready hopen hjob hboot hshut hrec hen
    exact congrArg State.done ((sealRecover_ready s t ha hready hopen hjob hboot hshut).trans
      ((if_neg (Bool.eq_false_iff.mp hrec)).trans (if_pos hen)))
  case flush =>
    intro s r t hr ht
    exact congrArg State.done ((access17_reaches s _ _ r _ hr).trans (sealFlushReg_one s t.toNat ht))
  case flushAll =>
    intro s r hr
    exact congrArg State.done ((access17_reaches s _ _ r _ hr).trans (sealFlushReg_all s))

/-! ### The seal messages of a host session (07 R241) -/

/-- A reading request of the right form, which any role may make, is taken and answered. -/
theorem serveRead_lenOk (s : State) (x type : Nat) (lenOk : Bool) (ans : State → Bytes) (ho : s.opens x) (hlen : lenOk = true) :
    s.serveRead x type true lenOk ans = (s.taken x type).respond x (s.nextReq x) (ans (s.taken x type)) := by
  rw [hlen, serveRead_taken s x type ans ho]

/-- A SEAL_FLUSH_REQ of an owner is taken, and answered with what its flush answers. -/
theorem exec_sealFlushReq_owner (s : State) (x : SessId) (b : Bytes) (ho : s.opens x) (hown : (s.ses x).eff = 1)
    (hlen : b.length = 2) (htr : trOk b = true) (a : Bytes × State) (ha : (s.taken x 0x27).flushReq (num b 0 2) = a) :
    exec (.sealFlushReq x b) s = .next (a.2.respond x (s.nextReq x) a.1).finish := by
  change (s.serveNow x 0x27 ((s.ses x).eff == 1 || (s.ses x).eff == 2)
    (b.length == 2 && (trOk b || num b 0 2 == 0xFFFF)) (·.flushReq (num b 0 2))).done = _
  simp only [hown, hlen, htr, beq_self_eq_true, Bool.true_or, Bool.and_self, serveNow_taken s x 0x27 _ ho, ha, done_next]

section
variable (s : State) (t : Nat) (hshut : s.modState ≠ .shutter) (hone : t ≠ 65535)
include hshut hone

/-- The answer names the sheaf that covers the newest record once the sheaf is queued. -/
theorem flushReq_queued (hst : (s.tr t).st ≠ .off) :
    s.flushReq t = (le 1 0 ++ le 6 ((s.queueSheaf t 3).tr t).coverNo, s.queueSheaf t 3) :=
  (if_neg hshut).trans ((if_neg hone).trans (if_neg hst))

theorem flushReq_off (hst : (s.tr t).st = .off) : s.flushReq t = (le 1 1 ++ le 6 0, s) :=
  (if_neg hshut).trans ((if_neg hone).trans (if_pos hst))

end

/-- Settles O21: a message of the right form is taken, and answered from the chain or by its flush. -/
theorem sealMessagesRun : Obligations.SealMessagesRun := by
  unfold Obligations.SealMessagesRun
  refine ⟨?status, ?records, ?sheaf, ?flush, ?off⟩
  case status =>
    intro s x b ho hlen htr
    exact congrArg State.done (serveRead_lenOk s x _ _ (·.sealStatusBytes (num b 0 2)) ho (by simp [hlen, htr]))
  case records =>
    intro s x b ho hlen htr hsel hmin hmax
    exact congrArg State.done (serveRead_lenOk s x _ _
      (·.sealRecordsBytes (num b 0 2) (num b 2 1) (num b 3 6) (num b 9 1)) ho (by simp [hlen, htr, hsel, hmin, hmax]))
  case sheaf =>
    intro s x b ho hlen htr
    exact congrArg State.done
      (serveRead_lenOk s x _ _ (·.sealSheafBytes (num b 0 2) (num b 2 6)) ho (by simp [hlen, htr]))
  case flush =>
    rintro s x b t ho hown hlen htr rfl hshut hone hst
    rw [exec_sealFlushReq_owner s x b ho hown hlen htr _ (flushReq_queued _ _ hshut hone hst)]
  case off =>
    rintro s x b t ho hown hlen htr rfl hshut hone hst
    rw [exec_sealFlushReq_owner s x b ho hown hlen htr _ (flushReq_off _ _ hshut hone hst)]

end Sys2Proof.Machine
end

section
/-! SUPPORT. Sideband messages of a platform (07 R221, R235, 08 R260, 12 R373): what each does once it is accepted. -/

namespace Sys2Proof.Machine

/-- A sideband message that is heard and whose first byte is the code of the command is accepted and acts. -/
theorem sbWith_heard (s : State) (p code : Nat) (data : Bytes) (act : State → State) (hh : s.hears p)
    (hcode : num data 0 1 = code) : s.sbWith p code data act = act (s.accept p .vc3 1) :=
  (rxSeq_heard s p .vc3 1 _ hh).trans (if_pos hcode)

/-! ### Position reports (07 R221) -/

theorem posReport_notServed (s : State) (p : Nat) (data : Bytes) (hs : (s.port p).served = false) :
    s.posReport p data = s.refuseReport :=
  if_pos (Or.inr (Or.inl hs))

/-- A whole report of a served port acts on every enabled transport that names the port. -/
theorem posReport_whole (s : State) (p : Nat) (data : Bytes) (hs : (s.port p).served = true) (hfor : s.reportsFor p ≠ [])
    (hmin : 1 ≤ num data 1 1) (hmax : num data 1 1 ≤ 15) (hlen : 4 + 16 * num data 1 1 ≤ data.length) :
    s.posReport p data = each (s.reportsFor p)
      (fun k u => takeReports k ((List.range (num data 1 1)).map (parseReport data)) u) s := by
  refine if_neg ?_
  rintro (hnone | hs' | hlow | hhigh | hshort)
  · exact hfor (List.isEmpty_iff.mp hnone)
  · exact Bool.noConfusion (hs.symm.trans hs')
  · omega
  · omega
  · omega

/-! ### Image reports (07 R235) -/

theorem imageReport_untied (s : State) (p : Nat) (data : Bytes) (htie : (s.port p).tie = none) :
    s.imageReport p data = { s with dropImage := satAdd 16 s.dropImage 1 } := by
  simp only [State.imageReport, htie]

/-- A report for one of the last 256 documents of an open chain makes an IMAGE record. -/
theorem imageReport_recent (s : State) (p : Nat) (data : Bytes) (k : Nat) (htie : (s.port p).tie = some k)
    (hlen : 64 ≤ data.length) (hopen : (s.tr k).opened = true) (hmin : 1 ≤ num data 2 6)
    (hmade : num data 2 6 < (s.tr k).docNo) (hlast : (s.tr k).docNo ≤ num data 2 6 + 256) :
    s.imageReport p data =
      s.sealPut k 4 0 (le 6 (num data 2 6) ++ le 2 p ++ le 2 (num data 8 2) ++ sub data 16 48) := by
  simp only [State.imageReport, htie]
  refine if_neg ?_
  rintro (hshort | hclosed | hlow | hnew | hold)
  · omega
  · exact Bool.noConfusion (hopen.symm.trans hclosed)
  · omega
  · omega
  · omega

/-- Settles O22: a message that is heard is accepted, and acts by the lemma on its report or by its own definition. -/
theorem sidebandRuns : Obligations.SidebandRuns := by
  unfold Obligations.SidebandRuns
  refine ⟨?message, ?notServed, ?position, ?untied, ?image, ?confirm, ?service⟩
  case message =>
    intro s p data hh
    exact congrArg State.done (rxSeq_heard s p .vc3 1 (·.sideband p data) hh)
  case notServed =>
    rintro s p data t hh hcode rfl hs
    exact congrArg State.done ((sbWith_heard s p _ data _ hh hcode).trans (posReport_notServed _ p data hs))
  case position =>
    rintro s p data t hh hcode rfl hs hfor hmin hmax hlen
    exact congrArg State.done
      ((sbWith_heard s p _ data _ hh hcode).trans (posReport_whole _ p data hs hfor hmin hmax hlen))
  case untied =>
    rintro s p data t hh hcode rfl htie
    exact congrArg State.done ((sbWith_heard s p _ data _ hh hcode).trans (imageReport_untied _ p data htie))
  case image =>
    rintro s p data t k hh hcode rfl htie hlen hopen hmin hmade hlast
    exact congrArg State.done ((sbWith_heard s p _ data _ hh hcode).trans
      (imageReport_recent _ p data k htie hlen hopen hmin hmade hlast))
  case confirm =>
    rintro s p data t hh hcode rfl
    exact congrArg State.done (sbWith_heard s p _ data (·.confirmMsg p data) hh hcode)
  case service =>
    intro s p data hh hcode
    exact congrArg State.done (sbWith_heard s p _ data (·.pwdServe p data) hh hcode)

end Sys2Proof.Machine
end

section
/-! SUPPORT. Staged images (08 R246 to R249, R272): what each message of a session answers or begins, the tree of a closing image, and
the barn's write of the revert copies. -/

namespace Sys2Proof.Machine

/-! ### A request in its session's rights and of its length (14 R426) -/

section
variable (s : State) (x type : Nat) {right lenOk : Bool} (ho : s.opens x) (hright : right = true) (hlen : lenOk = true)
include ho hright hlen

theorem serveNow_answers (act : State → Bytes × State) (a : Bytes) (u : State) (hact : act (s.taken x type) = (a, u)) :
    s.serveNow x type right lenOk act = u.respond x (s.nextReq x) a := by
  rw [hright, hlen, serveNow_taken s x type act ho, hact]

section
variable (act : Nat → State → Option Bytes × State) (u : State)

theorem serve_answers (a : Bytes) (hact : act (s.nextReq x) (s.taken x type) = (some a, u)) :
    s.serve x type right lenOk act = u.respond x (s.nextReq x) a := by
  rw [hright, hlen, serve_taken s x type act ho, hact]

/-- A request whose answer comes later only leaves what it has begun. -/
theorem serve_waits (hact : act (s.nextReq x) (s.taken x type) = (none, u)) : s.serve x type right lenOk act = u := by
  rw [hright, hlen, serve_taken s x type act ho, hact]

end

end

/-! ### STAGE_BLOCK (08 R248) -/

section
variable (s : State) (x seq : Nat) (b : Bytes) (g : Image) (hbar : s.stagingBarred = false)
  (himage : s.image (num b 0 2) = some g) (hno : num b 2 4 < g.blockCount)
  (hsize : (b.drop 10).length = g.blockLen (num b 2 4))
include hbar himage hno hsize

/-- A block whose data does not have the CRC it states raises the barn's source 0 and is not kept. -/
theorem stageBlockBody_crcDiffers (hcrc : (crc32c (b.drop 10)).toNat ≠ num b 6 4) :
    s.stageBlockBody x seq b = (some ((s.raise pgBarn 0).stageAnswer 1 (num b 0 2)), s.raise pgBarn 0) := by
  have hplace : ¬ (g.blockCount ≤ num b 2 4 ∨ (b.drop 10).length ≠ g.blockLen (num b 2 4)) := by omega
  simp only [State.stageBlockBody, hbar, himage, if_neg hplace, if_pos hcrc]
  rfl

/-- A good block that the image does not hold yet is placed for the barn: its OK waits until it is durable. -/
theorem stageBlockBody_new (hcrc : (crc32c (b.drop 10)).toNat = num b 6 4) (hnew : tabFind g.blocks (num b 2 4) = none)
    (hst : g.st = 1) :
    s.stageBlockBody x seq b = (none,
      { s.modImage (num b 0 2) (fun i => { i with blocks := tabSet i.blocks (num b 2 4) (b.drop 10) }) with
        barnQ := s.barnQ ++ [.block (num b 0 2) (num b 2 4) x seq] }) := by
  have hplace : ¬ (g.blockCount ≤ num b 2 4 ∨ (b.drop 10).length ≠ g.blockLen (num b 2 4)) := by omega
  have hopen : ¬ g.st = 5 := by omega
  simp only [State.stageBlockBody, hbar, himage, if_neg hplace, if_neg (not_not_intro hcrc), hnew, if_neg hopen,
    if_neg (not_not_intro hst)]
  rfl

end

/-! ### STAGE_STATUS, STAGE_CLOSE and the tree (08 R249, R272) -/

section
variable (s : State) (x : SessId) (b : Bytes) (ho : s.opens x) (hlen : b.length = 2)
include ho hlen

theorem exec_stageStatus_unknown (hnone : (s.taken x 0x12).image (num b 0 2) = none) :
    exec (.stageStatus x b) s = .next
      (((s.taken x 0x12).failBody 4 57).2.respond x (s.nextReq x) ((s.taken x 0x12).failBody 4 57).1).finish :=
  congrArg State.done (serveNow_answers s x 0x12 ho rfl (beq_iff_eq.mpr hlen) _ _ _ (by simp only [hnone]))

theorem exec_stageStatus_held (g : Image) (hsome : (s.taken x 0x12).image (num b 0 2) = some g) :
    exec (.stageStatus x b) s = .next ((s.taken x 0x12).respond x (s.nextReq x) (le 1 0 ++ le 1 g.st ++
      le 4 ((s.taken x 0x12).heldCount (num b 0 2) g) ++ le 4 ((s.taken x 0x12).missingBlock (num b 0 2) g) ++
      if g.st = 1 then zeros 48 else sub (g.root ++ zeros 48) 0 48)).finish :=
  congrArg State.done (serveNow_answers s x 0x12 ho rfl (beq_iff_eq.mpr hlen) _ _ _ (by simp only [hsome]))

end

/-- With every block durable, an image in RECEIVING starts to close; its request waits for the CLOSE record. -/
theorem stageCloseBody_full (s : State) (x seq : Nat) (b : Bytes) (g : Image) (hbar : s.stagingBarred = false)
    (himage : s.image (num b 0 2) = some g) (hst : g.st = 1) (hclosing : g.closing = none)
    (hfull : s.missingBlock (num b 0 2) g = 0xFFFFFFFF) :
    s.stageCloseBody x seq b = (none, s.modImage (num b 0 2) (fun i => { i with closing := some (x, seq) })) := by
  simp [State.stageCloseBody, hbar, himage, hst, hclosing, hfull]

theorem treeComputed_closing (s : State) (k : Nat) (g : Image) (ha : s.alive = true) (himage : s.image k = some g)
    (hclosing : g.closing ≠ none) (hleaves : g.leaves = []) (ls : Tab Bytes)
    (hls : ls = (List.range g.blockCount).map (fun i => (i, leafDigest i (g.leaf i)))) :
    s.treeComputed k =
      { s.modImage k (fun i => { i with leaves := ls, root := treeRoot (ls.map (·.2)) }) with
        barnQ := s.barnQ ++ [.imageClose k] } := by
  subst hls
  simp only [State.treeComputed, himage]
  exact if_pos (by simp [ha, Option.isSome_iff_ne_none.mpr hclosing, hleaves])

/-! ### STAGE_DISCARD (08 R272) -/

theorem stageDiscardBody_unknown (s : State) (b : Bytes) (hnone : s.image (num b 0 2) = none) :
    s.stageDiscardBody b = (le 1 4, s) := by
  simp only [State.stageDiscardBody, hnone]

/-- An image that no activation uses and nothing waits for is freed, and nothing else changes. -/
theorem stageDiscardBody_idle (s : State) (b : Bytes) (g : Image) (himage : s.image (num b 0 2) = some g) (hready : g.st ≠ 3)
    (huse : g.st ≠ 4) (hclosing : g.closing = none) (hidle : s.barnQ = []) :
    s.stageDiscardBody b = (le 1 0, { s with images := tabDel s.images (num b 0 2) }) := by
  simp [State.stageDiscardBody, himage, hready, huse, hclosing, hidle, each]

/-! ### The barn (08 R256, 15 R463) -/

/-- A source that is raised touches neither the module state nor the Loft's reset. -/
@[simp] theorem raise_alive (s : State) (page bit synd : Nat) : (s.raise page bit synd).alive = s.alive := by
  simp only [State.raise, State.raiseE, State.post]
  split <;> rfl

theorem barnWear_alive (s : State) : s.barnWear.alive = s.alive := by
  simp only [State.barnWear, State.when]
  split
  · exact raise_alive _ pgPwr 6 0
  · rfl

theorem barnDurable_revertCopies (s : State) (l : List BarnWrite) (ha : s.alive = true) (hq : s.barnQ = .revertCopies :: l) :
    s.barnDurable = { s with barnQ := l, act := { s.act with durable := true } } := by
  simp only [State.barnDurable, hq, ha]
  rfl

/-- Settles O23: a message in its session's rights and of its length is taken, and answered or begun by the lemma on its body. -/
theorem stagingRuns : Obligations.StagingRuns := by
  unfold Obligations.StagingRuns
  refine ⟨?opening, ?placed, ?crc, ?unknown, ?status, ?close, ?tree, ?discardUnknown, ?discard, ?list, ?durable⟩
  case opening =>
    intro s x b ho hrole hlen
    exact congrArg State.done (serveNow_answers s x 0x10 ho hrole (beq_iff_eq.mpr hlen) (·.stageOpenBody b) _ _ rfl)
  case placed =>
    rintro s x b t g ho hrole hmin hmax rfl hbar himage hno hsize hcrc hnew hst
    exact congrArg State.done (serve_waits s x 0x11 ho hrole (by simp [hmin, hmax]) (fun seq t => t.stageBlockBody x seq b) _
      (stageBlockBody_new _ x _ b g hbar himage hno hsize hcrc hnew hst))
  case crc =>
    rintro s x b t g ho hrole hmin hmax rfl hbar himage hno hsize hcrc
    exact congrArg State.done (serve_answers s x 0x11 ho hrole (by simp [hmin, hmax]) (fun seq t => t.stageBlockBody x seq b) _ _
      (stageBlockBody_crcDiffers _ x _ b g hbar himage hno hsize hcrc))
  case unknown =>
    exact exec_stageStatus_unknown
  case status =>
    rintro s x b t g ho hlen rfl hsome
    exact exec_stageStatus_held s x b ho hlen g hsome
  case close =>
    rintro s x b t g ho hrole hlen rfl hbar himage hst hclosing hfull
    exact congrArg State.done (serve_waits s x 0x13 ho hrole (beq_iff_eq.mpr hlen) (fun seq t => t.stageCloseBody x seq b) _
      (stageCloseBody_full _ x _ b g hbar himage hst hclosing hfull))
  case tree =>
    intro s k g ls ha himage hclosing hleaves hls
    exact congrArg State.done (treeComputed_closing s k g ha himage hclosing hleaves ls hls)
  case discardUnknown =>
    intro s x b ho hrole hlen hnone
    exact congrArg State.done (serveNow_answers s x 0x14 ho hrole (beq_iff_eq.mpr hlen) (·.stageDiscardBody b) _ _
      (stageDiscardBody_unknown _ b hnone))
  case discard =>
    rintro s x b t g ho hrole hlen rfl himage hready huse hclosing hidle
    exact congrArg State.done (serveNow_answers s x 0x14 ho hrole (beq_iff_eq.mpr hlen) (·.stageDiscardBody b) _ _
      (stageDiscardBody_idle _ b g himage hready huse hclosing hidle))
  case list =>
    intro s x b ho hlen hmin hmax
    exact congrArg State.done (serveRead_lenOk s x 0x15 _ (·.stageListBytes (num b 0 2) (num b 2 1)) ho
      (by simp [hlen, hmin, hmax]))
  case durable =>
    rintro s l t ha rfl hq
    exact congrArg State.done ((congrArg State.barnDurable (when_true s _ (·.barnWear) ha)).trans
      (barnDurable_revertCopies _ l ((barnWear_alive s).trans ha) hq))

end Sys2Proof.Machine
end

section
/-! SUPPORT. Manifests (08 R250 to R254, R273): what each message of a session answers, and the check or activation that it begins. -/

namespace Sys2Proof.Machine

/-! ### MANIFEST_LOAD, MANIFEST_DISCARD (08 R250) -/

/-- Part 0 of a manifest empties its slot first: the slot then holds this part alone. -/
theorem manifestLoadBody_first (s : State) (b : Bytes) (hslot : num b 0 1 < 4) (hfree : s.slotBusy (num b 0 1) = false)
    (hidle : (s.manSlot (num b 0 1)).checking = []) (hfirst : num b 4 4 = 0) (hmax : b.length ≤ 4104) :
    s.manifestLoadBody b = (le 1 0 ++ le 4 (b.drop 8).length,
      s.modMan (num b 0 1) (fun _ => { bytes := b.drop 8, complete := bit (num b 1 1) 0 })) := by
  have hfits : ¬ 32768 < (b.drop 8).length := by
    rw [List.length_drop]
    omega
  simp [-List.length_drop, State.manifestLoadBody, Nat.not_le_of_lt hslot, hfree, hidle, hfirst, hfits]

theorem manifestDiscardBody_idle (s : State) (k : Nat) (hfree : s.slotBusy k = false) (hidle : (s.manSlot k).checking = []) :
    s.manifestDiscardBody k = (le 1 0, s.modMan k (fun _ => {})) := by
  simp [State.manifestDiscardBody, hfree, hidle]

/-! ### MANIFEST_CHECK (08 R251, R252) -/

section
variable (s : State) (x seq k : Nat) (hidle : (s.manSlot k).checking = [])
include hidle

/-- A slot whose last part has not come fails check 1. -/
theorem manifestCheck_incomplete (hpart : (s.manSlot k).complete = false) :
    s.manifestCheck x seq k = s.checkEnds k (1, 0xFF) [(x, seq)] := by
  simp [State.manifestCheck, hidle, hpart]

/-- A whole manifest that passes checks 1 to 3 waits for the result of its signature job. -/
theorem manifestCheck_early (hwhole : (s.manSlot k).complete = true) (hearly : s.checkEarly (s.manSlot k).bytes = 0) :
    s.manifestCheck x seq k = (s.modMan k (fun u => { u with checking := [(x, seq)] })).queueJob
      (manifestJob 3 (.manifest k) (s.manSlot k).bytes) := by
  simp [State.manifestCheck, hidle, hwhole, hearly]

end

/-! ### MANIFEST_ACTIVATE (08 R253) -/

/-- An activation that a check bars raises the barn's source 1 and begins nothing. -/
theorem manifestActivateBody_barred (s : State) (k : Nat) (hbar : (s.activateResult k).1 ≠ 0) :
    s.manifestActivateBody k = (le 1 (s.activateResult k).1 ++ le 1 (s.activateResult k).2 ++ le 4 (s.raise pgBarn 1).act.no,
      s.raise pgBarn 1) :=
  if_pos hbar

/-- An activation that passes begins by the kind of its parts, and is answered with its number. -/
theorem manifestActivateBody_passes (s : State) (k : Nat) (hpass : (s.activateResult k).1 = 0) (u : State)
    (hu : (if (mParts (s.manSlot k).bytes).any (fun x => pKind x == 2) then s.beginWarden k (s.manSlot k).bytes
      else s.beginGuarded k (s.manSlot k).bytes) = u) :
    s.manifestActivateBody k = (le 1 0 ++ le 1 0xFF ++ le 4 u.act.no, u) := by
  subst hu
  exact if_neg (not_not_intro hpass)

/-! ### MANIFEST_CANCEL (08 R254, R268) -/

theorem manifestCancelBody_closed (s : State) (no : Nat) (hnone : s.act.opened = false) :
    s.manifestCancelBody no = (le 1 6 ++ le 1 s.act.stage, s) :=
  if_pos (Or.inl (by simp [hnone]))

/-- The open activation of the number, short of its revert, is cancelled by its kind. -/
theorem manifestCancelBody_open (s : State) (no : Nat) (hopen : s.act.opened = true) (hno : s.act.no = no)
    (hstage : s.act.stage ≠ 5) :
    s.manifestCancelBody no =
      (le 1 0 ++ le 1 s.act.stage, if s.act.kind = 1 then s.cancelWarden else s.actFails 1 0xFFFF) :=
  if_neg (by simp [hopen, hno, hstage])

/-- Settles O24: a message in its session's rights and of its length is taken, and answered or begun by the lemma on its body. -/
theorem manifestRuns : Obligations.ManifestRuns := by
  unfold Obligations.ManifestRuns
  refine ⟨?load, ?incomplete, ?queued, ?barred, ?guarded, ?warden, ?status, ?closed, ?cancel, ?cancelWarden, ?history, ?discard⟩
  case load =>
    rintro s x b t ho hrole hmin hmax rfl hslot hfree hidle hfirst
    exact congrArg State.done (serveNow_answers s x 0x18 ho hrole (by simp [hmin, hmax]) (·.manifestLoadBody b) _ _
      (manifestLoadBody_first _ b hslot hfree hidle hfirst hmax))
  case incomplete =>
    rintro s x b k t ho hrole hlen hslot rfl rfl hidle hpart
    exact congrArg State.done (serve_waits s x 0x19 ho hrole (by simp [hlen, hslot])
      (fun seq t => (none, t.manifestCheck x seq (num b 0 1))) _
      (congrArg (Prod.mk none) (manifestCheck_incomplete _ x _ _ hidle hpart)))
  case queued =>
    rintro s x b k t ho hrole hlen hslot rfl rfl hidle hwhole hearly
    exact congrArg State.done (serve_waits s x 0x19 ho hrole (by simp [hlen, hslot])
      (fun seq t => (none, t.manifestCheck x seq (num b 0 1))) _
      (congrArg (Prod.mk none) (manifestCheck_early _ x _ _ hidle hwhole hearly)))
  case barred =>
    rintro s x b t ho hown hlen hslot rfl hbar
    exact congrArg State.done (serveNow_answers s x 0x1A ho hown (by simp [hlen, hslot]) (·.manifestActivateBody (num b 0 1)) _ _
      (manifestActivateBody_barred _ _ hbar))
  case guarded =>
    rintro s x b t u ho hown hlen hslot rfl hpass hkind rfl
    exact congrArg State.done (serveNow_answers s x 0x1A ho hown (by simp [hlen, hslot]) (·.manifestActivateBody (num b 0 1)) _ _
      (manifestActivateBody_passes _ _ hpass _ (if_neg (Bool.eq_false_iff.mp hkind))))
  case warden =>
    rintro s x b t u ho hown hlen hslot rfl hpass hkind rfl
    exact congrArg State.done (serveNow_answers s x 0x1A ho hown (by simp [hlen, hslot]) (·.manifestActivateBody (num b 0 1)) _ _
      (manifestActivateBody_passes _ _ hpass _ (if_pos hkind)))
  case status =>
    intro s x ho
    exact congrArg State.done (serveRead_lenOk s x 0x1B _ (·.manifestStatusBytes) ho rfl)
  case closed =>
    rintro s x b t ho hown hlen rfl hnone
    exact congrArg State.done (serveNow_answers s x 0x1C ho hown (beq_iff_eq.mpr hlen) (·.manifestCancelBody (num b 0 4)) _ _
      (manifestCancelBody_closed _ _ hnone))
  case cancel =>
    rintro s x b t ho hown hlen rfl hopen hno hstage hkind
    exact congrArg State.done (serveNow_answers s x 0x1C ho hown (beq_iff_eq.mpr hlen) (·.manifestCancelBody (num b 0 4)) _ _
      ((manifestCancelBody_open _ _ hopen hno hstage).trans (congrArg (Prod.mk _) (if_neg hkind))))
  case cancelWarden =>
    rintro s x b t ho hown hlen rfl hopen hno hstage hkind
    exact congrArg State.done (serveNow_answers s x 0x1C ho hown (beq_iff_eq.mpr hlen) (·.manifestCancelBody (num b 0 4)) _ _
      ((manifestCancelBody_open _ _ hopen hno hstage).trans (congrArg (Prod.mk _) (if_pos hkind))))
  case history =>
    intro s x b ho hlen hmin hmax
    exact congrArg State.done (serveRead_lenOk s x 0x1D _ (·.manifestHistoryBytes (num b 0 8) (num b 8 1)) ho
      (by simp [hlen, hmin, hmax]))
  case discard =>
    rintro s x b t ho hrole hlen hslot rfl hfree hidle
    exact congrArg State.done (serveNow_answers s x 0x1E ho hrole (by simp [hlen, hslot]) (·.manifestDiscardBody (num b 0 1)) _ _
      (manifestDiscardBody_idle _ _ hfree hidle))

end Sys2Proof.Machine
end

section
/-! SUPPORT. Activations (08 R255 to R268, R274): the drain, the copies and the confirm windows of a guarded one, and the steps by which
the warden hands over to its new image and back. -/

namespace Sys2Proof.Machine

/-! ### Guarded activations (08 R256 to R260) -/

section
variable (s : State) (ha : s.alive = true) (hopen : s.act.opened = true)
include ha hopen

section
variable (hkind : s.act.kind = 0) (hstage : s.act.stage = 1)
include hkind hstage

/-- Once every changed port is drained its revert copy is saved, and the copies are placed for the barn. -/
theorem drainDone_drained (hsaved : s.act.saved = false)
    (hports : s.act.changed.all (fun p => (s.port p).drained && (s.port p).tree.resident) = true) :
    s.drainDone = { (each s.act.changed (fun p t => t.saveCopy p) s).modAct (fun y => { y with saved := true }) with
      barnQ := s.barnQ ++ [.revertCopies] } :=
  (if_neg (by simp [ha, hopen, hkind])).trans ((if_pos (by simp [hstage, hsaved])).trans (if_pos hports))

/-- Once the revert copies are durable every changed port starts its copy. -/
theorem copyBegins_durable (hsaved : s.act.saved = true) (hdur : s.act.durable = true) (hports : s.act.changed ≠ []) :
    s.copyBegins = each s.act.changed (fun p t => t.startCopy p false)
      ((s.ulogPut 0x42 (le 4 s.copiesSaved)).modAct (fun y => { y with stage := 2 })) :=
  (if_pos (by simp [ha, hopen, hkind, hstage, hsaved, hdur])).trans (if_neg hports)

end

theorem confirmExpires_confirming (p : Nat) (w : Window) (hstage : s.act.stage = 4) (hwin : (s.port p).upd.confWin = some w) :
    s.confirmExpires p = ((s.toLoft (w.dl + 1)).raiseP pgBarn 3 p).actFails 4 p := by
  simp only [State.confirmExpires, hwin]
  exact if_pos (by simp [ha, hopen, hstage])

end

/-- Settles O25, each clause by the lemma on its stage of the activation. -/
theorem guardedActivationRuns : Obligations.GuardedActivationRuns := by
  unfold Obligations.GuardedActivationRuns
  refine ⟨?drained, ?copies, ?window⟩
  case drained =>
    intro s ha hopen hkind hstage hsaved hports
    exact congrArg State.done (drainDone_drained s ha hopen hkind hstage hsaved hports)
  case copies =>
    intro s ha hopen hkind hstage hsaved hdur hports
    exact congrArg State.done (copyBegins_durable s ha hopen hkind hstage hsaved hdur hports)
  case window =>
    intro s p w ha hopen hstage hwin
    exact congrArg State.done (confirmExpires_confirming s ha hopen p w hstage hwin)

/-! ### What LOAD_STANDBY is (08 R266 step 2) -/

theorem exec_loadStandby (s : State) (l : Landing) (key : BitVec 16) :
    exec (.loadStandby l key) s = .next (s.loadStandby l key).finish := rfl

/-! ### The new warden's slot (08 R264, R266 step 1) -/

section
variable (s : State) (ha : s.alive = true)
include ha

section
variable (hopen : s.act.opened = true)
include hopen

section
variable (back : Bytes) (hkind : s.act.kind = 1) (hstage : s.act.stage = 6) (hresume : s.act.resume = false)
include hkind hstage hresume

/-- What the end of step 1 does to a slot being written: the image read back decides between the load and the end of the activation. -/
theorem slotWritten_writing :
    s.slotWritten back =
      if (s.findImage 2 (pImage (mPart s.act.man 0)) (pVersion (mPart s.act.man 0))).isSome &&
        back.length == pLength (mPart s.act.man 0) && imageRoot back == pRoot (mPart s.act.man 0) then
        (({ s with wslots := tabSet s.wslots s.act.newSlot back } : State).wdnStep 0 s.loft.active s.act.newSlot).modAct
          (fun y => { y with stage := 7, resume := false })
      else ({ s with wslots := tabSet s.wslots s.act.newSlot back } : State).wdnAbandon 8 :=
  if_pos (by simp [ha, hopen, hkind, hstage, hresume])

theorem slotWritten_otherRoot (hroot : imageRoot back ≠ pRoot (mPart s.act.man 0)) :
    s.slotWritten back = ({ s with wslots := tabSet s.wslots s.act.newSlot back } : State).wdnAbandon 8 :=
  (slotWritten_writing s ha hopen back hkind hstage hresume).trans (if_neg (by simp [hroot]))

theorem slotWritten_whole
    (hstaged : (s.findImage 2 (pImage (mPart s.act.man 0)) (pVersion (mPart s.act.man 0))).isSome = true)
    (hlen : back.length = pLength (mPart s.act.man 0)) (hroot : imageRoot back = pRoot (mPart s.act.man 0)) :
    s.slotWritten back =
      (({ s with wslots := tabSet s.wslots s.act.newSlot back } : State).wdnStep 0 s.loft.active s.act.newSlot).modAct
        (fun y => { y with stage := 7, resume := false }) :=
  (slotWritten_writing s ha hopen back hkind hstage hresume).trans (if_pos (by simp [hstaged, hlen, hroot]))

end

/-- No READY within its 10 s abandons the activation. -/
theorem readyTimeout_loading (d : Nat) (hdl : s.act.readyDl = some d) (hstage : s.act.stage = 7) :
    s.readyTimeout = (s.toLoft (d + 1)).wdnAbandon 8 := by
  simp only [State.readyTimeout, hdl]
  exact if_pos (by simp [ha, hopen, hstage])

end

/-! ### The commands of BRN_WDN_CMD (08 R266, R274) -/

theorem wdnCmd_wrongKey (key : BitVec 16) (ok : Bool) (act : State → State) (hkey : key ≠ 0x7E81) :
    s.wdnCmd key ok act = s.accErr pgBarn wdnCmdOff 4 .warden :=
  (if_neg (by simp [ha])).trans (if_pos hkey)

/-- A command with the key acts where its conditions hold. -/
theorem wdnCmd_accepted (ok : Bool) (act : State → State) (hok : ok = true) : s.wdnCmd 0x7E81 ok act = act s :=
  (if_neg (by simp [ha])).trans ((if_neg (not_not_intro rfl)).trans (if_neg (by simp [hok])))

/-! ### LOAD_STANDBY, READY, HAND_OVER (08 R266) -/

section
variable (l : Landing)

section
variable (hsrc : s.fromActive l = true) (htrial : s.retained.trial = false) (hopen : s.act.opened = true)
  (hstage : s.act.stage = 7)
include hsrc htrial hopen hstage

/-- A slot that passes the load path releases the standby landing, whose READY must come within 10 s. -/
theorem loadStandby_passes (hfree : s.loft.landing (1 - s.loft.active) = 0) (hload : s.loadPathOk = true) :
    s.loadStandby l 0x7E81 = (s.modLoft (fun f => f.land (1 - s.loft.active) 2)).modAct (fun a => { a with
      readyDl := some (mkWin s.lnow 6000000000).dl, standbyReady := false }) := by
  rw [State.loadStandby, wdnCmd_accepted s ha _ _ (by simp [hsrc, htrial, hopen, hstage, hfree])]
  simp only [hload, if_true]

theorem handOverCmd_ready (hready : s.act.standbyReady = true) : s.handOverCmd l 0x7E81 = s.handOver :=
  wdnCmd_accepted s ha _ _ (by simp [hsrc, htrial, hopen, hstage, hready])

end

/-- READY within its window is not preceded by the time-out. -/
theorem standbyReadyCmd_inTime (d : Nat) (hdl : s.act.readyDl = some d) (htime : s.lnow ≤ d) (hsrc : s.fromStandby l = true) :
    s.standbyReadyCmd l 0x7E81 = (s.wdnStep 1 (landNum l) s.act.newSlot).modAct (fun a => { a with
      standbyReady := true, readyDl := none }) := by
  simp only [State.standbyReadyCmd, hdl, if_neg (Nat.not_lt.mpr htime)]
  exact wdnCmd_accepted s ha _ _ (by simp [hsrc])

/-! ### The trial (08 R268) -/

section
variable (w : Window) (hwin : s.act.trialWin = some w) (hin : s.inTrial = true)
include hwin hin

theorem trialExpires_inTrial : s.trialExpires = (s.toLoft (w.dl + 1)).forcedFallback 4 := by
  simp only [State.trialExpires, hwin]
  exact if_pos (by simp [ha, hin])

section
variable (htime : s.lnow ≤ w.dl) (hsrc : s.fromActive l = true) (htrial : s.retained.trial = true)
include htime hsrc htrial

/-- A command of the trial within its window acts on the state as it is. -/
theorem wdnCmd_inTrial (act : State → State) :
    s.trialFirst.wdnCmd 0x7E81 (s.trialFirst.fromActive l && s.trialFirst.retained.trial && s.trialFirst.inTrial) act = act s := by
  have hfirst : s.trialFirst = s := by simp only [State.trialFirst, hwin, if_neg (Nat.not_lt.mpr htime)]
  rw [hfirst]
  exact wdnCmd_accepted s ha _ _ (by simp [hsrc, htrial, hin])

end

end

end

end

/-- Settles O26, each clause by the lemma on its step or its command. -/
theorem wardenActivationRuns : Obligations.WardenActivationRuns := by
  unfold Obligations.WardenActivationRuns
  refine ⟨?otherRoot, ?written, ?load, ?key, ?ready, ?timeout, ?handOver, ?trialEnd, ?confirm, ?handBack⟩
  case otherRoot =>
    intro s back ha hopen hkind hstage hresume hroot
    exact congrArg State.done (slotWritten_otherRoot s ha hopen back hkind hstage hresume hroot)
  case written =>
    rintro s back x t ha hopen hkind hstage hresume rfl rfl hstaged hlen hroot
    exact congrArg State.done (slotWritten_whole s ha hopen back hkind hstage hresume hstaged hlen hroot)
  case load =>
    intro s l ha hsrc htrial hopen hstage hfree hload
    rw [exec_loadStandby, loadStandby_passes s ha l hsrc htrial hopen hstage hfree hload]
  case key =>
    intro s l key ha hkey
    rw [exec_loadStandby, State.loadStandby, wdnCmd_wrongKey s ha key _ _ hkey, wdnCmdOff]
  case ready =>
    intro s l d ha hdl htime hsrc
    exact congrArg State.done (standbyReadyCmd_inTime s ha l d hdl htime hsrc)
  case timeout =>
    intro s d ha hdl hopen hstage
    exact congrArg State.done (readyTimeout_loading s ha hopen d hdl hstage)
  case handOver =>
    intro s l ha hsrc htrial hopen hstage hready
    exact congrArg State.done (handOverCmd_ready s ha l hsrc htrial hopen hstage hready)
  case trialEnd =>
    intro s w ha hwin hin
    exact congrArg State.done (trialExpires_inTrial s ha w hwin hin)
  case confirm =>
    intro s l w ha hwin htime hsrc htrial hin
    exact congrArg State.done (wdnCmd_inTrial s ha l w hwin hin htime hsrc htrial (·.wdnConfirmed))
  case handBack =>
    intro s l w ha hwin htime hsrc htrial hin
    exact congrArg State.done (wdnCmd_inTrial s ha l w hwin hin htime hsrc htrial (·.handBack))

end Sys2Proof.Machine
end

section
/-! SUPPORT. Keys (09): the Owner's key operations and the epoch roll, attestation, and the granary's commands of the warden. -/

namespace Sys2Proof.Machine

/-! ### A KEY_OP of the Owner (09 R290) -/

/-- A key operation that passes its checks acts at once and answers OK from the state it leaves. -/
theorem keyOpNow_ok (s : State) (code : Nat) (act : State → State) (stale : Bool) (hcode : code = 0) :
    s.keyOpNow code act stale = (some ((act s).keyResp 0 stale), act s) :=
  if_pos hcode

theorem keyOpNow_refused (s : State) (code : Nat) (act : State → State) (stale : Bool) (hcode : code ≠ 0) :
    s.keyOpNow code act stale = (some (s.keyResp code), s) :=
  if_neg hcode

section
variable (s : State) (x op : Nat) (b : Bytes) (ho : s.opens x) (hown : ((s.ses x).eff == 1) = true) (hb : keyBody op b)
include ho hown hb

section
variable (act : Nat → State → Option Bytes × State) (u : State)

theorem keyOp_answers (a : Bytes) (hact : act (s.nextReq x) (s.taken x 0x23) = (some a, u)) :
    s.keyOp x op b act = u.respond x (s.nextReq x) a := by
  rw [keyOp_taken s x op b act ho hown hb, hact]

/-- A key operation whose answer comes later only leaves what it has begun. -/
theorem keyOp_waits (hact : act (s.nextReq x) (s.taken x 0x23) = (none, u)) : s.keyOp x op b act = u := by
  rw [keyOp_taken s x op b act ho hown hb, hact]

end

section
variable (code : State → Nat) (act : State → State) (stale : State → Bool)

theorem keyOp_ok (hcode : code (s.taken x 0x23) = 0) :
    s.keyOp x op b (fun _ t => t.keyOpNow (code t) act (stale t)) =
      (act (s.taken x 0x23)).respond x (s.nextReq x) ((act (s.taken x 0x23)).keyResp 0 (stale (s.taken x 0x23))) :=
  keyOp_answers s x op b ho hown hb _ _ _ (keyOpNow_ok _ _ act _ hcode)

theorem keyOp_refused (hcode : code (s.taken x 0x23) ≠ 0) :
    s.keyOp x op b (fun _ t => t.keyOpNow (code t) act (stale t)) =
      (s.taken x 0x23).respond x (s.nextReq x) ((s.taken x 0x23).keyResp (code (s.taken x 0x23))) :=
  keyOp_answers s x op b ho hown hb _ _ _ (keyOpNow_refused _ _ act _ hcode)

end

end

/-! ### The epoch roll (09 R296, R297) -/

section
variable (s : State) (x seq : Nat) (hbar : s.keyOpBar = 0)
include hbar

theorem epochRoll_locked (hlock : s.otp.locked 15 = true) : s.epochRoll x seq = (some (s.keyResp 8), s) :=
  (if_neg (not_not_intro hbar)).trans (if_pos hlock)

/-- With a free bit, and no earlier roll to answer, the roll is prepared and its answer waits for the new epoch. -/
theorem epochRoll_free (i : Nat) (hlock : s.otp.locked 15 = false) (hbit : s.otp.nextEpochBit = some i)
    (hroll : s.gran.rollTo = none) :
    s.epochRoll x seq = (none, ({ (s.prepare 3 0 0xFFFF 0 0 []).modGran (fun g => { g with
      opOpen := some 3, burnBit := i, rollTo := some (x, seq) }) with kOpen := some s.epoch } : State)) := by
  simp only [State.epochRoll, if_neg (not_not_intro hbar), hlock, hbit, hroll]
  rfl

end

/-- A burn that succeeds while records can still be placed commits the roll. -/
theorem epochBurned_committed (s : State) (ha : s.alive = true) (hopen : s.kOpen.isNone = false)
    (hop : s.gran.opOpen = some 3) (hrun : s.otp.run = none) (hflush : s.pastFlush = false) :
    s.epochBurned true =
      (s.modOtp (fun o => (o.burnEpoch s.gran.burnBit true true).reread (174 + s.gran.burnBit / 20))).rollCommit false :=
  (if_neg (by simp [ha, hopen, hop, hrun])).trans ((if_neg (by simp [hflush])).trans (if_pos rfl))

/-- Settles O27: a key operation is taken, and answers by its code; the roll and the end of its burn by their lemmas. -/
theorem keyOperationsRun : Obligations.KeyOperationsRun := by
  unfold Obligations.KeyOperationsRun
  refine ⟨?set, ?setRefused, ?clear, ?rollLocked, ?roll, ?burned, ?tapSet, ?promote, ?tapClear⟩
  case set =>
    rintro s x b t ho hown hb rfl hcode
    exact congrArg State.done (keyOp_ok s x 1 b ho hown hb (·.setCode b) (·.setKey (koSlot b) (koKey b)) _ hcode)
  case setRefused =>
    rintro s x b t ho hown hb rfl hcode
    exact congrArg State.done (keyOp_refused s x 1 b ho hown hb (·.setCode b) (·.setKey (koSlot b) (koKey b)) _ hcode)
  case clear =>
    rintro s x b t ho hown hb rfl hcode
    exact congrArg State.done (keyOp_ok s x 2 b ho hown hb (·.clearCode b) (·.clearKey (koSlot b)) _ hcode)
  case rollLocked =>
    rintro s x b t ho hown hb rfl hbar hlock
    exact congrArg State.done (keyOp_answers s x 3 b ho hown hb (fun seq u => u.epochRoll x seq) _ _
      (epochRoll_locked _ x _ hbar hlock))
  case roll =>
    rintro s x b t i ho hown hb rfl hbar hlock hbit hroll
    exact congrArg State.done (keyOp_waits s x 3 b ho hown hb (fun seq u => u.epochRoll x seq) _
      (epochRoll_free _ x _ hbar i hlock hbit hroll))
  case burned =>
    intro s ha hopen hop hrun hflush
    exact congrArg State.done (epochBurned_committed s ha hopen hop hrun hflush)
  case tapSet =>
    rintro s x b t ho hown hb rfl hcode
    exact congrArg State.done (keyOp_ok s x 4 b ho hown hb (·.tapSetCode b) (·.tapSetKey (koPort b) (koKey b))
      (fun _ => false) hcode)
  case promote =>
    rintro s x b t ho hown hb rfl hcode
    exact congrArg State.done (keyOp_ok s x 5 b ho hown hb (·.promoteCode (koPort b)) (·.promote (koPort b))
      (fun _ => false) hcode)
  case tapClear =>
    rintro s x b t ho hown hb rfl hbar
    exact congrArg State.done (keyOp_ok s x 6 b ho hown hb (·.keyOpBar) (·.tapClearKey (koPort b)) (fun _ => false) hbar)

/-! ### Attestation (09 R299, R303) -/

section
variable (s : State) (b : Bytes)

theorem attestBody_outOfRange (hrange : attRange b = false) : s.attestBody b = s.attFail 9 :=
  if_pos (by simp [hrange])

section
variable (hrange : attRange b = true)
include hrange

/-- An ATTEST whose HMAC key may be used answers the report and its HMAC, and is counted. -/
theorem attestBody_keyed (u : State) (r : Bytes) (hen : s.att.hmacEn = true) (huse : s.useKey 7 .mac true = (0, u))
    (hr : r = u.report9 0x30 (b.take 32) (attFirst b) (attN b)) :
    s.attestBody b = (attAnswer r (hmacSha384 (u.slot 7).key r),
      { u with att := { u.att with made := satAdd 16 u.att.made 1 } }) := by
  subst hr
  simp [State.attestBody, hrange, hen, huse]

/-- A QUOTE in an epoch that has its certificate queues its signature job, whose end answers it. -/
theorem quoteBody_certified (x seq : Nat) (r : Bytes) (hen : s.att.quoteEn = true)
    (hcert : tabFind s.certs s.epoch ≠ none) (hroom : s.queued 4 < 32)
    (hr : r = s.report9 0x31 (b.take 32) (attFirst b) (attN b)) :
    s.quoteBody x seq b = (none, s.queueJob (signJob 4 (.quote x seq r) 6 r)) := by
  subst hr
  simp [State.quoteBody, hrange, hen, hcert, hroom]

end

/-- KEY_PUBLIC of 0xFFFFFFFF asks for the current epoch. -/
theorem keyPublicBody_current (c : Bytes) (hcur : num b 0 4 = 0xFFFFFFFF) (hcert : tabFind s.certs s.epoch = some c) :
    s.keyPublicBody b = (le 1 0 ++ s.devidPublic ++ c, s) := by
  simp only [State.keyPublicBody, if_pos hcur, hcert]

end

/-- Settles O28: each request is taken, and answers what its body does in its case. -/
theorem attestationRuns : Obligations.AttestationRuns := by
  unfold Obligations.AttestationRuns
  refine ⟨?outOfRange, ?attest, ?quote, ?keyPublic⟩
  case outOfRange =>
    rintro s x b t ho hok rfl hrange
    exact congrArg State.done (serveNow_answers s x 0x20 ho rfl hok (·.attestBody b) _ _
      (attestBody_outOfRange _ b hrange))
  case attest =>
    rintro s x b t ho hok rfl hrange hen huse
    exact congrArg State.done (serveNow_answers s x 0x20 ho rfl hok (·.attestBody b) _ _
      (attestBody_keyed _ b hrange _ _ hen (Prod.ext huse rfl) rfl))
  case quote =>
    rintro s x b t ho hok rfl hrange hen hcert hroom
    exact congrArg State.done (serve_waits s x 0x21 ho rfl hok (fun seq u => u.quoteBody x seq b) _
      (quoteBody_certified _ b hrange x _ _ hen hcert hroom rfl))
  case keyPublic =>
    rintro s x b t c ho hlen rfl hcur hcert
    exact congrArg State.done (serveNow_answers s x 0x22 ho rfl (beq_iff_eq.mpr hlen) (·.keyPublicBody b) _ _
      (keyPublicBody_current _ b c hcur hcert))

/-! ### The granary's commands of the warden (09 R287, R289, R302) -/

section
variable (s : State) (r : Requester) (act : Nat → State → State) (hr : s.reaches pgGran 0x05C r)
include hr

theorem grnOp_system (hsys : grnSel s r < 32) : s.grnOp r act = s.grnResult 5 :=
  (access17_reaches s _ _ r _ hr).trans (if_pos hsys)

theorem grnOp_warden (hwdn : 32 ≤ grnSel s r) : s.grnOp r act = act (grnSel s r) s :=
  (access17_reaches s _ _ r _ hr).trans (if_neg (Nat.not_lt.mpr hwdn))

end

/-- DERIVE of an algorithm that no derivation fills is refused. -/
theorem deriveSlot_noLength (s : State) (k v : Nat) (hlen : deriveLen (bits v 19 16) = none) :
    s.deriveSlot k v = s.grnResult 4 := by
  simp only [State.deriveSlot, hlen]

theorem changeSlot_volatile (s : State) (k : Nat) (v : KeySlot) (hvol : v.persist = false) : s.changeSlot k v = s.setSlot k v :=
  if_neg (by simp [hvol])

section
variable (s : State) (k : Nat) (hvol : (s.slot k).persist = false)
include hvol

/-- A slot that is not persistent, and does not become so, changes without a key operation, so none bars it. -/
theorem slotBar_volatile : s.slotBar k false = 0 :=
  if_neg (by simp [hvol])

theorem grnClearSlot_volatile : s.grnClearSlot k = (s.clearSlot k).grnResult 0 :=
  (if_neg (not_not_intro (slotBar_volatile s k hvol))).trans (if_neg (by simp [hvol]))

theorem invalidateSlot_volatile :
    s.invalidateSlot k = ((s.invalidated k).setSlot k { s.slot k with stale := true }).grnResult 0 :=
  (if_neg (not_not_intro (slotBar_volatile s k hvol))).trans
    (congrArg (·.grnResult 0) (changeSlot_volatile (s.invalidated k) k { s.slot k with stale := true } hvol))

theorem setLimit_volatile (v : Nat) (hk : 32 ≤ k) : s.setLimit k v = s.setSlot k { s.slot k with limit := v } :=
  (if_neg (Nat.not_lt.mpr hk)).trans
    ((if_neg (not_not_intro (slotBar_volatile s k hvol))).trans (changeSlot_volatile s k _ hvol))

/-- DERIVE of algorithm 1 from a parent that may be used fills the slot with 256 derived bits, without a key operation. -/
theorem deriveSlot_volatile (v p : Nat) (t : State) (halg : bits v 19 16 = 1) (hper : bit v 26 = false)
    (hp : p = bits v 15 8) (huse : s.useKey p .derive false = (0, t)) (hvol' : (t.slot k).persist = false) :
    s.deriveSlot k v = (t.fillSlot k 1 (bits v 25 20) false false p
      (kdf (t.slot p).key "SKW-OEM" (t.moduleId ++ le 4 t.gran.opCtx) 256)).grnResult 0 := by
  subst hp
  have hlen : deriveLen 1 = some 256 := rfl
  simp [State.deriveSlot, halg, hlen, hper, slotBar_volatile s k hvol, huse, hvol', State.when]

end

/-- Settles O29: a command reaches its register, and acts on the selected slot by the lemma on its operation. -/
theorem granaryCommandsRun : Obligations.GranaryCommandsRun := by
  unfold Obligations.GranaryCommandsRun
  refine ⟨?clear, ?system, ?invalidate, ?noLength, ?derive, ?limit⟩
  case clear =>
    rintro s r k hr rfl hk hvol
    exact congrArg State.done ((grnOp_warden s r _ hr hk).trans (grnClearSlot_volatile s _ hvol))
  case system =>
    intro s r hr hsys
    exact congrArg State.done (grnOp_system s r _ hr hsys)
  case invalidate =>
    rintro s r k hr rfl hk hvol
    exact congrArg State.done ((grnOp_warden s r _ hr hk).trans (invalidateSlot_volatile s _ hvol))
  case noLength =>
    intro s r v hr hk hlen
    exact congrArg State.done ((grnOp_warden s r _ hr hk).trans (deriveSlot_noLength s _ _ hlen))
  case derive =>
    rintro s r v k p t hr rfl hk halg hper hvol rfl huse rfl hvol'
    exact congrArg State.done ((grnOp_warden s r _ hr hk).trans
      (deriveSlot_volatile s _ hvol _ _ _ halg hper rfl (Prod.ext huse rfl) hvol'))
  case limit =>
    rintro s r v k hr hfrozen rfl hk hvol
    exact congrArg State.done ((access17rw_reaches s _ _ _ r _ hr hfrozen).trans (setLimit_volatile s _ hvol _ hk))

end Sys2Proof.Machine
end

section
/-! SUPPORT. The public-key engines (10): submission, grant and completion of a job, abort, stall, tests and enabling. -/

namespace Sys2Proof.Machine

@[simp] theorem State.toLoft_eng (s : State) (c k : Nat) : (s.toLoft c).eng k = s.eng k := rfl

@[simp] theorem State.toLoft_injection (s : State) (c a b : Nat) (port : Option Nat) :
    (s.toLoft c).injection a b port = s.injection a b port := rfl

/-! ### Submission (10 R313) -/

section
variable (s : State) (e : Nat) (d block : Bytes)

theorem submitDesc_bad (pin : Bool) (hbad : descBad ((d ++ zeros 64).take 64) = true) :
    s.submitDesc e pin d block = s.subResult e 2 :=
  if_pos hbad

/-- A good descriptor that is not pinned is queued while the class UPDATE has room. -/
theorem submitDesc_queued (hgood : descBad ((d ++ zeros 64).take 64) = false) (hroom : s.queued 3 < 64) :
    s.submitDesc e false d block =
      (s.queueJob (descJob ((d ++ zeros 64).take 64) (s.eng e).subAddr none block)).subResult e 0 :=
  (if_neg (Bool.eq_false_iff.mp hgood)).trans ((if_neg Bool.false_ne_true).trans (if_neg (Nat.not_le.mpr hroom)))

end

/-! ### Grant (10 R314) -/

theorem each_unchanged {α σ : Type} (l : List α) (f : α → σ → σ) (s : σ) (h : ∀ x ∈ l, f x s = s) : each l f s = s := by
  induction l with
  | nil => rfl
  | cons x l ih =>
    obtain ⟨hx, hl⟩ := List.forall_mem_cons.mp h
    exact (congrArg (each l f) hx).trans (ih hl)

theorem engReady_of_nextJob (s : State) (e : Nat) (x : Nat × PkeJob) (hfree : (s.eng e).free = true)
    (htime : (s.eng e).freeAt ≤ s.lnow) (hnext : s.nextJob e = some x) : s.engReady e = true := by
  simp [State.engReady, hfree, htime, hnext]

/-- An engine takes its job in its own turn when no engine before it could take one in that cycle. -/
theorem grantTurn_first (s : State) (e : Nat) (u : State) (hu : u = s.toLoft (s.eng e).freeAt)
    (hbefore : (List.range e).any (fun k => u.engReady k) = false) (hready : u.engReady e = true) :
    s.grantTurn e = u.grant e := by
  subst hu
  have hturns := each_unchanged (List.range e) (fun k t => t.when (t.engReady k) (fun u => u.grant k))
    (s.toLoft (s.eng e).freeAt) fun k hk => if_neg (List.any_eq_false.mp hbefore k hk)
  rw [State.grantTurn, hturns, when_true _ _ _ hready]

section
variable (s : State) (e i : Nat) (j : PkeJob) (hnext : s.nextJob e = some (i, j))
include hnext

theorem grant_admitted (t : State) (hadmit : ((s.admitAt j).dequeue i).jobAdmit j = (0, t)) :
    s.grant e = (t.sheafEpoch j).1.pkeLoad e (t.sheafEpoch j).2 := by
  simp only [State.grant, hnext, hadmit]
  rfl

theorem grant_notAdmitted (t : State) (c : Nat) (hadmit : ((s.admitAt j).dequeue i).jobAdmit j = (c, t)) (hc : c ≠ 0) :
    s.grant e = (t.modEng e (fun g => { g with freeAt := t.lnow + 1 })).notAdmitted e j c := by
  simp only [State.grant, hnext, hadmit]
  exact if_pos hc

end

theorem exec_pkeGrant_first (s : State) (e : EngineId) (u : State) (x : Nat × PkeJob) (ha : s.alive = true)
    (hfree : (s.eng e).free = true) (hjob : s.nextJob e ≠ none) (hu : u = s.toLoft (s.eng e).freeAt)
    (hbefore : (List.range e).any (fun k => u.engReady k) = false) (hufree : (u.eng e).free = true)
    (htime : (u.eng e).freeAt ≤ u.lnow) (hnext : u.nextJob e = some x) :
    exec (.pkeGrant e) s = .next (u.grant e).finish :=
  congrArg State.done ((when_true s _ (·.grantTurn e) (by simp [ha, hfree, Option.isSome_iff_ne_none.mpr hjob])).trans
    (grantTurn_first s e u hu hbefore (engReady_of_nextJob u e x hufree htime hnext)))

/-! ### Completion (10 R315 to R318) -/

theorem opmemRead_clean (s : State) (e : Nat) (hi : s.injection (pgPke e) 0 none = 0) : s.opmemRead e = s :=
  if_pos hi

section
variable (s : State) (e : Nat) (j : PkeJob) (hj : (s.eng e).job = some j)
include hj

/-- A job whose computation came to OK, in an engine without a fault, is released. -/
theorem pkeCheck_released (hzero : (s.eng e).zeroing = none) (hrel : (s.eng e).released = none)
    (hi : s.injection (pgPke e) 1 none = 0) (o : PkeOut) (ho : o = (s.eng e).outcome j) (hcode : o.code = 0) :
    s.pkeCheck e false = (s.modEng e (fun g => { g with released := some true })).release10 j o := by
  subst ho
  simp [State.pkeCheck, hj, hzero, hrel, hi, hcode, PkeOut.invalid]

theorem pkeCheck_invalid (bad : Bool) (hinv : ((s.eng e).outcome j).invalid = true) : s.pkeCheck e bad = s := by
  simp [State.pkeCheck, hj, hinv]

/-- The end of a job with a result other than FAULT: only OK has outputs. -/
theorem pkeEnds_result (c : Nat) (hres : (s.eng e).result j = c) (hfault : c ≠ 21) :
    s.pkeEnds e =
      (s.engineDone e).deliver e j c (if c = 0 then ((s.eng e).outcome j).outs.flatten else []) (s.eng e).stale := by
  simp [State.pkeEnds, hj, hres, hfault, State.when]

/-- Without a fault of the operand memory a job comes to CHECK, at the end of VALIDATE or at RELEASE, and then to its end. -/
theorem pkeJobDone_clean (hzero : (s.eng e).zeroing = none) (hrel : (s.eng e).released = none)
    (hi : s.injection (pgPke e) 0 none = 0) (c : Nat)
    (hc : c = if ((s.eng e).outcome j).invalid then (s.eng e).validated j else (s.eng e).releaseAt j) (t : State)
    (ht : (s.toLoft c).pkeCheck e false = t) :
    s.pkeJobDone e ⟨false, false⟩ = (t.toLoft ((t.eng e).doneAt j)).pkeEnds e := by
  subst hc ht
  simp [State.pkeJobDone, hj, hzero, hrel, State.when, opmemRead_clean, hi]

end

/-- A failed validation is a code of its own, 17 to 19: it is the job's result whether or not CHECK ran. -/
theorem result_of_invalid (g : Engine) (j : PkeJob) (hinv : (g.outcome j).invalid = true) :
    g.result j = (g.outcome j).code ∧ (g.outcome j).code ≠ 0 ∧ (g.outcome j).code ≠ 21 := by
  have hcodes : ((g.outcome j).code = 17 ∨ (g.outcome j).code = 18) ∨ (g.outcome j).code = 19 := by
    simpa [PkeOut.invalid] using hinv
  have hne : (g.outcome j).code ≠ 0 := by omega
  exact ⟨if_neg fun h => hne h.1, hne, by omega⟩

theorem exec_pkeJobDone_alive (s : State) (e : EngineId) (f : PkeFault) (ha : s.alive = true)
    (hzero : (s.eng e).zeroing = none) : exec (.pkeJobDone e f) s = .next (s.pkeJobDone e f).finish :=
  congrArg State.done (when_true s _ (·.pkeJobDone e f) (by simp [ha, hzero]))

/-- Settles O31: a submission reaches its register; a grant acts by the lemma on admission, an end by those on CHECK and WIPE. -/
theorem pkeJobsRun : Obligations.PkeJobsRun := by
  unfold Obligations.PkeJobsRun
  refine ⟨?bad, ?queued, ?admitted, ?notAdmitted, ?released, ?invalid⟩
  case bad =>
    intro s r e pin d block hr hbad
    exact congrArg State.done ((access17_reaches s _ _ r _ hr).trans (submitDesc_bad s e d block pin hbad))
  case queued =>
    intro s r e d block hr hgood hroom
    exact congrArg State.done ((access17_reaches s _ _ r _ hr).trans (submitDesc_queued s e d block hgood hroom))
  case admitted =>
    intro s e i j u t ha hfree hjob hu hbefore hufree htime hnext hcode ht
    rw [exec_pkeGrant_first s e u (i, j) ha hfree hjob hu hbefore hufree htime hnext,
      grant_admitted u e i j hnext t (Prod.ext hcode ht.symm)]
  case notAdmitted =>
    intro s e i j u t ha hfree hjob hu hbefore hufree htime hnext hcode ht
    rw [exec_pkeGrant_first s e u (i, j) ha hfree hjob hu hbefore hufree htime hnext,
      grant_notAdmitted u e i j hnext t _ (Prod.ext rfl ht.symm) hcode]
  case released =>
    intro s e j o u v ha hzero hrel hj hmem hcmp ho hcode hu hv hvj hres hout
    have hvalid : ((s.eng e).outcome j).invalid = false := by simp [← ho, PkeOut.invalid, hcode]
    have hcheck : (s.toLoft ((s.eng e).releaseAt j)).pkeCheck e false = u :=
      (pkeCheck_released (s.toLoft _) e j hj hzero hrel hcmp o ho hcode).trans hu.symm
    rw [exec_pkeJobDone_alive s e _ ha hzero, pkeJobDone_clean s e j hj hzero hrel hmem _ (by simp [hvalid]) u hcheck, ← hv,
      pkeEnds_result v e j hvj 0 hres (by decide), if_pos rfl, hout]
  case invalid =>
    rintro s e j c v ha hzero hrel hj hmem rfl hinv hv
    have heng : v.eng e = s.eng e := by rw [hv, State.toLoft_eng, State.toLoft_eng]
    obtain ⟨hres, hne, hfault⟩ := result_of_invalid (s.eng e) j hinv
    have hcheck := pkeCheck_invalid (s.toLoft ((s.eng e).validated j)) e j hj false hinv
    rw [exec_pkeJobDone_alive s e _ ha hzero, pkeJobDone_clean s e j hj hzero hrel hmem _ (by simp [hinv]) _ hcheck,
      State.toLoft_eng, ← hv, pkeEnds_result v e j (heng ▸ hj) _ (heng ▸ hres) hfault, if_neg hne]

/-! ### Abort and stall (10 R321, R323) -/

section
variable (s : State) (e : Nat)

theorem abortAt_noJob (hq : s.pkeQ = []) (hrun : s.runningAt (s.eng e).subAddr = none) :
    s.abortAt e = s.subResult e 3 := by
  simp [State.abortAt, hq, hrun]

/-- A job that still waits, here at the head of the queue, leaves it ABORTED. -/
theorem abortAt_queued (j : PkeJob) (l : List PkeJob) (hq : s.pkeQ = j :: l) (htag : j.tag = .warden (s.eng e).subAddr) :
    s.abortAt e = (({ s with pkeQ := l } : State).writeDesc j 22 0xFF false).subResult e 0 := by
  have hfound : s.pkeQ.findIdx? (fun k => k.tag == .warden (s.eng e).subAddr) = some 0 := by
    rw [hq, List.findIdx?_cons, if_pos (beq_iff_eq.mpr htag)]
  have hhead : s.pkeQ[0]? = some j := by rw [hq, List.getElem?_cons_zero]
  have hrest : s.dequeue 0 = { s with pkeQ := l } := by rw [State.dequeue, hq, List.eraseIdx_cons_zero]
  simp only [State.abortAt, hfound, hhead, hrest]

/-- The end of the zeroing counts an aborted job of the warden and writes its descriptor. -/
theorem abortZeroed_warden (c : Nat) (j : PkeJob) (hzero : (s.eng e).zeroing = some (22, c))
    (hj : (s.eng e).job = some j) (hown : j.own = false) :
    s.abortZeroed e = (((s.engineDone e).modEng e (fun y => { y with
      aborted := satAdd 16 y.aborted 1 })).deliver e j 22 [] (s.eng e).stale).testAfterReset e := by
  simp [State.abortZeroed, hzero, hj, hown]

theorem stall_running (ha : s.alive = true) (hj : (s.eng e).job ≠ none) (hzero : (s.eng e).zeroing = none) :
    s.stall e = ((s.toLoft ((s.eng e).grantAt + 65536)).raise (pgPke e) 3).abortEngine e 21 :=
  if_pos (by simp [ha, Option.isSome_iff_ne_none.mpr hj, hzero])

end

/-! ### Known-answer tests and ENABLE (10 R327, R328) -/

theorem katStart_idle (s : State) (e : Nat) (hserv : s.modState = .serving) (hj : (s.eng e).job = none)
    (hzero : (s.eng e).zeroing = none) (hkat : (s.eng e).kat = false) :
    s.katStart e = s.modEng e (fun y => { y with kat := true, katDone := false }) :=
  if_pos ⟨hserv, by simp [hj], by simp [hzero], hkat⟩

/-- A write of ENABLE that reaches its bit and is not frozen acts. -/
theorem exec_pkeEnableWrite_reaches (s : State) (r : Requester) (e : EngineId) (v : Bool) (hr : s.reaches (pgPke e) 0x040 r)
    (hm : s.writeMask (pgPke e) 0x040 r &&& 1 ≠ 0) (hf : s.frozen (pgPke e) 0x040 (b2n v) = false) :
    exec (.pkeEnableWrite r e v) s = .next (s.enableWrite e v).finish :=
  congrArg State.done ((access17b_reaches s _ _ _ r _ hr hm).trans (if_neg (Bool.eq_false_iff.mp hf)))

/-- Settles O32: a command that reaches its register, and an end or a stall, act by the lemma on their operation. -/
theorem pkeControlRuns : Obligations.PkeControlRuns := by
  unfold Obligations.PkeControlRuns
  refine ⟨?noJob, ?queued, ?zeroed, ?stall, ?katRun, ?katDone, ?disable, ?enable⟩
  case noJob =>
    intro s r e hr hq hrun
    exact congrArg State.done ((access17_reaches s _ _ r _ hr).trans (abortAt_noJob s e hq hrun))
  case queued =>
    intro s r e j l hr hq htag
    exact congrArg State.done ((access17_reaches s _ _ r _ hr).trans (abortAt_queued s e j l hq htag))
  case zeroed =>
    intro s e c j ha hzero hj hown
    exact congrArg State.done ((when_true s _ (·.abortZeroed e) ha).trans (abortZeroed_warden s e c j hzero hj hown))
  case stall =>
    intro s e ha hj hzero
    exact congrArg State.done (stall_running s e ha hj hzero)
  case katRun =>
    intro s r e hr hm hserv hj hzero hkat
    exact congrArg State.done ((access17b_reaches s _ _ _ r _ hr hm).trans (katStart_idle s e hserv hj hzero hkat))
  case katDone =>
    intro s e pass ha hkat
    exact congrArg State.done (when_true s _ (·.katResult e pass) (by simp [ha, hkat]))
  case disable =>
    intro s r e hr hm hf
    exact exec_pkeEnableWrite_reaches s r e false hr hm hf
  case enable =>
    intro s r e hr hm hf
    exact exec_pkeEnableWrite_reaches s r e true hr hm hf

end Sys2Proof.Machine
end

section
/-! SUPPORT. Sealed rows (11 R332): checking is linear over exclusive or, so an error pattern decodes over every code word as over 0. -/

namespace Sys2Proof.Machine

/-! ### Bits, fields and folds of an exclusive or -/

theorem bit_eq_testBit (v n : Nat) : bit v n = v.testBit n := by
  rw [Nat.testBit_eq_decide_div_mod_eq]
  rfl

theorem bit_xor (v w n : Nat) : bit (v ^^^ w) n = (bit v n != bit w n) := by
  simp [bit_eq_testBit]

theorem bits_xor (v w hi lo : Nat) : bits (v ^^^ w) hi lo = bits v hi lo ^^^ bits w hi lo := by
  simp only [bits, Nat.xor_div_two_pow, Nat.xor_mod_two_pow]

theorem foldl_bne_bne {α : Type} (l : List α) (f g : α → Bool) (a b : Bool) :
    l.foldl (fun c x => c != (f x != g x)) (a != b) = (l.foldl (fun c x => c != f x) a != l.foldl (fun c x => c != g x) b) := by
  induction l generalizing a b with
  | nil => rfl
  | cons x t ih =>
    have hswap : ((a != b) != (f x != g x)) = ((a != f x) != (b != g x)) := by
      cases a <;> cases b <;> simp
    simp only [List.foldl_cons, hswap, ih]

theorem parityOf_xor (v w n : Nat) : parityOf (v ^^^ w) n = (parityOf v n != parityOf w n) := by
  simp only [parityOf, bit_xor]
  exact foldl_bne_bne (List.range n) (bit v) (bit w) false false

theorem parityOf_succ (v n : Nat) : parityOf v (n + 1) = (parityOf v n != bit v n) := by
  simp [parityOf, List.range_succ]

theorem parityOf_congr {v w n : Nat} (h : ∀ i < n, bit v i = bit w i) : parityOf v n = parityOf w n := by
  induction n with
  | zero => rfl
  | succ n ih =>
    rw [parityOf_succ, parityOf_succ, ih fun i hi => h i (Nat.lt_succ_of_lt hi), h n n.lt_succ_self]

/-- A number below 2 ^ n with its own parity as bit n has even parity. -/
theorem parityOf_add_parity (x n : Nat) (hx : x < 2 ^ n) : parityOf (x + b2n (parityOf x n) * 2 ^ n) (n + 1) = false := by
  have hbit : ∀ i, bit (x + b2n (parityOf x n) * 2 ^ n) i = if i < n then bit x i else bit (b2n (parityOf x n)) (i - n) := by
    intro i
    rw [Nat.add_comm, Nat.mul_comm]
    simp only [bit_eq_testBit, Nat.testBit_two_pow_mul_add _ hx]
  have hlow : parityOf (x + b2n (parityOf x n) * 2 ^ n) n = parityOf x n := by
    refine parityOf_congr fun i hi => ?_
    rw [hbit, if_pos hi]
  have hhigh : bit (x + b2n (parityOf x n) * 2 ^ n) n = parityOf x n := by
    rw [hbit, if_neg n.lt_irrefl, Nat.sub_self]
    cases parityOf x n <;> rfl
  rw [parityOf_succ, hlow, hhigh, bne_self_eq_false]

/-! ### The check bits are linear -/

theorem hamBit_eq (d j : Nat) : hamBit d j = hamPos.zipIdx.foldl (fun a x => a != (bit x.1 j && bit d x.2)) false := by
  unfold hamBit
  congr 1
  funext a x
  cases bit x.1 j <;> simp

theorem hamBit_xor (d e j : Nat) : hamBit (d ^^^ e) j = (hamBit d j != hamBit e j) := by
  have hand : ∀ p b c : Bool, (p && (b != c)) = ((p && b) != (p && c)) := by decide
  simp only [hamBit_eq, bit_xor, hand]
  exact foldl_bne_bne hamPos.zipIdx (fun x => bit x.1 j && bit d x.2) (fun x => bit x.1 j && bit e x.2) false false

/-- The number whose bits below n are f, summed as the check bits are. -/
def bitSum (f : Nat → Bool) (n : Nat) : Nat := (List.range n).foldl (fun a j => a + b2n (f j) * 2 ^ j) 0

theorem bitSum_succ (f : Nat → Bool) (n : Nat) : bitSum f (n + 1) = 2 ^ n * b2n (f n) + bitSum f n := by
  simp only [bitSum, List.range_succ, List.foldl_append, List.foldl_cons, List.foldl_nil]
  rw [Nat.add_comm, Nat.mul_comm]

theorem bitSum_lt (f : Nat → Bool) (n : Nat) : bitSum f n < 2 ^ n := by
  induction n with
  | zero => simp [bitSum]
  | succ n ih =>
    rw [bitSum_succ, Nat.pow_succ]
    cases f n <;> simp [b2n] <;> omega

theorem testBit_b2n (b : Bool) (n : Nat) : (b2n b).testBit n = (decide (n = 0) && b) := by
  have hnat : b2n b = b.toNat := by cases b <;> rfl
  rw [hnat, Nat.testBit_bool_toNat]

theorem testBit_bitSum (f : Nat → Bool) (n j : Nat) : (bitSum f n).testBit j = (decide (j < n) && f j) := by
  induction n with
  | zero => simp [bitSum]
  | succ n ih =>
    rw [bitSum_succ, Nat.testBit_two_pow_mul_add _ (bitSum_lt f n), ih, testBit_b2n]
    rcases Nat.lt_trichotomy j n with hlt | rfl | hgt
    · simp [hlt, Nat.lt_succ_of_lt hlt]
    · simp
    · have hpos : ¬ j - n = 0 := by omega
      have hout : ¬ j < n + 1 := by omega
      simp [Nat.lt_asymm hgt, hout, hpos]

theorem hamLow_lt (d : Nat) : hamLow d < 2 ^ 6 := bitSum_lt (hamBit d) 6

theorem testBit_hamLow (d j : Nat) : (hamLow d).testBit j = (decide (j < 6) && hamBit d j) :=
  testBit_bitSum (hamBit d) 6 j

theorem hamLow_xor (d e : Nat) : hamLow (d ^^^ e) = hamLow d ^^^ hamLow e := by
  refine Nat.eq_of_testBit_eq fun j => ?_
  rw [Nat.testBit_xor, testBit_hamLow, testBit_hamLow, testBit_hamLow, hamBit_xor]
  cases decide (j < 6) <;> simp

/-! ### Syndromes -/

theorem eq_of_xor_eq_zero {a b : Nat} (h : a ^^^ b = 0) : a = b :=
  calc a = a ^^^ b ^^^ b := by rw [Nat.xor_assoc, Nat.xor_self, Nat.xor_zero]
    _ = b := by rw [h, Nat.zero_xor]

/-- The syndrome of a row: the check bits of its data against the check bits it holds. -/
def sealSyn (raw : Nat) : Nat := hamLow (raw % 2 ^ 32) ^^^ bits raw 37 32

theorem sealSyn_xor (v w : Nat) : sealSyn (v ^^^ w) = sealSyn v ^^^ sealSyn w := by
  simp only [sealSyn, Nat.xor_mod_two_pow, hamLow_xor, bits_xor]
  ac_rfl

/-- A wrong syndrome under even parity is uncorrectable. -/
theorem sealDecode_none (raw : Nat) (hsyn : sealSyn raw ≠ 0) (hpar : parityOf raw 39 = false) : sealDecode raw = none := by
  rw [sealDecode, hpar]
  exact if_neg hsyn

/-- The correction depends on syndrome and parity only: where these agree, the decoded data differ as the data bits do. -/
theorem sealDecode_shift {v w d : Nat} (hdata : v % 2 ^ 32 = d ^^^ w % 2 ^ 32) (hsyn : sealSyn v = sealSyn w)
    (hpar : parityOf v 39 = parityOf w 39) : sealDecode v = (sealDecode w).map (fun x => (d ^^^ x.1, x.2)) := by
  have hsyn' : Nat.xor (hamLow (v % 2 ^ 32)) (bits v 37 32) = sealSyn w := hsyn
  have hw : Nat.xor (hamLow (w % 2 ^ 32)) (bits w 37 32) = sealSyn w := rfl
  simp only [sealDecode]
  rw [hsyn', hw, hdata, hpar]
  generalize sealSyn w = syn, w % 2 ^ 32 = e, parityOf w 39 = par
  by_cases hzero : syn = 0
  · simp only [hzero, if_true, Option.map_some]
  cases par with
  | false => simp [hzero]
  | true =>
    cases hamPos.findIdx? (· == syn) with
    | some i =>
      simp only [hzero]
      exact congrArg (fun n => some (n, true)) (Nat.xor_assoc d e (2 ^ i))
    | none =>
      simp only [hzero, if_false, Bool.not_true, Bool.false_eq_true]
      split <;> rfl

/-! ### Code words -/

theorem sealEncode_data (d : Nat) (hd : d < 2 ^ 32) : sealEncode d % 2 ^ 32 = d := by
  simp only [sealEncode]
  omega

theorem sealEncode_syn (d : Nat) (hd : d < 2 ^ 32) : sealSyn (sealEncode d) = 0 := by
  have hcheck : bits (sealEncode d) 37 32 = hamLow d := by
    have hlt := hamLow_lt d
    simp only [sealEncode, bits]
    omega
  rw [sealSyn, sealEncode_data d hd, hcheck, Nat.xor_self]

theorem sealEncode_parity (d : Nat) : parityOf (sealEncode d) 39 = false := by
  refine parityOf_add_parity (d % 2 ^ 32 + hamLow d * 2 ^ 32) 38 ?_
  have hlt := hamLow_lt d
  omega

/-- An error pattern over a code word decodes as it does over 0, relative to the word's data. -/
theorem sealDecode_encode_xor (d e : Nat) (hd : d < 2 ^ 32) :
    sealDecode (sealEncode d ^^^ e) = (sealDecode e).map (fun x => (d ^^^ x.1, x.2)) := by
  refine sealDecode_shift ?data ?syn ?par
  case data => rw [Nat.xor_mod_two_pow, sealEncode_data d hd]
  case syn => rw [sealSyn_xor, sealEncode_syn d hd, Nat.zero_xor]
  case par => rw [parityOf_xor, sealEncode_parity, Bool.false_bne]

/-! ### Error patterns -/

theorem sealDecode_zero : sealDecode 0 = some (0, false) := by decide

theorem sealDecode_single : ∀ i < 39, sealDecode (2 ^ i) = some (0, true) := by decide +kernel

theorem parityOf_single : ∀ i < 39, parityOf (2 ^ i) 39 = true := by decide +kernel

/-- Any two of the 39 bits have different syndromes, so that two wrong bits never cancel. -/
theorem sealSyn_single_ne : ∀ i < 39, ∀ j < i, sealSyn (2 ^ i) ≠ sealSyn (2 ^ j) := by decide +kernel

theorem sealDecode_double (i j : Nat) (hi : i < 39) (hj : j < i) : sealDecode (2 ^ i ^^^ 2 ^ j) = none := by
  refine sealDecode_none _ ?syn ?par
  case syn =>
    rw [sealSyn_xor]
    exact fun hzero => sealSyn_single_ne i hi j hj (eq_of_xor_eq_zero hzero)
  case par =>
    rw [parityOf_xor, parityOf_single i hi, parityOf_single j (Nat.lt_trans hj hi), bne_self_eq_false]

/-- Settles O57: over 0 the error patterns of no, one and two bits are decoded, and by linearity over every code word. -/
theorem sealedRowCode : Obligations.SealedRowCode := by
  unfold Obligations.SealedRowCode
  refine ⟨by decide, fun d hd => ⟨?intact, fun i hi => ?single, fun i hi j hj => ?double⟩⟩
  case intact =>
    simpa [sealDecode_zero] using sealDecode_encode_xor d 0 hd
  case single =>
    simpa [sealDecode_single i hi] using sealDecode_encode_xor d (2 ^ i) hd
  case double =>
    simpa [sealDecode_double i j hi hj, Nat.xor_assoc] using sealDecode_encode_xor d (2 ^ i ^^^ 2 ^ j) hd

end Sys2Proof.Machine
end

section
/-! SUPPORT. The commands of the one-time-programmable memory (11 R339 to R343): their start and their end. -/

namespace Sys2Proof.Machine

/-- A command that reaches OTP_CMD starts with the selected row and region and the data of OTP_WDATA. -/
theorem otpCmd_reaches (s : State) (r : Requester) (cmd : Nat) (key : BitVec 16) (accept : Bool) (hr : s.reaches pgOtp 0x044 r) :
    s.otpCmd r cmd key accept =
      s.otpStart key.toNat { cmd := cmd, row := s.otp.row, reg := s.otp.region, data := s.otp.wdata } accept :=
  access17_reaches s _ _ r _ hr

/-- The memory after the running command c ended with outcome o: a failed cell takes a drawn value. -/
def State.otpFinished (s : State) (c : OtpRun) (o : OtpOutcome) : State :=
  { s with otp := s.otp.finish c o (Config.freeNat s.freeCtr % 2 = 1), freeCtr := s.freeCtr + 1 }

/-- A command that neither burns a twin row nor serves a SVC_CLOSE request ends with its outcome, and a result of 7 is an event. -/
theorem otpEnds_plain (s : State) (o : OtpOutcome) (c : OtpRun) (hrun : s.otp.run = some c) (hcmd : c.cmd ≠ 2)
    (hses : c.ses = none) :
    s.otpEnds o = (s.otpFinished c o).when ((s.otpFinished c o).otp.result == 7) (fun u => u.raise pgOtp 6) := by
  have hopen : ∀ row done : Bool, (c.cmd == 2 && row && done) = false := by simp [hcmd]
  simp only [State.otpEnds, hrun, hses, hopen]
  rfl

/-- Settles O30: a command that reaches OTP_CMD starts, and the running one ends, by the lemma on its operation. -/
theorem otpCommandsRun : Obligations.OtpCommandsRun := by
  unfold Obligations.OtpCommandsRun
  refine ⟨?program, ?programTwin, ?lock, ?repulse, ?marginRead, ?ends⟩
  case program =>
    intro s r key hr
    exact congrArg State.done (otpCmd_reaches s r 1 key false hr)
  case programTwin =>
    intro s r key hr
    exact congrArg State.done (otpCmd_reaches s r 2 key false hr)
  case lock =>
    intro s r key acc hr
    exact congrArg State.done (otpCmd_reaches s r 3 key acc hr)
  case repulse =>
    intro s r key hr
    exact congrArg State.done (otpCmd_reaches s r 4 key false hr)
  case marginRead =>
    intro s r key hr
    exact congrArg State.done (otpCmd_reaches s r 5 key false hr)
  case ends =>
    intro s o c t ha hrun hcmd hses ht
    obtain rfl : t = s.otpFinished c o := ht
    have hplain : c.cmd ≠ 2 := by simp [hcmd]
    exact congrArg State.done ((when_true s _ (·.otpEnds o) ha).trans (otpEnds_plain s o c hrun hplain hses))

end Sys2Proof.Machine
end

section
/-! SUPPORT. The end of a command (13 R382, R384): every step ends with the collectors taking their children, which covers them, keeps
every bit and is done at once. -/

namespace Sys2Proof.Machine

/-! ### What a collector word covers -/

theorem covers_or_left (a b : BitVec 32) : Covers (a ||| b) a := by
  rw [Covers, ← BitVec.or_assoc, BitVec.or_self]

theorem covers_or_right (a b : BitVec 32) : Covers (a ||| b) b := by
  rw [BitVec.or_comm]
  exact covers_or_left b a

/-! ### The collector words after their children are taken in -/

theorem latchCollectors_gal (s : State) (g : Nat) (hg : g < 16) :
    tabGet 0 s.latchCollectors.root.gal g = tabGet 0 s.root.gal g ||| galNeed s.hdrs s.portErr g :=
  tabGet_orTab _ 16 s.root.gal g hg

theorem latchCollectors_hcol (s : State) (h : Nat) (hh : h < 4) :
    tabGet 0 s.latchCollectors.root.hcol h = tabGet 0 s.root.hcol h ||| hcolNeed s.hdrs s.latchCollectors.root.gal h :=
  tabGet_orTab _ 4 s.root.hcol h hh

theorem latchCollectors_loftCol (s : State) : s.latchCollectors.root.loftCol = s.root.loftCol ||| loftNeed s.hdrs := rfl

theorem latchCollectors_hostCol (s : State) : s.latchCollectors.root.hostCol = s.root.hostCol ||| hostNeed s.hdrs := rfl

theorem latchCollectors_stat (s : State) : s.latchCollectors.root.stat = s.root.stat |||
    rootNeed s.hdrs s.latchCollectors.root.hcol s.latchCollectors.root.loftCol s.latchCollectors.root.hostCol := rfl

theorem latchCollectors_collected (s : State) : s.latchCollectors.Collected where
  gallery g hg := by
    rw [latchCollectors_gal s g hg]
    exact covers_or_right _ _
  hall h hh := by
    rw [latchCollectors_hcol s h hh]
    exact covers_or_right _ _
  loft := by
    rw [latchCollectors_loftCol]
    exact covers_or_right _ _
  host := by
    rw [latchCollectors_hostCol]
    exact covers_or_right _ _
  root := by
    rw [latchCollectors_stat]
    exact covers_or_right _ _

theorem finish_collected (s : State) : s.finish.Collected := latchCollectors_collected _

/-! ### Taking the children in twice -/

theorem orTab_orTab (need : Nat → BitVec 32) (n : Nat) (t : Tab (BitVec 32)) : orTab need n (orTab need n t) = orTab need n t := by
  refine List.map_congr_left fun k hk => ?_
  rw [tabGet_orTab need n t k (List.mem_range.mp hk), BitVec.or_assoc, BitVec.or_self]

/-- From the leaves to the root each word finds the children it found before, whose bits it holds. -/
theorem latchRoot_latchRoot (hs : Tab Hdr) (pe : Tab (BitVec 8)) (r : Root) :
    latchRoot hs pe (latchRoot hs pe r) = latchRoot hs pe r := by
  simp only [latchRoot, orTab_orTab, BitVec.or_assoc, BitVec.or_self]

/-- Settles O55: each word is its old value and its children's bits, so it covers both, and takes the same bits again. -/
theorem collectorsSticky : Obligations.CollectorsSticky := by
  unfold Obligations.CollectorsSticky
  intro s
  refine ⟨?gallery, ?hall, ?loft, ?host, ?root, ?twice⟩
  case gallery =>
    intro g hg
    rw [latchCollectors_gal s g hg]
    exact covers_or_left _ _
  case hall =>
    intro h hh
    rw [latchCollectors_hcol s h hh]
    exact covers_or_left _ _
  case loft =>
    rw [latchCollectors_loftCol]
    exact covers_or_left _ _
  case host =>
    rw [latchCollectors_hostCol]
    exact covers_or_left _ _
  case root =>
    rw [latchCollectors_stat]
    exact covers_or_left _ _
  case twice => exact congrArg (fun r => { s with root := r }) (latchRoot_latchRoot s.hdrs s.portErr s.root)

/-! ### Every step -/

/-- Each of the module's commands ends in the finish of the state that it makes. -/
theorem exec_finishes (c : Instr) (s : State) : ∃ t : State, exec c s = .next t.finish := by
  cases c <;> exact ⟨_, rfl⟩

/-- A command and an idle tick alike end in a finish. -/
theorem step_finishes (s : State) : ∃ t : State, step s = .next t.finish := by
  cases hp : s.pending with
  | nil => exact ⟨_, step_of_pending_nil s hp⟩
  | cons c rest =>
    rw [step_of_pending_cons s c rest hp]
    exact exec_finishes c _

/-- Settles O50: the finish that a step ends in is its next state. -/
theorem stepAlwaysNext : Obligations.StepAlwaysNext := fun s =>
  let ⟨t, ht⟩ := step_finishes s
  ⟨t.finish, ht⟩

/-- Settles O49: the next state of a step is a finish, which takes the children into the collectors last. -/
theorem stepKeepsCollected : Obligations.StepKeepsCollected := by
  unfold Obligations.StepKeepsCollected
  intro s t hst
  obtain ⟨u, hu⟩ := step_finishes s
  obtain rfl : u.finish = t := Host.Outcome.next.inj (hu.symm.trans hst)
  exact finish_collected u

/-! ### The module at rest -/

/-- With no event waiting there is nothing to take to the root. -/
theorem settleLoop_noEvent (n : Nat) (s : State) (hq : s.root.evq = []) : State.settleLoop n s = s := by
  cases n with
  | zero => rfl
  | succ n => simp only [State.settleLoop, hq, List.isEmpty_nil, if_true]

theorem finish_atRest (s : State) (h : s.AtRest) : s.finish = s.latchCollectors := by
  obtain ⟨hmon, hq⟩ := h
  rw [State.finish, hmon, settleLoop_noEvent 64 s hq]

/-- Settles O54: at rest the end of a command is the latching of the collectors. -/
theorem finishAtRest : Obligations.FinishAtRest := by
  unfold Obligations.FinishAtRest
  intro s h
  rw [finish_atRest s h]
  rfl

end Sys2Proof.Machine
end

section
/-! SUPPORT. Sources and access errors (13 R380, R381, 17 R481 to R487): what an occurrence sets, what a refused access records, and
which pages of a FAULTED hall are in reset. -/

namespace Sys2Proof.Machine

/-! ### Sources of a page and port errors (13 R380, R381) -/

@[simp] theorem post_hdr (s : State) (e : Event) (q : Nat) : (s.post e).hdr q = s.hdr q := by
  unfold State.post
  split <;> rfl

@[simp] theorem post_perr (s : State) (e : Event) (q : Nat) : (s.post e).perr q = s.perr q := by
  unfold State.post
  split <;> rfl

@[simp] theorem noteFirst_errMask (h : Hdr) (wasZero : Bool) (bit port : Nat) :
    (noteFirst h wasZero bit port).errMask = h.errMask := by
  unfold noteFirst
  split <;> rfl

/-- An event of a source that is not masked waits, stamped with its time, behind the events before it. -/
theorem post_unmasked (s : State) (e : Event) (h : (s.hdr e.page).errMask.getLsbD e.bit = false) :
    (s.post e).root.evq =
      s.root.evq ++ [{ e with time := s.cyc, dry := e.dry || (e.inj && (s.hdr e.page).injDry) }] := by
  simp only [State.post, h]
  rfl

theorem raiseE_errStat (s : State) (e : Event) (q : Nat) : ((s.raiseE e).hdr q).errStat =
    if q = e.page then (s.hdr q).errStat ||| BitVec.ofNat 32 (2 ^ e.bit) else (s.hdr q).errStat := by
  rw [State.raiseE, post_hdr]
  by_cases hq : q = e.page
  · rw [if_pos hq, hq, State.modHdr_hdr_same]
    rfl
  · rw [if_neg hq, State.modHdr_hdr_other _ _ _ _ hq]

section
variable (s : State) (p b synd : Nat) (inj : Bool)

/-- Raising a port error sets its bit in the port's word and no other. -/
theorem raisePort_perr (q : Nat) : (s.raisePort p b inj synd).perr q =
    if q = p then s.perr q ||| BitVec.ofNat 8 (2 ^ b) else s.perr q := by
  rw [State.raisePort, post_perr]
  by_cases hq : q = p
  · rw [if_pos hq, hq]
    exact tabGet_tabSet_same _ _ _ _
  · rw [if_neg hq]
    exact tabGet_tabSet_other _ _ _ _ _ hq

/-- The link statistics page of the port's gallery carries the event. -/
theorem raisePort_event (hmask : (s.hdr (0x82 + 4 * (p / 64))).errMask.getLsbD b = false) :
    ∃ e, (s.raisePort p b inj synd).root.evq = s.root.evq ++ [e] ∧ e.page = 0x82 + 4 * (p / 64) ∧ e.bit = b ∧ e.port = some p := by
  have hkept : ∀ z, ((s.modHdr (pgLs (galOf p)) (fun h => noteFirst h z b p)).hdr (pgLs (galOf p))).errMask.getLsbD b = false := by
    intro z
    rw [State.modHdr_hdr_same, noteFirst_errMask]
    exact hmask
  exact ⟨_, post_unmasked _ _ (hkept _), rfl, rfl, rfl⟩

end

/-- Settles O53, each clause by the lemma on its word or its event. -/
theorem raiseSetsSource : Obligations.RaiseSetsSource := by
  unfold Obligations.RaiseSetsSource
  exact ⟨raiseE_errStat, fun s p q b synd inj => raisePort_perr s p b synd inj q,
    fun s p b synd inj hmask => raisePort_event s p b synd inj hmask⟩

/-! ### The record of an access error (17 R487) -/

section
variable (s : State) (page off reason : Nat) (r : Requester)

theorem accErr_hdr : (s.accErr page off reason r).hdr page = { s.hdr page with
    accErr := true, accReq := reqNum r, accOff := off, accReason := reason, accCount := satAdd 8 (s.hdr page).accCount 1 } :=
  State.modHdr_hdr_same _ _ _

/-- An access error is no ERR_STAT source, of its page or of another. -/
theorem accErr_errStat (q : Nat) : ((s.accErr page off reason r).hdr q).errStat = (s.hdr q).errStat := by
  by_cases hq : q = page
  · rw [hq, accErr_hdr]
  · rw [State.accErr, State.modHdr_hdr_other _ _ _ _ hq]

end

theorem regW_access (page : Nat) : regW page 0x02C = w1Reg 0x02C 1 := rfl

theorem writeMask_access_warden (s : State) (page : Nat) : s.writeMask page 0x02C .warden = 1 := by
  simp [State.writeMask, regW_access, RegW.all, w1Reg]

theorem bit_mod_two (v : Nat) : bit (v % 2) 0 = bit v 0 := by
  simp [bit]

/-- A write of ACCESS with ERR acts, whatever the locks: the register has no RW field that they could freeze. -/
theorem setReg_access_err (s : State) (page v : Nat) (r : Requester) (hv : bit v 0 = true) :
    s.setReg page 0x02C v r 1 = s.modHdr page (fun h => { h with accErr := false, accCount := 0 }) := by
  have hfree : s.frozen page 0x02C v = false := by
    simp [State.frozen, regW_access, w1Reg]
  simp [State.setReg, hfree, regW_access, w1Reg, State.putHeader, bit_mod_two, hv]

theorem wardenWrite_access_err (s : State) (page v : Nat) (h : s.reaches page 0x02C .warden) (hv : bit v 0 = true) :
    s.wardenWrite page 0x02C v = s.modHdr page (fun h => { h with accErr := false, accCount := 0 }) := by
  obtain ⟨hlive, hpage, hbar, -⟩ := h
  have hreset : s.pageInReset page = false := (Bool.or_eq_false_iff.mp hbar).1
  have hland : s.byLanding page 0x02C v = none := by simp [State.byLanding]
  rw [wardenWrite_setReg s page 0x02C v hlive rfl hland hpage hreset (by decide), writeMask_access_warden]
  exact setReg_access_err s page v .warden hv

/-- Settles O51: the record by the page's own header, every other page by its own, and ERR by the warden's write. -/
theorem accessErrorRecord : Obligations.AccessErrorRecord := by
  unfold Obligations.AccessErrorRecord
  refine ⟨?record, ?clear⟩
  case record =>
    intro s page off reason r h
    have hrec : h = _ := accErr_hdr s page off reason r
    rw [hrec]
    exact ⟨rfl, rfl, rfl, rfl, rfl, accErr_errStat s page off reason r, rfl, rfl⟩
  case clear =>
    intro s page v h hv
    exact congrArg State.done (wardenWrite_access_err s page.toNat v.toNat h hv)

/-! ### Accesses that are refused (17 R481, R484) -/

theorem access17_notLive (s : State) (page off : Nat) (r : Requester) (act : State → State) (h : s.live r = false) :
    s.access17 page off r act = s := by
  simp [State.access17, h]

theorem wardenWrite_notLive (s : State) (page off v : Nat) (h : s.live .warden = false) : s.wardenWrite page off v = s := by
  simp [State.wardenWrite, h]

theorem barred_of_inReset (s : State) (page : Nat) (r : Requester) (h : s.pageInReset page = true) : s.barred page r = true := by
  simp [State.barred, h]

/-- The warden may still use the hall collector page of a FAULTED hall, page 1 of its eight, and no other (17 R484). -/
theorem pageInReset_faulted (s : State) (h k : Nat) (hh : h < 4) (hk : k < 8) (hf : (s.hall h).phase = .faulted) :
    s.pageInReset (0x40 + 8 * h + k) = decide (k ≠ 1) := by
  have hpage : isHallPage (0x40 + 8 * h + k) = true := by
    simp only [isHallPage, Bool.and_eq_true, decide_eq_true_eq]
    omega
  have hhall : pageHall (0x40 + 8 * h + k) = h := by
    simp only [pageHall, hpage, if_true]
    omega
  have hkind : (0x40 + 8 * h + k) % 8 = k := by omega
  simp only [State.pageInReset, hpage, hhall, hkind, hf]
  by_cases hone : k = 1 <;> simp [hone]

/-- Settles O59, each clause by the lemma on its refusal. -/
theorem registerAccessRefused : Obligations.RegisterAccessRefused := by
  unfold Obligations.RegisterAccessRefused
  refine ⟨?notLive, ?wardenNotLive, ?inReset, pageInReset_faulted⟩
  case notLive =>
    intro s r page hl
    exact ⟨congrArg State.done (access17_notLive s _ _ r _ hl), congrArg State.done (access17_notLive s _ _ r _ hl)⟩
  case wardenNotLive =>
    intro s page off v hl
    exact congrArg State.done (wardenWrite_notLive s _ _ _ hl)
  case inReset =>
    intro s r page hl hp hreset
    have hbar := barred_of_inReset s page.toNat r hreset
    exact ⟨congrArg State.done (access17_reset s _ _ r _ hl hp hbar), congrArg State.done (access17_reset s _ _ r _ hl hp hbar)⟩

end Sys2Proof.Machine
end

section
/-! SUPPORT. The watchdogs (12 R357 to R376): what a kick of each does by its time and value, and the ends of their periods. -/

namespace Sys2Proof.Machine

/-! ### The warden watchdog (12 R357, R360) -/

section
variable (s : State)

section
variable (l : Landing) (v : Nat) (ha : s.alive = true) (hrun : s.wwd.running = true) (hact : landNum l = s.loft.active)
  (hland : s.loft.landing s.loft.active = 1) (htime : s.lnow < s.wwd.start + s.wwd.cycles)
include ha hrun hact hland htime

/-- In its period a kick from the running active landing is one of four: a check-in, a service early or in the window, any
other value (12 Table 12.2). -/
theorem wwdKick_inPeriod : s.wwdKick (some l) v =
    if 0x5A00 ≤ v ∧ v < 0x5A10 then s.wwdCheckIn (v - 0x5A00)
    else if v = 0xC3A5 then (if s.lnow < s.wwdOpens then (s.raise 0x15 0).wwdFaultNext 2 else s.wwdService)
    else (s.raise 0x15 1).wwdFaultNext 3 := by
  simp [State.wwdKick, State.wwdWrite, ha, hrun, hact, hland, Nat.not_le.mpr htime]

theorem wwdKick_checkIn (n : Nat) (hn : n < 16) : s.wwdKick (some l) (0x5A00 + n) = s.wwdCheckIn n := by
  rw [wwdKick_inPeriod s l _ ha hrun hact hland htime, if_pos (by omega), Nat.add_sub_cancel_left]

theorem wwdKick_service : s.wwdKick (some l) 0xC3A5 =
    if s.lnow < s.wwdOpens then (s.raise 0x15 0).wwdFaultNext 2 else s.wwdService :=
  wwdKick_inPeriod s l _ ha hrun hact hland htime

end

theorem wwdCheckIn_first (n : Nat) (hen : s.wwd.curEn.getLsbD n = true) (hnew : s.wwd.checked.getLsbD n = false) :
    s.wwdCheckIn n = s.modWwd (fun x => { x with checked := x.checked ||| BitVec.ofNat 16 (2 ^ n) }) := by
  simp [State.wwdCheckIn, hen, hnew]

/-- With no enabled slot missing a service is accepted. -/
theorem wwdService_complete (hnone : s.wwd.curEn &&& ~~~s.wwd.checked = 0#16) : s.wwdService =
    s.modWwd (fun x => { x with
      services := satAdd 16 x.services 1, checked := 0, start := s.lnow + 1, first := false, curMs := x.periodMs,
      curEn := x.slotEn }) :=
  if_pos hnone

theorem wwdExpires_running (ha : s.alive = true) (hrun : s.wwd.running = true) :
    s.wwdExpires = (s.toLoft (s.wwd.start + s.wwd.cycles)).wwdFault 1 := by
  simp [State.wwdExpires, ha, hrun]

end

theorem toNat_checkInValue (n : Nat) (hn : n < 16) : (BitVec.ofNat 32 (0x5A00 + n)).toNat = 0x5A00 + n := by
  rw [BitVec.toNat_ofNat, Nat.mod_eq_of_lt (by omega)]

/-- Settles O33: a kick in the period by what its value asks, a host's by the absence of a landing, the expiry by its period. -/
theorem wardenWatchdogRuns : Obligations.WardenWatchdogRuns := by
  unfold Obligations.WardenWatchdogRuns
  refine ⟨?checkIn, ?service, ?early, ?host, ?expiry⟩
  case checkIn =>
    intro s l n ha hrun hact hland htime hn hen hnew
    refine congrArg State.done ?_
    rw [toNat_checkInValue n hn, wwdKick_checkIn s l ha hrun hact hland htime n hn, wwdCheckIn_first s n hen hnew]
  case service =>
    intro s l ha hrun hact hland htime hopen hnone
    refine congrArg State.done ((wwdKick_service s l ha hrun hact hland htime).trans ?_)
    rw [if_neg (Nat.not_lt.mpr hopen), wwdService_complete s hnone]
  case early =>
    intro s l ha hrun hact hland htime hearly
    exact congrArg State.done ((wwdKick_service s l ha hrun hact hland htime).trans (if_pos hearly))
  case host => exact fun s v => rfl
  case expiry =>
    intro s ha hrun
    exact congrArg State.done (wwdExpires_running s ha hrun)

/-! ### The Loft watchdog (12 R366 to R368) -/

section
variable (s : State)

section
variable (l : Landing) (v : Nat) (ha : s.alive = true) (hrun : s.lwd.running = true) (hland : s.loft.landing (landNum l) = 1)
include ha hrun hland

/-- A kick from a landing that runs is decided by the period and the key. -/
theorem lwdKick_running : s.lwdKick (some l) v = s.lwdWrite v := by
  simp [State.lwdKick, ha, hrun, hland]

theorem lwdKick_key (htime : s.lwdOver = false) : s.lwdKick (some l) 0x3C96 = s.lwdBegin 1 := by
  rw [lwdKick_running s l _ ha hrun hland]
  simp [State.lwdWrite, htime]

theorem lwdKick_otherValue (htime : s.lwdOver = false) (hv : v ≠ 0x3C96) : s.lwdKick (some l) v = s.raise 0x16 0 := by
  rw [lwdKick_running s l _ ha hrun hland]
  simp [State.lwdWrite, htime, hv]

theorem lwdKick_late (htime : s.lwdOver = true) : s.lwdKick (some l) v = s.loftWdReset 5 := by
  rw [lwdKick_running s l _ ha hrun hland]
  exact if_pos htime

end

/-- Past LOFT_BOOT, where the boot ROM does not serve it, the period ends in a reset. -/
theorem lwdExpires_running (ha : s.alive = true) (hrun : s.lwd.running = true) (hboot : s.modState ≠ .loftBoot)
    (hhalt : s.loft.halted = false) : s.lwdExpires = s.toLwd.loftWdReset 5 := by
  simp [State.lwdExpires, ha, hrun, hboot, hhalt]

theorem wdFlushed_resetting (c : Nat) (hc : s.loft.resetting = some c) : s.wdFlushed = s.shutterRecords.loftClear c := by
  simp only [State.wdFlushed, hc]

theorem pwdExpires_running (p : Nat) (ha : s.alive = true) (hrun : (s.port p).pwd.running = true) :
    s.pwdExpires p = (s.toHall ((s.port p).pwd.start + (s.port p).pwd.cycles)).pwdFault p 1 := by
  simp [State.pwdExpires, ha, hrun]

end

/-- Settles O34, each clause by the lemma on its kick or its period's end; CLEAR_COUNT reaches its register. -/
theorem loftWatchdogRuns : Obligations.LoftWatchdogRuns := by
  unfold Obligations.LoftWatchdogRuns
  refine ⟨?key, ?otherValue, ?late, ?expiry, ?clock, ?flushed, ?platform, ?clear⟩
  case key =>
    intro s l ha hrun hland htime
    exact congrArg State.done (lwdKick_key s l ha hrun hland htime)
  case otherValue =>
    intro s l v ha hrun hland htime hv
    exact congrArg State.done (lwdKick_otherValue s l _ ha hrun hland htime hv)
  case late =>
    intro s l v ha hrun hland htime
    exact congrArg State.done (lwdKick_late s l _ ha hrun hland htime)
  case expiry =>
    intro s ha hrun hboot hhalt
    exact congrArg State.done (lwdExpires_running s ha hrun hboot hhalt)
  case clock =>
    intro s ha
    exact congrArg State.done (when_true s _ (fun t => (t.toLoft (t.lnow + 1)).loftWdReset 6) ha)
  case flushed =>
    intro s c hc
    exact congrArg State.done (wdFlushed_resetting s c hc)
  case platform =>
    intro s p ha hrun
    exact congrArg State.done (pwdExpires_running s p ha hrun)
  case clear =>
    intro s h r hr
    exact congrArg State.done (access17_reaches s _ _ r _ hr)

end Sys2Proof.Machine
end

section
/-! SUPPORT. Fault collection (13 R386 to R410, 17 R494): lockstep, the history pass, shadows and the alarm, then resets by command,
injection, reactions and the stair link. -/

namespace Sys2Proof.Machine

/-! ### Lockstep, history, shadows, alarm (13 R386, R387, R392, R397, 17 R494) -/

section
variable (s : State)

/-- The pair of the active landing that runs is halted by a mismatch. -/
theorem lockstep_active (n : Nat) (ha : s.alive = true) (hact : n = s.loft.active) (hland : s.loft.landing s.loft.active = 1) :
    s.lockstep n = (s.modLoft (fun x => x.land n 4)).raise 0x10 2 := by
  subst hact
  simp [State.lockstep, ha, hland]

theorem shadowOver_ending (d : Domain) (e : Nat)
    (he : (s.root.shadows.find? (fun x => x.dom == d)).bind (·.dl) = some e) :
    s.shadowOver d = (s.toDomain d (e + 1)).endShadow d := by
  simp only [State.shadowOver, he]

theorem pulseOver_running (t : Nat) (ht : s.root.pulseEnd = some t) :
    s.pulseOver = (s.toLoft t).modRoot (fun r => { r with pulseEnd := none, closed := r.hold }) := by
  simp only [State.pulseOver, ht]

theorem modresetClear_serving (t : Nat) (hserv : s.modState = .serving) (ht : s.loft.serveAt = some t) :
    s.modresetClear = (s.toLoft (t + 360000000000)).modRoot (fun r => { r with consec := 0 }) := by
  simp only [State.modresetClear, ht, if_pos hserv]

end

/-- Settles O35, each clause by the lemma on its event; the refresh writes the retained records as they are. -/
theorem collectionRuns : Obligations.CollectionRuns := by
  unfold Obligations.CollectionRuns
  refine ⟨?lockstep, ?pass, ?shadow, ?pulse, ?contact, ?test, ?consecutive, ?refresh⟩
  case lockstep =>
    intro s l ha hact hland
    exact congrArg State.done (lockstep_active s _ ha hact hland)
  case pass =>
    rintro s k ha rfl
    exact congrArg State.done (when_true s _ State.passNext ha)
  case shadow =>
    intro s d e he
    exact congrArg State.done (shadowOver_ending s d e he)
  case pulse =>
    intro s t ht
    exact congrArg State.done (pulseOver_running s t ht)
  case contact =>
    intro s ha
    exact congrArg State.done (when_true s _ (·.raise 0xE7 0) ha)
  case test =>
    intro s r hr hm
    exact congrArg State.done (access17b_reaches s _ _ _ r _ hr hm)
  case consecutive =>
    intro s t hserv ht
    exact congrArg State.done (modresetClear_serving s t hserv ht)
  case refresh => exact fun s => rfl

/-! ### HCOL_CMD and hall resets (13 R396 to R398, R409) -/

section
variable (s : State) (h : Nat)

theorem keyedHcol_key (r : Requester) (act : State → State) : s.keyedHcol h r 0x6B1D act = act s := if_pos rfl

theorem keyedHcol_otherKey (r : Requester) (key : Nat) (act : State → State) (hkey : key ≠ 0x6B1D) :
    s.keyedHcol h r key act = s.accErr (pgHcol h) 0x05C 4 r :=
  if_neg hkey

theorem ackExpiry_awaiting (w : Window) (ha : s.alive = true) (hphase : (s.hall h).phase = .awaitAcks)
    (hw : (s.hall h).ackWin = some w) : s.ackExpiry h = (s.toHall (w.dl + 1)).hallResetDown h := by
  simp [State.ackExpiry, hw, ha, hphase]

end

/-! ### ERR_INJ and REACT_SEL (13 R393, R407) -/

section
variable (s : State) (r : Requester) (page v : Nat) (hlive : s.live r = true) (hpage : pageExists page = true)
  (hbar : s.barred page r = false)
include hlive hpage hbar

section
variable (hmay : s.mayInject r = true) (hlock : (s.hdr page).errLock = false)
include hmay hlock

theorem errInj_noChecker (hchk : checkerExists page (bits v 4 0) = false) : s.errInj r page v = s.accErr page 0x018 5 r := by
  simp [State.errInj, hlive, hpage, hbar, hmay, hlock, hchk]

/-- A mode other than the reserved 3 is held for the checker, armed unless it is 0. -/
theorem errInj_held (hchk : checkerExists page (bits v 4 0) = true) (hmode : bits v 9 8 ≠ 3) : s.errInj r page v =
    s.modHdr page (fun h => { h with
      injChk := bits v 4 0, injMode := bits v 9 8, injDry := bit v 12, injPort := bits v 25 16, injArmed := bits v 9 8 != 0 }) := by
  simp [State.errInj, hlive, hpage, hbar, hmay, hlock, hchk, hmode]

end

/-- Without SET a write only selects the source. -/
theorem reactSel_selects (hset : bit v 15 = false) (hcode : bits v 10 8 < 6) :
    s.reactSel r page v = s.setSel page 0x028 r (bits v 4 0) := by
  simp [State.reactSel, hlive, hpage, hbar, hset, Nat.not_le.mpr hcode]

end

/-! ### The stair link (13 R409) -/

/-- Before the 16th repeat a transfer that fails its CRC is repeated and counted. -/
theorem stairError_repeats (s : State) (h : Nat) (hrun : (s.hall h).stairRun < 16) : s.stairError h =
    (s.modHall h (fun x => { x with
      stairRetry := satAdd 16 x.stairRetry 1, stairRun := (s.hall h).stairRun + 1 })).raiseE
        { page := pgHcol h, bit := 0, time := s.cyc } := by
  have hfew : (s.hall h).stairRun ≠ 16 := Nat.ne_of_lt hrun
  simp [State.stairError, State.when, hfew]

/-- Settles O36: a command that reaches its register acts by its key, every other clause by the lemma on its write or event. -/
theorem resetInjectionRuns : Obligations.ResetInjectionRuns := by
  unfold Obligations.ResetInjectionRuns
  refine ⟨?link, ?hall, ?hallKey, ?ack, ?release, ?inject, ?noChecker, ?react, ?stair⟩
  case link =>
    intro s h r hr
    exact congrArg State.done ((access17_reaches s _ _ r _ hr).trans (keyedHcol_key s h r _))
  case hall =>
    intro s h r hr
    exact congrArg State.done ((access17_reaches s _ _ r _ hr).trans (keyedHcol_key s h r _))
  case hallKey =>
    intro s h r key hr hkey
    exact congrArg State.done ((access17_reaches s _ _ r _ hr).trans (keyedHcol_otherKey s h r _ _ hkey))
  case ack =>
    intro s h w ha hphase hw
    exact congrArg State.done (ackExpiry_awaiting s h w ha hphase hw)
  case release =>
    intro s h ha hshut hphase
    exact congrArg State.done (when_true s _ (·.hallReleased h) (by simp [ha, hshut, hphase]))
  case inject =>
    intro s r page v hlive hpage hbar hmay hlock hchk hmode
    exact congrArg State.done (errInj_held s r _ _ hlive hpage hbar hmay hlock hchk hmode)
  case noChecker =>
    intro s r page v hlive hpage hbar hmay hlock hchk
    exact congrArg State.done (errInj_noChecker s r _ _ hlive hpage hbar hmay hlock hchk)
  case react =>
    intro s r page v hlive hpage hbar hset hcode
    exact congrArg State.done (reactSel_selects s r _ _ hlive hpage hbar hset hcode)
  case stair =>
    intro s h ha hphase hrun
    exact congrArg State.done
      ((when_true s _ (·.stairError h) (by simp [ha, hphase])).trans (stairError_repeats s h hrun))

end Sys2Proof.Machine
end

section
/-! SUPPORT. The crossing and the opening and closing of host sessions (14 R412 to R430, R439, R440). -/

namespace Sys2Proof.Machine

/-! ### Partners and serial frames (14 R411, R412) -/

section
variable (s : State) (x : SessId) (b : Bool) (raw : Bytes) (ha : s.alive = true)
include ha

/-- A partner is seen by its presence alone where no serial frame comes with it. -/
theorem exec_partner_present : exec (.partner x ⟨b, []⟩) s = .next (s.partnerIs x b).finish :=
  congrArg State.done ((when_true s _ _ ha).trans (if_neg fun hframe => hframe.2 rfl))

theorem exec_partner_frame (hserial : 4 ≤ x.val) (hraw : raw ≠ []) :
    exec (.partner x ⟨b, raw⟩) s = .next (s.serialArrives x raw).finish :=
  congrArg State.done ((when_true s _ _ ha).trans (if_pos ⟨hserial, hraw⟩))

end

section
variable (s : State) (x : Nat) (raw : Bytes)

theorem serialArrives_wrong (hok : serialOk raw = false) :
    s.serialArrives x raw = { s with xng := { s.xng with badFrames := s.xng.badFrames + 1 } } := by
  simp only [State.serialArrives, hok]
  rfl

/-- A right frame without a record is a poll: the partner is present and is answered. -/
theorem serialArrives_poll (hok : serialOk raw = true) (hrec : serialRecord raw = []) :
    s.serialArrives x raw = (s.modSes x (fun v => { v with partner := true })).serialIn x := by
  simp only [State.serialArrives, hok, hrec]
  rfl

end

theorem serialOk_ne_nil (raw : Bytes) (hok : serialOk raw = true) : raw ≠ [] := by
  rintro rfl
  exact absurd hok (by decide)

/-! ### The gateway (14 R416, R439) -/

theorem gwSilent_first (s : State) (ha : s.alive = true) (hsil : s.xng.silent = false) (t : State)
    (ht : t = (s.toLoft (s.gwEnd + 1)).closeAll none) :
    s.gwSilent = ({ t with xng := { t.xng with gwUp := false, silent := true } } : State).raise pgXng 4 := by
  rw [State.gwSilent, ha, hsil, ht]
  rfl

/-- A GW_STATUS that comes before the 2 s are over finds the gateway as it was. -/
theorem gwReport_inTime (s : State) (g : GwReport) (htime : s.lnow ≤ s.gwEnd) : s.gwReport g =
    (({ s with xng := { s.xng with gwUp := true, gwAt := s.lnow, silent := false, gwBad := s.xng.badFrames } } : State).netReport 0
      g.addr0.toNat).netReport 1 g.addr1.toNat := by
  simp only [State.gwReport, if_neg (Nat.not_lt.mpr htime)]

theorem configSend_changed (s : State) (a : Nat) (ha : s.alive = true) (hch : s.xng.changedAt = some a) : s.configSend =
    { s with
      xng := { s.xng with changedAt := none }
      out := .gwConfig (s.xng.net0.bytes ++ s.xng.net1.bytes) (xngFrame 0x84 0 (s.xng.net0.bytes ++ s.xng.net1.bytes)) :: s.out } := by
  simp only [State.configSend, hch, ha, if_true]

/-! ### Dropped frames (14 R415) -/

section
variable (s : State) (raw : Bytes)

/-- A dropped record that waits for no hand-over is only counted. -/
theorem frameDrop_outward_idle (hidle : (s.ses (xngPort raw)).handed = none) :
    s.frameDrop false raw = s.countDrop false (xngCheck false raw) := by
  simp [State.frameDrop, hidle]

/-- An inward frame that the crossing drops is counted by the check that it fails. -/
theorem exec_crossingFrameDrop_inward (why : XngCheck) (ha : s.alive = true) (hwhy : xngCheck true raw = why) :
    exec (.crossingFrameDrop true raw) s = .next (s.countDrop true why).finish := by
  subst hwhy
  exact congrArg State.done (when_true s _ (·.frameDrop true raw) ha)

theorem exec_crossingFrameDrop_outward (why : XngCheck) (ha : s.alive = true) (hwhy : xngCheck false raw = why)
    (hidle : (s.ses (xngPort raw)).handed = none) :
    exec (.crossingFrameDrop false raw) s = .next (s.countDrop false why).finish := by
  subst hwhy
  exact congrArg State.done ((when_true s _ (·.frameDrop false raw) ha).trans (frameDrop_outward_idle s raw hidle))

end

/-! ### Records handed over (14 R429) -/

section
variable (s : State) (x a : Nat) (ha : s.alive = true) (hhand : (s.ses x).handed = some a)
include ha hhand

theorem drained_handed : s.drained x = (s.toLoft (a + 3000000000)).closeSes x none (some 4) := by
  simp only [State.drained, hhand, ha, if_true]

theorem recordTaken_inTime (htime : s.lnow < a + 3000000000) : s.recordTaken x =
    each ((s.ses x).recs.take 1) (fun r (t : State) => t.gwTake x r.2) (s.modSes x Ses.leaves) := by
  simp [State.recordTaken, hhand, ha, Nat.not_le.mpr htime]

end

/-- Settles O37: partners by their frame or its absence, dropped frames by their check, every other clause by its lemma. -/
theorem crossingRuns : Obligations.CrossingRuns := by
  unfold Obligations.CrossingRuns
  refine ⟨?present, ?gone, ?wrongFrame, ?poll, ?silent, ?status, ?crc, ?type, ?rate, ?len, ?config, ?drain, ?taken⟩
  case present =>
    intro s x ha
    exact exec_partner_present s x true ha
  case gone =>
    intro s x ha
    exact exec_partner_present s x false ha
  case wrongFrame =>
    intro s x b raw ha hserial hraw hok
    exact (exec_partner_frame s x b raw ha hserial hraw).trans (congrArg State.done (serialArrives_wrong s x raw hok))
  case poll =>
    intro s x b raw ha hserial hok hrec
    exact (exec_partner_frame s x b raw ha hserial (serialOk_ne_nil raw hok)).trans
      (congrArg State.done (serialArrives_poll s x raw hok hrec))
  case silent =>
    intro s t ha hsil ht
    exact congrArg State.done (gwSilent_first s ha hsil t ht)
  case status =>
    intro s g ha htime
    exact congrArg State.done ((when_true s _ (·.gwReport g) ha).trans (gwReport_inTime s g htime))
  case crc =>
    intro s raw ha hwhy
    exact exec_crossingFrameDrop_inward s raw .crc ha hwhy
  case type =>
    intro s raw ha hwhy
    exact exec_crossingFrameDrop_inward s raw .type ha hwhy
  case rate =>
    intro s raw ha hwhy hidle
    exact exec_crossingFrameDrop_outward s raw .rate ha hwhy hidle
  case len =>
    intro s raw ha hwhy
    exact exec_crossingFrameDrop_inward s raw .len ha hwhy
  case config =>
    intro s a ha hch
    exact congrArg State.done (configSend_changed s a ha hch)
  case drain =>
    intro s x a ha hhand
    exact congrArg State.done (drained_handed s x a ha hhand)
  case taken =>
    intro s x a ha hhand htime
    exact congrArg State.done (recordTaken_inTime s x a ha hhand htime)

/-! ### Opening (14 R423) -/

section
variable (s : State) (x : Nat) (ha : s.alive = true)
include ha

theorem proofExpires_opening (w : Window) (hst : (s.ses x).st = 1) (hw : (s.ses x).proofWin = some w) :
    s.proofExpires x = ((s.toLoft (w.dl + 1)).closeSes x none none).sesFailure x := by
  simp [State.proofExpires, hw, ha, hst]

theorem blockEnds_blocked (d : Nat) (hd : (s.ses x).blockEnd = some d) :
    s.blockEnds x = (s.toLoft (d + 1)).modSes x (fun v => { v with blockEnd := none, fails := 0 }) := by
  simp only [State.blockEnds, hd, ha, if_true]

end

/-! ### Sealed records that are no new request (14 R413, R419) -/

section
variable (s : State) (x : SessId)

theorem exec_sealedRequestFail_failure (rep : Bool) (ha : s.alive = true) (hrep : (rep && s.mayRepeat x) = false) :
    exec (.sealedRequestFail x rep) s = .next ((((s.lapse x).serialIn x).closeSes x none none).raise (pgSes x) 1).finish :=
  congrArg State.done ((if_neg (Bool.eq_false_iff.mp hrep)).trans (if_pos ha))

section
variable (ho : s.opens x) (hserial : x.val ≥ 4) (hseq : (s.ses x).rxSeq ≥ 1)
include ho hserial hseq

theorem mayRepeat_open : s.mayRepeat x = true := by
  obtain ⟨ha, hst, htime, -, -, -⟩ := ho
  have hport : decide (4 ≤ x.val) = true := decide_eq_true hserial
  have hnumbered : decide (1 ≤ (s.ses x).rxSeq) = true := decide_eq_true hseq
  rw [State.mayRepeat, lapse_none s x hst htime, ha, hst, hport, hnumbered]
  rfl

theorem exec_sealedRequestFail_repeat : exec (.sealedRequestFail x true) s = .next (s.repeated x).finish := by
  have hrep := mayRepeat_open s x ho hserial hseq
  obtain ⟨-, hst, htime, -, -, -⟩ := ho
  exact congrArg State.done ((if_pos (by rw [hrep]; rfl)).trans (congrArg (·.repeated x) (lapse_none s x hst htime)))

end

section
variable (ho : s.opens x)
include ho

/-- Where the response was sent, a repeat brings it again. -/
theorem repeated_sent (t : Nat) (b rc : Bytes) (hlast : (s.ses x).lastResp = some (t, b, rc)) (u : State)
    (hu : u = ((s.serialIn x).countUse (16 + 2 * x)).modSes x (fun v => { v with lastRec := s.lnow })) :
    s.repeated x = ({ u with out := responseOut x t b rc :: u.out }).modSes x (fun v => v.waits s.lnow rc) := by
  obtain ⟨-, -, -, hkey, -, -⟩ := ho
  subst hu
  simp only [State.repeated, hkey, hlast]
  rfl

theorem repeated_unsent (hlast : (s.ses x).lastResp = none) :
    s.repeated x = ((s.serialIn x).countUse (16 + 2 * x)).modSes x (fun v => { v with lastRec := s.lnow }) := by
  obtain ⟨-, -, -, hkey, -, -⟩ := ho
  simp only [State.repeated, hkey, hlast]
  rfl

end

end

/-! ### Closing (14 R430, R440) -/

theorem serve_close (s : State) (x : Nat) (ho : s.opens x) :
    s.serve x 0x05 true true (fun seq t => (none, (t.respond x seq []).closeSes x none none)) =
      ((s.taken x 0x05).respond x (s.nextReq x) []).closeSes x none none :=
  serve_waits s x 0x05 ho rfl rfl _ _ rfl

theorem idleCloses_open (s : State) (x : Nat) (ha : s.alive = true) (hst : (s.ses x).st = 2) :
    s.idleCloses x = (s.toLoft ((s.ses x).idleEnd + 1)).closeSes x (some 5) (some 6) := by
  simp [State.idleCloses, ha, hst]

/-- Settles O38, each clause by the lemma on its record, timer or command. -/
theorem sessionOpenCloseRuns : Obligations.SessionOpenCloseRuns := by
  unfold Obligations.SessionOpenCloseRuns
  refine ⟨?hello, ?proof, ?proofEnd, ?blockEnd, ?fail, ?sent, ?unsent, ?close, ?idle, ?command, ?wrongKey⟩
  case hello =>
    intro s x b ha
    exact congrArg State.done (when_true s _ (fun t => (t.serialIn x).helloRecord x b) ha)
  case proof =>
    intro s x b ha
    exact congrArg State.done (when_true s _ (fun t => (t.serialIn x).proofRecord x b) ha)
  case proofEnd =>
    intro s x w ha hst hw
    exact congrArg State.done (proofExpires_opening s x ha w hst hw)
  case blockEnd =>
    intro s x d ha hd
    exact congrArg State.done (blockEnds_blocked s x ha d hd)
  case fail =>
    intro s x rep ha hrep
    exact exec_sealedRequestFail_failure s x rep ha hrep
  case sent =>
    intro s x t b rc u ho hserial hseq hlast hu
    exact (exec_sealedRequestFail_repeat s x ho hserial hseq).trans
      (congrArg State.done (repeated_sent s x ho t b rc hlast u hu))
  case unsent =>
    intro s x ho hserial hseq hlast
    exact (exec_sealedRequestFail_repeat s x ho hserial hseq).trans
      (congrArg State.done (repeated_unsent s x ho hlast))
  case close =>
    intro s x ho
    exact congrArg State.done (serve_close s x ho)
  case idle =>
    intro s x ha hst
    exact congrArg State.done (idleCloses_open s x ha hst)
  case command =>
    intro s x r hr
    exact congrArg State.done ((access17_reaches s _ _ r _ hr).trans (if_neg (not_not_intro rfl)))
  case wrongKey =>
    intro s x r key hr hkey
    exact congrArg State.done ((access17_reaches s _ _ r _ hr).trans (if_pos hkey))

end Sys2Proof.Machine
end

section
/-! SUPPORT. The messages of an open session (14 R419, R426, R431, R435 to R437): what SESSION, event, service and PAGE messages answer,
and what refuses a request. -/

namespace Sys2Proof.Machine

/-! ### SESSION and event messages (14 R428, R431) -/

theorem serveNow_eventFilter (s : State) (x : Nat) (b : Bytes) (ho : s.opens x) (hlen : b.length = 1) (hcode : num b 0 1 ≤ 5) :
    s.serveNow x 0x2D true (b.length == 1 && num b 0 1 ≤ 5) (fun t =>
      (le 1 0 ++ le 4 t.root.nextNo, t.modSes x (fun v => { v with minCode := num b 0 1 }))) =
    ((s.taken x 0x2D).modSes x (fun v => { v with minCode := num b 0 1 })).respond x (s.nextReq x)
      (le 1 0 ++ le 4 (s.taken x 0x2D).root.nextNo) :=
  serveNow_answers s x 0x2D ho rfl (by simp [hlen, hcode]) _ _ _ rfl

/-- Settles O39: each message has its form and is answered; EVENT_FILTER also stores its code. -/
theorem sessionMessagesRun : Obligations.SessionMessagesRun := by
  unfold Obligations.SessionMessagesRun
  refine ⟨?ping, ?info, ?filter, ?fetch, ?status⟩
  case ping =>
    intro s x b ho hlen
    exact congrArg State.done (serveRead_lenOk s x _ _ (fun _ => b) ho (beq_iff_eq.mpr hlen))
  case info =>
    intro s x ho
    exact congrArg State.done (serveRead_lenOk s x _ _ (·.infoBytes x) ho rfl)
  case filter =>
    intro s x b ho hlen hcode
    exact congrArg State.done (serveNow_eventFilter s x b ho hlen hcode)
  case fetch =>
    intro s x b ho hlen hmin hmax
    exact congrArg State.done
      (serveRead_lenOk s x _ _ (·.fetchBytes (num b 0 4) (num b 4 1)) ho (by simp [hlen, hmin, hmax]))
  case status =>
    rintro s x t ho rfl
    exact congrArg State.done (serveRead_lenOk s x _ _ _ ho rfl)

/-! ### Service and test access (14 R435 to R437) -/

section
variable (s : State) (x : Nat)

/-- While no challenge is open SVC_CHALLENGE for service access opens one over fresh bytes. -/
theorem svcChal_opens (hnone : s.svc.chal = none) : s.svcChal x 1 =
    (le 1 0 ++ zeros 3 ++ (s.draw 32).1 ++ le 4 600000,
      { (s.draw 32).2 with svc := { (s.draw 32).2.svc with
        chal := some (x, 1, (s.draw 32).1, mkWin (s.draw 32).2.lnow 360000000000) } }) := by
  have hcheck : s.chalCheck = s := by simp only [State.chalCheck, hnone]
  simp only [State.svcChal, hcheck, hnone]
  rfl

theorem svcReopenBody_noChallenge (scope : Nat) (resp : Bytes) (hnone : s.svc.chal = none) :
    s.svcReopenBody x scope resp = s.reopenFails x 2 := by
  simp only [State.svcReopenBody, hnone]

/-- The right proof of the session's open challenge, under a usable OWNER_PSK, reopens service access. -/
theorem svcReopenBody_right (nc resp : Bytes) (w : Window) (u v : State) (hchal : s.svc.chal = some (x, 1, nc, w))
    (htime : s.lnow ≤ w.dl) (hkey : chainOk s.gran.slots keySlots 8 = true)
    (hresp : resp = (hmacSha384 (s.slot 8).key (ascii "RELMAL-REOPEN" ++ s.moduleId ++ le 1 1 ++ le 1 x ++ nc)).take 16)
    (hu : u = s.chalExpired.countUse 8) (hv : v = (u.modSes x (fun y => u.access x { y with svcRe := true })).raise pgSvc 1) :
    s.svcReopenBody x 1 resp =
      (le 1 0 ++ le 1 (v.ses x).flags, { v with svc := { v.svc with reopens := satAdd 16 v.svc.reopens 1 } }) := by
  have hpast : ¬ w.dl < s.lnow := Nat.not_lt.mpr htime
  subst hu hv hresp
  simp only [State.svcReopenBody, hchal, if_neg hpast, hkey, ne_eq, not_true_eq_false, if_false, if_true, false_or,
    Bool.not_true, Bool.false_eq_true]
  rfl

/-- SVC_CLOSE whose programming of the ACCESS row runs for it is answered at its end. -/
theorem svcCloseBody_runs (seq mask : Nat) (u : State) (c : OtpRun)
    (hu : u = s.otpStart 0x4D2C { cmd := 2, row := 173, reg := 0, data := mask, ses := some (x, seq) } false)
    (hrun : u.otp.run = some c) (hses : c.ses = some (x, seq)) : s.svcCloseBody x seq mask = (none, u) := by
  subst hu
  simp only [State.svcCloseBody, hrun, if_pos hses]

theorem svcChallengeExpiry_open (c : Nat × Nat × Bytes × Window) (ha : s.alive = true) (hchal : s.svc.chal = some c) :
    exec .svcChallengeExpiry s = .next (s.toLoft (c.2.2.2.dl + 1)).chalExpired.finish := by
  obtain ⟨y, scope, nc, w⟩ := c
  change execSvcChallengeExpiry s = _
  simp only [execSvcChallengeExpiry, hchal, when_true s _ _ ha]
  rfl

end

/-- Settles O40: each message of a session with the right is taken, and answered or begun by the lemma on its body. -/
theorem serviceAccessRuns : Obligations.ServiceAccessRuns := by
  unfold Obligations.ServiceAccessRuns
  refine ⟨?status, ?challenge, ?expiry, ?noChallenge, ?reopen, ?close⟩
  case status =>
    rintro s x t ho rfl
    exact congrArg State.done (serveRead_lenOk s x _ _ _ ho rfl)
  case challenge =>
    rintro s x t ho hrole rfl hnone
    exact congrArg State.done (serveNow_answers s x 0x39 ho hrole rfl _ _ _ (svcChal_opens _ x hnone))
  case expiry =>
    intro s c ha hchal
    exact svcChallengeExpiry_open s c ha hchal
  case noChallenge =>
    rintro s x b t ho hrole hlen rfl hnone
    exact congrArg State.done
      (serveNow_answers s x 0x3A ho hrole (beq_iff_eq.mpr hlen) _ _ _ (svcReopenBody_noChallenge _ x _ _ hnone))
  case reopen =>
    rintro s x b nc t u v w ho hrole hlen hscope rfl hchal htime hkey hresp hu hv
    refine congrArg State.done (serveNow_answers s x 0x3A ho hrole (beq_iff_eq.mpr hlen) _ _ _ ?_)
    rw [hscope]
    exact svcReopenBody_right _ x nc _ w u v hchal htime hkey hresp hu hv
  case close =>
    rintro s x b u c ho hown hlen hu hrun hses
    exact congrArg State.done
      (serve_waits s x 0x3B ho hown (beq_iff_eq.mpr hlen) _ _ (svcCloseBody_runs _ x _ _ u c hu hrun hses))

/-! ### PAGE messages (14 R431, 17 R490) -/

section
variable (s : State) (x : SessId) (b : Bytes)

theorem pageReadMsg_noPage (hpage : pageExists (num b 0 2) = false) : s.pageReadMsg x b = (1 :: zeros 3, s) := by
  simp [State.pageReadMsg, hpage]

section
variable (hpage : pageExists (num b 0 2) = true)
include hpage

/-- Words that can all be read are answered in order. -/
theorem pageReadMsg_all (hspan : spanOk (num b 2 2) (num b 4 1) 1 64 = true) (y : State × Bytes × Bool)
    (hy : y = s.readWords (num b 0 2) (.session x) ((List.range (num b 4 1)).map (fun k => num b 2 2 + 4 * k)))
    (hall : y.2.2 = true) :
    s.pageReadMsg x b = (le 1 0 ++ le 1 (y.2.1.length / 4) ++ zeros 2 ++ y.2.1, y.1) := by
  subst hy
  simp [State.pageReadMsg, hpage, hspan, hall]

theorem pageWriteMsg_span (hspan : spanOk (num b 2 2) (num b 4 1) 1 16 = true) (y : State × Nat × Nat)
    (hy : y = s.writeWords x.val (num b 0 2) x.isLt
      ((List.range (num b 4 1)).map (fun k => (num b 2 2 + 4 * k, num b (8 + 4 * k) 4)))) :
    s.pageWriteMsg x b = (le 1 y.2.2 ++ le 1 y.2.1, y.1) := by
  subst hy
  simp [State.pageWriteMsg, hpage, hspan]

/-- A register that the session may write takes the bits of the mask, and the answer brings its old and its new value. -/
theorem pageModifyMsg_written (hspan : spanOk (num b 2 2) 1 1 1 = true) (hrw : (regW (num b 0 2) (num b 2 2)).rw ≠ 0)
    (hlock : num b 2 2 ≠ 0x030) (old : Nat) (u z : State)
    (hread : s.readReg (num b 0 2) (num b 2 2) (.session x) = (some old, u))
    (hwrite : u.hostWrite x.val (num b 0 2) (num b 2 2)
      ((old &&& (full ^^^ num b 4 4)) ||| (num b 8 4 &&& num b 4 4)) x.isLt = (0, z)) :
    s.pageModifyMsg x b =
      (le 4 0 ++ le 4 old ++ le 4 (z.regVal (num b 0 2) (num b 2 2) (.session x)), z) := by
  simp [State.pageModifyMsg, hpage, hspan, hrw, hlock, hread, hwrite]

theorem pageRightsMsg_page : s.pageRightsMsg x b =
    (le 1 0 ++ le 1 (1 + 2 * b2n (mayWritePage (s.ses x).eff (num b 0 2))) ++ zeros 2 ++ le 4 (pageId (num b 0 2)), s) := by
  simp [State.pageRightsMsg, hpage]

end

end

/-- Settles O45: each message has its form, and is answered by the lemma on its body. -/
theorem pageMessagesRun : Obligations.PageMessagesRun := by
  unfold Obligations.PageMessagesRun
  refine ⟨?read, ?noPage, ?write, ?modify, ?rights⟩
  case read =>
    rintro s x b t y ho hlen rfl hpage hspan hy hall
    exact congrArg State.done (serveNow_answers s x 0x08 ho rfl (beq_iff_eq.mpr hlen) _ _ _
      (pageReadMsg_all _ x b hpage hspan y hy hall))
  case noPage =>
    rintro s x b t ho hlen rfl hpage
    exact congrArg State.done (serveNow_answers s x 0x08 ho rfl (beq_iff_eq.mpr hlen) _ _ _
      (pageReadMsg_noPage _ x b hpage))
  case write =>
    rintro s x b t y ho hlen rfl hpage hspan hy
    exact congrArg State.done (serveNow_answers s x 0x09 ho rfl (beq_iff_eq.mpr hlen) _ _ _
      (pageWriteMsg_span _ x b hpage hspan y hy))
  case modify =>
    rintro s x b t u z old ho hlen rfl hpage hspan hrw hlock hread hwrite
    exact congrArg State.done (serveNow_answers s x 0x0A ho rfl (beq_iff_eq.mpr hlen) _ _ _
      (pageModifyMsg_written _ x b hpage hspan hrw hlock old u z hread hwrite))
  case rights =>
    rintro s x b t ho hlen rfl hpage
    exact congrArg State.done (serveNow_answers s x 0x0B ho rfl (beq_iff_eq.mpr hlen) _ _ _ (pageRightsMsg_page _ x b hpage))

/-! ### Requests that are refused (14 R419, R426) -/

/-- A request that is refused: it is taken and counted as refused, and answered 0xFF and the code. -/
def State.refusedAs (s : State) (x type code : Nat) : State :=
  ((s.taken x type).modSes x (fun u => { u with refused := satAdd 16 u.refused 1 })).respond x (s.nextReq x)
    [0xFF, BitVec.ofNat 8 code]

section
variable (s : State) (x type : Nat) (lenOk : Bool) (act : Nat → State → Option Bytes × State)

/-- A sealed record of a session that is not open, or has lapsed, closes it. -/
theorem serve_notOpen (right : Bool) (ha : s.alive = true) (hst : ((s.lapse x).ses x).st ≠ 2) :
    s.serve x type right lenOk act = (((s.lapse x).serialIn x).closeSes x none none).raise (pgSes x) 1 := by
  simp only [State.serve, ha, if_pos hst]
  rfl

section
variable (ha : s.alive = true) (hst : (s.ses x).st = 2) (htime : s.timely x)
  (hrx : chainOk s.gran.slots keySlots (16 + 2 * x) = true) (htx : chainOk s.gran.slots keySlots (17 + 2 * x) = true)
include ha hst htime hrx htx

/-- RIGHTS comes before BUSY and LENGTH. -/
theorem serve_noRight : s.serve x type false lenOk act = (s.refusedAs x type 1).raise (pgSes x) 2 := by
  simp only [State.serve, ha, lapse_none s x hst htime, hst, hrx, htx]
  rfl

theorem serve_busy (hfull : 64 ≤ (s.ses x).outst.length) :
    s.serve x type true lenOk act = (s.refusedAs x type 2).raise (pgSes x) 3 := by
  simp only [State.serve, ha, lapse_none s x hst htime, hst, hrx, htx, if_pos hfull]
  rfl

theorem serve_wrongLength (hroom : (s.ses x).outst.length < 64) :
    s.serve x type true false act = s.refusedAs x type 3 := by
  simp only [State.serve, ha, lapse_none s x hst htime, hst, hrx, htx, if_neg (Nat.not_le.mpr hroom)]
  rfl

end

end

theorem exec_ping (s : State) (x : SessId) (b : Bytes) : exec (.ping x b) s =
    .next (s.serve x 0x06 true (b.length == 8) (fun _ t => (some b, t))).finish := rfl

/-- Settles O60, each clause by the lemma on its refusal. -/
theorem hostRequestsRefused : Obligations.HostRequestsRefused := by
  unfold Obligations.HostRequestsRefused
  refine ⟨?rights, ?length, ?busy, ?notOpen⟩
  case rights =>
    intro s x b ho hown
    obtain ⟨ha, hst, htime, hrx, htx, -⟩ := ho
    change (s.serveNow x 0x32 (s.owner x) (b.length == 2) _).done = _
    rw [hown]
    exact congrArg State.done (serve_noRight s x 0x32 _ _ ha hst htime hrx htx)
  case length =>
    intro s x b ho hlen
    obtain ⟨ha, hst, htime, hrx, htx, hroom⟩ := ho
    rw [exec_ping, beq_eq_false_iff_ne.mpr hlen]
    exact congrArg State.done (serve_wrongLength s x 0x06 _ ha hst htime hrx htx hroom)
  case busy =>
    intro s x b ha hst htime hrx htx hfull
    rw [exec_ping]
    exact congrArg State.done (serve_busy s x 0x06 _ _ ha hst htime hrx htx hfull)
  case notOpen =>
    intro s x b ha hst
    rw [exec_ping]
    exact congrArg State.done (serve_notOpen s x 0x06 _ _ true ha hst)

end Sys2Proof.Machine
end

section
/-! SUPPORT. Supply and environment (15 R444 to R462, 17 R498): mains, the charger and the reserve's tests, power domains and sensors. -/

namespace Sys2Proof.Machine

/-! ### Mains and the reserve (15 R447 to R452) -/

section
variable (s : State)

/-- Mains that is back while no shutter and no Loft reset runs was a dip. -/
theorem mainsBack_dip (hcold : s.modState ≠ .cold) (hout : s.pwr.mainsOk = false) (hshut : s.modState ≠ .shutter)
    (hreset : s.loft.resetting = none) : s.mainsBack =
    ((s.modPwr (fun w => { w with mainsOk := true })).modPwr (fun w => { w with dips := satAdd 16 w.dips 1 })).raise pgPwr 0 := by
  simp [State.mainsBack, hcold, hout, hshut, hreset]

theorem chargerRestarts_idle (hcold : s.modState ≠ .cold) (hmains : s.pwr.mainsOk = true) (htest : s.pwr.testing = none)
    (hoff : s.pwr.charging = false) (hreset : s.loft.resetting = none) : s.chargerRestarts = s.chargerStart := by
  simp [State.chargerRestarts, hcold, hmains, htest, hoff, hreset]

/-- The first READY makes the first test due 10 s later. -/
theorem reserveReadyNow_first (hcold : s.modState ≠ .cold) (hon : s.pwr.charging = true) (hlow : s.pwr.ready = false)
    (hnone : s.pwr.nextTest = none) : s.reserveReadyNow =
    s.modPwr (fun w => { w with ready := true, readyDl := none, nextTest := some (s.lnow + 6000000000) }) := by
  simp [State.reserveReadyNow, State.modPwr, hcold, hon, hlow, hnone]

theorem readyLate_due (d : Nat) (hd : s.pwr.readyDl = some d) :
    s.readyLate = ((s.toLoft (d + 1)).modPwr (fun w => { w with readyDl := none })).raise pgPwr 3 := by
  simp only [State.readyLate, hd]

theorem testDue_due (t : Nat) (ht : s.pwr.nextTest = some t) (hmay : s.mayTest = true) (hidle : s.pwr.testing = none) :
    s.testDue = ((s.toLoft t).modPwr (fun w => { w with nextTest := some (t + 51840000000000) })).testBegin := by
  simp [State.testDue, ht, hmay, hidle]

/-- A test that ends with mains out leaves the charger off; below 86 J it raises source 2, from 20 J on READY stays. -/
theorem testEnd_weak (t cap esr full : Nat) (ht : s.pwr.testing = some t) (hout : s.pwr.mainsOk = false) (hready : 200 ≤ full)
    (hweak : full < 860) : s.testEnd cap esr full =
    ((s.toLoft t).modPwr (fun w => { w with
      testing := none, capMf := cap, esr := esr, full := full, testAt := some (max s.lnow t), ready := w.ready })).raise pgPwr 2 := by
  simp [State.testEnd, State.when, State.modPwr, ht, hout, hready, hweak, Nat.not_lt.mpr hready]

theorem testCmd_starts (hmay : s.mayTest = true) (hidle : s.pwr.testing = none) :
    s.testCmd = s.testBegin.modPwr (fun w => { w with result := 0 }) := by
  simp [State.testCmd, State.pwrResult, hmay, hidle]

theorem testCmd_refused (hmay : s.mayTest = false) : s.testCmd = s.modPwr (fun w => { w with result := 1 }) := by
  simp [State.testCmd, State.pwrResult, hmay]

end

/-- Settles O42: a lost supply stops the charger at once, every other clause is the lemma on its event or command. -/
theorem mainsReserveRuns : Obligations.MainsReserveRuns := by
  unfold Obligations.MainsReserveRuns
  refine ⟨fun s => rfl, fun s => rfl, ?dip, ?restart, ?ready, ?late, ?due, ?ends, ?command, ?refused⟩
  case dip =>
    intro s hcold hout hshut hreset
    exact congrArg State.done (mainsBack_dip s hcold hout hshut hreset)
  case restart =>
    intro s hcold hmains htest hoff hreset
    exact congrArg State.done (chargerRestarts_idle s hcold hmains htest hoff hreset)
  case ready =>
    intro s hcold hon hlow hnone
    exact congrArg State.done (reserveReadyNow_first s hcold hon hlow hnone)
  case late =>
    intro s d hd
    exact congrArg State.done (readyLate_due s d hd)
  case due =>
    intro s t ht hmay hidle
    exact congrArg State.done (testDue_due s t ht hmay hidle)
  case ends =>
    intro s t cap esr full ht hout hready hweak
    exact congrArg State.done (testEnd_weak s t cap esr full ht hout hready hweak)
  case command =>
    intro s r hr hmay hidle
    exact congrArg State.done ((access17_reaches s _ _ r _ hr).trans (testCmd_starts s hmay hidle))
  case refused =>
    intro s r hr hmay
    exact congrArg State.done ((access17_reaches s _ _ r _ hr).trans (testCmd_refused s hmay))

/-! ### Power domains (15 R455, R456) -/

section
variable (s : State) (r : Requester)

section
variable (d : Nat) (hsel : d = selDom s r) (htap : d < 1024) (hshut : s.modState ≠ .shutter)
include hsel htap hshut

theorem domCmdOn_tap (hmay : s.phyMayOn d = true) : s.domCmdOn r =
    ((s.domSet d true).modDom d (fun x => { x with locked := false, retryAt := none })).modPwr (fun w => { w with result := 0 }) := by
  subst hsel
  exact if_pos ⟨htap, hshut, hmay⟩

theorem domCmdOff_tap : s.domCmdOff r =
    ((s.phyOff d 1 s.cyc).modDom d (fun x => { x with retryAt := none })).modPwr (fun w => { w with result := 0 }) := by
  subst hsel
  exact if_pos ⟨htap, hshut⟩

end

/-- ON of a domain that is no tap PHY domain is refused. -/
theorem domCmdOn_noTap (hsel : 1024 ≤ selDom s r) : s.domCmdOn r = s.modPwr (fun w => { w with result := 1 }) :=
  if_neg fun h => absurd h.1 (Nat.not_lt.mpr hsel)

end

section
variable (s : State) (ha : s.alive = true)
include ha

theorem domainTrips_on (d : Nat) (hon : s.domOn d = true) : s.domainTrips d = (s.tripDomain d).raise pgPwr 4 := by
  simp [State.domainTrips, ha, hon]

theorem domRetry_again (p t : Nat) (u : State) (ht : (s.dom p).retryAt = some t)
    (hu : u = (s.toLoft t).modDom p (fun x => { x with retryAt := none })) (hshut : s.modState ≠ .shutter)
    (hmay : u.phyMayOn p = true) (hrun : (u.hall (hallOf p)).phase = .run) : s.domRetry p = u.domSet p true := by
  have hagain : (s.alive && s.modState != .shutter && u.phyMayOn p && (u.hall (hallOf p)).phase == .run) = true := by
    simp [ha, hshut, hmay, hrun]
  simp only [State.domRetry, ht, ← hu, if_pos hagain]

end

/-! ### Sensors (15 R461, R462) -/

/-- A sample without a new trip starts no shutter. -/
theorem sampleAll_noTrip (s : State) (ts : List (Option Int)) (u : State)
    (hu : u = each (List.range 8) (fun k t => t.sampleSensor k (ts.getD k none)) s)
    (hquiet : (List.range 8).any (fun k => (u.sensor k).trip && !(s.sensor k).trip) = false) : s.sampleAll ts = u.airCheck := by
  rw [State.sampleAll, ← hu, hquiet]
  rfl

/-- Settles O43: a command reaches its register and acts by the lemma on its domain, every other clause by its own lemma. -/
theorem domainsSensorsRun : Obligations.DomainsSensorsRun := by
  unfold Obligations.DomainsSensorsRun
  refine ⟨?on, ?onNoTap, ?off, ?trip, ?retry, ?sample⟩
  case on =>
    intro s r d hr hsel htap hshut hmay
    exact congrArg State.done ((access17_reaches s _ _ r _ hr).trans (domCmdOn_tap s r d hsel htap hshut hmay))
  case onNoTap =>
    intro s r hr hsel
    exact congrArg State.done ((access17_reaches s _ _ r _ hr).trans (domCmdOn_noTap s r hsel))
  case off =>
    intro s r d hr hsel htap hshut
    exact congrArg State.done ((access17_reaches s _ _ r _ hr).trans (domCmdOff_tap s r d hsel htap hshut))
  case trip =>
    intro s d ha hon
    exact congrArg State.done (domainTrips_on s ha d hon)
  case retry =>
    intro s p t u ht hu ha hshut hmay hrun
    exact congrArg State.done (domRetry_again s ha p t u ht hu hshut hmay hrun)
  case sample =>
    intro s m u hu hquiet
    exact congrArg State.done (sampleAll_noTrip s m.temps u hu hquiet)

end Sys2Proof.Machine
end
